-- ==== Sys2Proof/Word.lean ====
section
/-! DEFINITION. The word types of the part and the plainest arithmetic on them: bytes, little-endian
fields (00_scope.md R1), two's complement codes and sparse tables by key. -/

namespace Sys2Proof

/-- One byte of a packet, a frame, a record or a memory. -/
abbrev Byte := BitVec 8

/-- A byte string, first byte first. -/
abbrev Bytes := List Byte

/-- A sparse table: the entries by rising key. A key that is not listed stands for the default of its kind. -/
abbrev Tbl (α : Type) := List (Nat × α)

/-- The entry of a key, if the table lists it. -/
def Tbl.find {α : Type} (k : Nat) : Tbl α → Option α
  | [] => none
  | (j, x) :: r => if j = k then some x else Tbl.find k r

/-- The entry of a key, or the default `d`. -/
def Tbl.getD {α : Type} (t : Tbl α) (k : Nat) (d : α) : α := (Tbl.find k t).getD d

/-- Write the entry of a key, keeping the keys rising. -/
def Tbl.put {α : Type} (k : Nat) (x : α) : Tbl α → Tbl α
  | [] => [(k, x)]
  | (j, y) :: r => if j = k then (k, x) :: r else if k < j then (k, x) :: (j, y) :: r else (j, y) :: Tbl.put k x r

/-- Take the entry of a key out. -/
def Tbl.del {α : Type} (k : Nat) (t : Tbl α) : Tbl α := t.filter (fun e => e.1 != k)

/-- The keys of a table rise strictly. -/
def Tbl.sorted {α : Type} : Tbl α → Bool
  | [] => true
  | [_] => true
  | (i, _) :: (j, y) :: r => decide (i < j) && Tbl.sorted ((j, y) :: r)

/-- The keys a table lists. -/
def Tbl.keys {α : Type} (t : Tbl α) : List Nat := t.map Prod.fst

end Sys2Proof
end

