-- ==== Sys2Proof/Control.lean ====
section
/-! DEFINITION. What control carries from one outer step to the next (02_grid_forming.md, 03_grid_events.md, 04_brim_engine.md):
the state holds it, and a mirror update of the twin link carries it (14_twin.md R340). -/

namespace Sys2Proof.Machine

open Sys2Proof

/-- Grid modes with the sub-state GF/CL (02_grid_forming.md Table 2.4, MODE). -/
inductive GridMode where
  | none | gf | gfCl | gfl | bs
  deriving DecidableEq, Repr, Inhabited

/-- The code of a grid mode (02_grid_forming.md Table 2.4). -/
def GridMode.code : GridMode → Nat
  | .none => 0 | .gf => 1 | .gfCl => 2 | .gfl => 3 | .bs => 4

/-- A deferred reply owed to an originator (16_command_transport.md R367). -/
structure Owed where
  org : Nat
  opcode : Nat
  tag : Nat
  seq : Nat
  ackReq : Bool
  abortOnErr : Bool
  deriving DecidableEq, Repr, Inhabited

/-- State of the control law of one mode (R42, R50, R55, R69; 03_grid_events.md R84; DESIGN CHOICE, notes/assumptions/15.md). -/
structure Law where
  theta : Rat := 0
  w : Rat := 1
  pF : Rat := 0
  qF : Rat := 0
  xiD : Rat := 0
  xiQ : Rat := 0
  /-- The limiter acted in the last completed step (R52). -/
  limited : Bool := false
  /-- Present P_SET, Q_SET and V_SET of this law, pu. -/
  pSet : Rat := 0
  qSet : Rat := 0
  vSet : Rat := 1
  pRef : Rat := 0
  qRef : Rat := 0
  eRef : Rat := 0
  iD : Rat := 0
  iQ : Rat := 0
  thetaPub : Rat := 0
  /-- v_d of the last step with obs_lock true in GFL (R55). -/
  vdLock : Rat := 1
  intHeld : Bool := false
  deriving DecidableEq, Repr, Inhabited

/-- What a step publishes (R18, R47). -/
structure Pub where
  /-- A step has been published since entry to RUN. -/
  ok : Bool := false
  iD : Rat := 0
  iQ : Rat := 0
  thetaPub : Rat := 0
  w : Rat := 1
  /-- Balancing terms per phase (R54). -/
  circ : List Rat := [0, 0, 0]
  tick : Nat := 0
  /-- During a hand-over blend: λ, and i_d, i_q, θ_pub and w of the incoming law (03_grid_events.md R77). -/
  mixL : Rat := 0
  mixD : Rat := 0
  mixQ : Rat := 0
  mixTheta : Rat := 0
  mixW : Rat := 0
  /-- Scale of the T_stop ramp (01_architecture.md R28). -/
  k : Rat := 1
  deriving DecidableEq, Repr, Inhabited

/-- Values of the last completed step (Table 2.4). -/
structure StepOut where
  tick : Nat := 0
  freq : Int := 0
  thetaPub : Nat := 0
  fGrid : Int := 0
  thetaGrid : Nat := 0
  pF : Int := 0
  qF : Int := 0
  pRef : Int := 0
  eRef : Int := 0
  iD : Int := 0
  iQ : Int := 0
  dfSec : Int := 0
  flags : Nat := 0
  mode : Nat := 0
  delta : Int := 0
  deriving DecidableEq, Repr, Inhabited

/-- A hand-over that is requested or blending (03_grid_events.md R77 to R80). -/
structure HandOver where
  from_ : GridMode
  target : GridMode
  owed : Option Owed := .none
  /-- Blending; else the request pends since `since`. -/
  blending : Bool := false
  since : Nat := 0
  /-- λ, its increment per step, and whether OP_SYS_STOP froze it. -/
  lambda : Rat := 0
  inc : Rat := 1
  frozen : Bool := false
  /-- The incoming law. -/
  inLaw : Law := {}
  /-- A HANDOVER step of the black-start program waits for the blend. -/
  forBs : Bool := false
  /-- GFL_LOSS_ACT = GF asked for it: no disagreement check (R81). -/
  loss : Bool := false
  /-- The check has passed: the blend starts at the next boundary. -/
  passed : Bool := false
  /-- signed(θ − θ_g) of the incoming law's last step (R80). -/
  delta : Rat := 0
  deriving DecidableEq, Repr, Inhabited

/-- Everything that a step changes and that a missed step leaves untouched (R43). -/
structure Run where
  law : Law := {}
  ho : Option HandOver := .none
  /-- Boundary of the last completed step. -/
  last : Nat := 0
  /-- Consecutive limited steps (R68), and since when the limiter has acted without a break (R85). -/
  limRun : Nat := 0
  limSince : Option Nat := .none
  /-- GF/CL: cause mask, δ_entry, e_cl, entry tick, start of the exit hold, EV_GRID_CL_LONG raised, δ ≠ δ*. -/
  clCause : Nat := 0
  deltaEntry : Rat := 0
  eCl : Rat := 0
  clSince : Nat := 0
  exitSince : Option Nat := .none
  clLong : Bool := false
  resync : Bool := false
  /-- δ = signed(θ − θ_g) of the last step and e_ref of it. -/
  delta : Rat := 0
  /-- w_hold of R69. -/
  wHold : Rat := 1
  /-- Synchroniser (R76). -/
  syncRun : Bool := false
  dfSync : Rat := 0
  syncSince : Option Nat := .none
  syncOkSaid : Bool := false
  closeSince : Option Nat := .none
  syncPerm : Bool := false
  /-- Energisation (R84): e_bs, target ramp per second, running, ramped. -/
  eBs : Rat := 0
  bsRate : Rat := 0
  bsRun : Bool := false
  bsDone : Bool := false
  /-- RAMP entry of R86: BS law without a program, then BS → GF. -/
  rampEntry : Bool := false
  /-- References ramped to zero in GFL without lock (R55). -/
  gflP : Rat := 0
  gflQ : Rat := 0
  gflLostSaid : Bool := false
  /-- Lock has returned in GFL and the references still ramp to their targets (R81). -/
  gflRamp : Bool := false
  /-- Tick at which the present grid mode began. -/
  modeSince : Nat := 0
  /-- Scale of the T_stop ramp is formed from the transition; limit flags of the last step, Table 2.5 bits. -/
  lims : Nat := 0
  pub : Pub := {}
  out : StepOut := {}
  deriving DecidableEq, Repr, Inhabited

/-- One point timer of an envelope (R66). -/
structure EnvTimer where
  t : Nat := 0
  said : Bool := false
  /-- Since when the quantity has been beyond LEVEL by the hysteresis. -/
  okSince : Option Nat := .none
  deriving DecidableEq, Repr, Inhabited

/-- A black-start program that runs (R88, R89). -/
structure BsRun where
  step : Nat := 0
  started : Nat := 0
  /-- The step has begun its work. -/
  begun : Bool := false
  /-- The lead's own part of the step has been done. -/
  acted : Bool := false
  halted : Bool := false
  /-- WAIT_V: since when the condition has held. -/
  vSince : Option Nat := .none
  /-- CLOSE: end of the pulse, none before it starts. -/
  pulseTo : Option Nat := .none
  /-- Group step: its transaction, execute-at tick and the members excluded by the retry. -/
  txn : Option Nat := .none
  execAt : Option Nat := .none
  excluded : List Nat := []
  retried : Bool := false
  executed : List Nat := []
  /-- Outcome of the group command: status and executing members. -/
  result : Option (Nat × List Nat) := .none
  /-- WAIT_HOST: OP_GRID_BS_CONTINUE with PROCEED has come while the step was paused (R85). -/
  proceed : Bool := false
  deriving DecidableEq, Repr, Inhabited

/-- A pending transition (R103, R105, R106, R109). -/
structure Pend where
  up : Bool
  /-- Sample instant of the decision. -/
  ts : Nat
  /-- Tick at which the next change is placed. -/
  at_ : Nat
  /-- Deferred under R105. -/
  deferred : Bool := false
  /-- The decision missed its slot (R106). -/
  slipped : Bool := false
  /-- The first change of an ANPC3 chain has been made; the second comes at `at_`. -/
  second : Bool := false
  /-- A chained step of R109. -/
  chain : Bool := false
  deriving DecidableEq, Repr, Inhabited

/-- The grid-event state that a step carries on (03_grid_events.md): envelope timers, detections, the island, the hold and the
program. -/
structure GridEv where
  timer : Tbl EnvTimer := []
  envV : Bool := false
  envF : Bool := false
  rocofHi : Bool := false
  rocofOkSince : Option Nat := .none
  rocofArmed : Bool := true
  jumpLast : Int := 0
  island : Bool := false
  clHold : Bool := false
  bs : Option BsRun := .none
  deriving DecidableEq, Repr, Inhabited

end Sys2Proof.Machine
end

