-- ==== Sys2Proof/Syntax.lean ====
section
/-! DEFINITION. The commands of the block: one constructor per row of spec/opcode_table.json. An OP_ row
carries the request packet whose opcode it is; an event row carries the TBASE tick `t` at which it falls
and what the outside world brings with it (a sample, a frame, a level). -/

namespace Sys2Proof

/-- A request packet that has passed checks 1 to 6 of Table 16.3 (16_command_transport.md R365, R366). -/
structure Req where
  /-- Originator: 0 the QSPI host, else the partner id. -/
  org : Nat
  /-- SEQ of the packet. -/
  seq : Nat
  /-- TAG of the packet. -/
  tag : Nat
  /-- FLAGS.ACKREQ. -/
  ackReq : Bool
  /-- FLAGS.ABORT_ON_ERR. -/
  abortOnErr : Bool
  /-- FLAGS.LAST. -/
  last : Bool
  /-- PAYLOAD, LEN bytes. -/
  payload : Bytes
  deriving DecidableEq, Repr, Inhabited

/-- A 66-bit block of a lane as it is received: its sync header and its 64 bits behind the descrambler
(10_hanel_lanes.md R236). -/
structure CodeBlock where
  hdr : Nat
  bytes : List Byte
  deriving DecidableEq, Repr, Inhabited

/-- A transaction of instruction 0x0B (16_command_transport.md R381): its tick, its address and the registers read. -/
structure RegRead where
  tick : Nat
  addr : Nat
  regs : Nat
  deriving DecidableEq, Repr, Inhabited

/-- A command frame as a node receives it: its class, COMMAND_12 or COMMAND, and its bytes (11_strands_cells.md Table 11.1). -/
structure CmdFrame where
  v12 : Bool
  bytes : List Byte
  deriving DecidableEq, Repr, Inhabited

/-- A transaction of instruction 0x05 (16_command_transport.md R381): its tick and the bytes clocked in its data phase. -/
structure StatusRead where
  tick : Nat
  bytes : Nat
  deriving DecidableEq, Repr, Inhabited

/-- What one converter's calibration measured (08_acquisition.md R210): the factors of Table 8.9. -/
structure CalResult where
  conv : Nat
  ok : Bool
  tempCode : Nat
  offset : Int
  gain : Nat
  skew : Int
  lin : Nat
  deriving DecidableEq, Repr, Inhabited

/-- What a PTP Announce message tells (13_plant_network_time.md R311; IEEE 1588-2019). -/
structure Announce where
  gmId : Nat
  priority1 : Nat
  clockClass : Nat
  accuracy : Nat
  variance : Nat
  priority2 : Nat
  stepsRemoved : Nat
  timeSource : Nat
  deriving DecidableEq, Repr, Inhabited

/-- A PTP message as the standard's decoding gives it; times in ns of the sender. `corr` is correctionField in its unit of
2⁻¹⁶ ns. -/
inductive PtpMsg where
  | announce (dom : Nat) (a : Announce)
  /-- Sync with its origin time, or two-step without one. -/
  | sync (dom gm : Nat) (origin : Option Int) (corr : Int)
  | followUp (dom gm : Nat) (origin : Int) (corr : Int)
  /-- `src` and `req` are the port identity of the requester: its clock identity, then its port number in 16 bits. -/
  | delayReq (dom : Nat) (src : Nat) (corr : Int)
  | delayResp (dom gm req : Nat) (recv : Int) (corr : Int)
  | pdelayReq (dom : Nat) (src : Nat) (corr : Int)
  /-- A peer delay answer with the turnaround at the responder, t3 − t2, in the unit of `corr`; without it where a follow-up
  carries it (two-step). -/
  | pdelayResp (dom req : Nat) (turn : Option Int) (corr : Int)
  | pdelayRespFollowUp (dom req : Nat) (turn : Int) (corr : Int)
  deriving DecidableEq, Repr

/-- What a frame carries around a message of a standard (13_plant_network_time.md R303 to R307). -/
structure MsgHead where
  dst : Bytes := [0, 0, 0, 0, 0, 0]
  src : Bytes := [0, 0, 0, 0, 0, 0]
  /-- Tag, as VLAN of Table 13.1. -/
  vlan : Nat := 0
  /-- Over UDP/IPv4: source address, destination address and port. -/
  udp : Option (Nat × Nat × Nat) := none
  /-- Redundancy control trailer: sequence and LAN. -/
  trailer : Option (Nat × Nat) := none
  /-- Where in its tick the frame starts, in 1/8 tick. -/
  fine : Nat := 0
  deriving DecidableEq, Repr, Inhabited

/-- A member value of a GOOSE message; a FLOAT32 as its 32 bits, a quality as its 13 bits. -/
inductive GVal where
  | bool (b : Bool)
  | int (i : Int)
  | float (b : Nat)
  | qual (q : Nat)
  deriving DecidableEq, Repr, Inhabited

/-- A GOOSE message as IEC 61850-8-1 decodes it. -/
structure GooseMsg where
  appid : Nat
  gocbRef : Bytes
  datSet : Bytes
  goId : Bytes
  /-- timeAllowedToLive in ms. -/
  ttl : Nat
  confRev : Nat
  simulation : Bool
  ndsCom : Bool
  stNum : Nat
  sqNum : Nat
  /-- t of the message in ns, with its TimeQuality octet. -/
  tNs : Int
  tQual : Nat
  members : List GVal
  deriving DecidableEq, Repr, Inhabited

/-- A GOOSE message in its frame. -/
structure GooseFrame where
  head : MsgHead
  msg : GooseMsg
  deriving DecidableEq, Repr, Inhabited

/-- One ASDU of a sampled-value frame (IEC 61850-9-2): per channel value and quality. -/
structure SvAsdu where
  svId : Bytes
  smpCnt : Nat
  confRev : Nat
  smpSynch : Nat
  values : List (Int × Nat)
  deriving DecidableEq, Repr, Inhabited

/-- The path a session segment arrives on (12_partners_sessions.md R287). -/
inductive SegPath where
  | lane (n : Nat)
  | port (n : Nat) (mac : Bytes) (ip udp : Nat)
  deriving DecidableEq, Repr

/-- A Brim channel in a mirror update: b_s, LEVEL, the last change, the pending transition and the servo's state. -/
structure MChan where
  ch : Nat
  bS : Rat
  fMeas : Rat
  bandHeld : Bool
  n : Nat
  clampStep : Bool
  level : Int
  oPlus : Bool
  lastUp : Bool
  lastAt : Option Nat
  pend : Option Machine.Pend
  deriving DecidableEq, Repr, Inhabited

/-- A leg in a mirror update. -/
structure MLeg where
  leg : Nat
  enabled : Bool
  dtR : Nat
  dtF : Nat
  /-- Compensation error that is still pending (06_legs_pwm.md R153). -/
  missR : Nat
  missF : Nat
  carry : Int
  deriving DecidableEq, Repr, Inhabited

/-- What a mirror update of the twin link holds (14_twin.md R340). Every tick in it is in twin time. -/
structure Mirror where
  /-- Boundary of the step. -/
  tick : Nat
  /-- Device state and grid mode as coded in Tables 7.1 and 2.4. -/
  state : Nat
  mode : Nat
  cfgCrc : Nat
  /-- The control laws with what they publish, and the grid-event state. -/
  run : Machine.Run
  events : Machine.GridEv
  /-- Δf_sec in use and its target. -/
  dfSec : Rat
  dfTarget : Rat
  /-- Present values of the two parameter sets. -/
  gfmPresent : Tbl Rat
  gridPresent : Tbl Rat
  chans : List MChan
  legs : List MLeg
  /-- Cell, commanded state, execute-at. -/
  cells : List (Nat × Nat × Nat)
  /-- Reactions applied since the last update, each class on its own: record number, class and the legs and choppers it names. -/
  recs : List (Nat × Nat × Nat)
  deriving DecidableEq, Repr, Inhabited

/-- The commands, one constructor per row of the table (DESIGN CHOICE, notes/assumptions/130.md). -/
inductive Instr where
  /-- R374: Negotiates the interface version, sets EXPECTED to SEQ+1, ends any abort or open chain and sets the originator's
  event mask. -/
  | opSysHello (r : Req)
  /-- R375: Reports EXPECTED, LAST_SENT, OLDEST, HELD and in-flight counts for the originator without changing anything. -/
  | opSysResync (r : Req)
  /-- R376: Re-sends held outbound packets of the originator from FROM with REPLAY set. -/
  | opSysReplay (r : Req)
  /-- R384: Returns HW_ID, state, mode, twin role, running slot, image version and tick. -/
  | opSysGetInfo (r : Req)
  /-- R13: Sets T_step and T_pub in IDLE or ARMED after checking the multiple-of-80 and range rules. -/
  | opSysSetStep (r : Req)
  /-- R27: Moves IDLE to ARMED when TBASE is locked or in holdover and calibration factors are valid. -/
  | opSysArm (r : Req)
  /-- R27: Requests ARMED to RUN in GF, GFL or BS, checking the transition conditions, with the reply deferred to the entry
  boundary. -/
  | opSysRun (r : Req)
  /-- R56: At the entry boundary the device enters RUN, initialises the control law, enables EN_AT_RUN legs and commands
  cells to ZERO_LOW. -/
  | runEntryBoundary (t : Nat)
  /-- R28: Starts the T_stop ramp of all references to zero in RUN. -/
  | opSysStop (r : Req)
  /-- R28: When the T_stop ramp ends, legs go to mitten, cells to their safe state and the device enters ARMED with
  EV_SYS_STATE. -/
  | stopRampEnd (t : Nat)
  /-- R27: Moves ARMED to IDLE. -/
  | opSysDisarm (r : Req)
  /-- R27: Moves IDLE to SERVICE. -/
  | opSysService (r : Req)
  /-- R27: Stops the test functions and moves SERVICE to IDLE, with completion reported by EV_SYS_STATE. -/
  | opSysIdle (r : Req)
  /-- R428: Sets the sag policy and the VCORE warning threshold code. -/
  | opSysSetSag (r : Req)
  /-- R446: Returns DEVICE_ID and the certificate chain in a chained reply. -/
  | opSecGetId (r : Req)
  /-- R447: Returns a signed quote over the nonce, the slot measurements and the configuration measurement. -/
  | opSecQuote (r : Req)
  /-- R440: Chained load of an image into the slot not running, marking the slot LOADING and checking the CRC at the end. -/
  | opSecImageLoad (r : Req)
  /-- R441: Starts verification of a slot, with the reply deferred until the verification ends. -/
  | opSecImageVerify (r : Req)
  /-- R437: Slot verification completes with a VR code, raising EV_SEC_IMAGE and, in BOOT with OK, starting the image. -/
  | slotVerificationDone (t : Nat)
  /-- R442: Writes TRY_SLOT so that the next reset boots that verified slot once. -/
  | opSecSlotSelectTryOnce (r : Req)
  /-- R442: Makes the running slot permanent and advances the rollback fuse if needed. -/
  | opSecSlotSelectPermanent (r : Req)
  /-- R443: Queues ST_ACCEPTED, then resets the device with cause REBOOT. -/
  | opSecReboot (r : Req)
  /-- R445: Verifies the owner signature and blows the owner key hash, the flag and the valid marker. -/
  | opSecOwnerFuse (r : Req)
  /-- R452: Issues a debug nonce valid for 60 s and one response. -/
  | opSecDebugChallenge (r : Req)
  /-- R452: Ends debug access at every level at once. -/
  | opSecDebugLock (r : Req)
  /-- R452: Verifies a signed challenge response and unlocks debug access at the requested level. -/
  | opSecDebugUnlock (r : Req)
  /-- R448: Writes the configuration in force into the older generation of the configuration store. -/
  | opSecCfgSave (r : Req)
  /-- R449: Applies the newest valid saved configuration all-or-nothing, with the reaction table placed in staging. -/
  | opSecCfgLoad (r : Req)
  /-- R450: Returns held journal entries from FROM onward in a chained reply. -/
  | opSecJournalRead (r : Req)
  /-- R450: E12–E13 write a queued fault record or event into the MRAM journal ring. -/
  | journalEntryWrite (t : Nat)
  /-- R308: Configures a PTP domain and restarts it in ACQUIRING. -/
  | opTimeSetDomain (r : Req)
  /-- R322: Returns the state, offset, rate and holdover age of a domain. -/
  | opTimeGetDomain (r : Req)
  /-- R313: Returns a simultaneous tick and network-time pair, the active domain, the residual and the last PPS_IN tick. -/
  | opTimeGet (r : Req)
  /-- R314: Switches the active domain when it is LOCKED and within STEP_TH, then starts the slew of the residual. -/
  | opTimeSetActive (r : Req)
  /-- R315: Schedules a step of network time at the next period boundary of a named leg. -/
  | opTimeStep (r : Req)
  /-- R315: At the leg boundary the domain becomes active and NT is stepped, raising EV_TIME_STEPPED and cancelling prepared
  group transactions. -/
  | timeStepExecuted (t : Nat)
  /-- R316: Sets the PPS_OUT pulse width. -/
  | opTimeSetPps (r : Req)
  /-- R406: Writes the wellspring source list and its AUTO and REVERT bits, possibly starting acquisition or a switch. -/
  | opClkSelect (r : Req)
  /-- R410: Writes the loop configuration, stops TBASE and restarts acquisition. -/
  | opClkSetPll (r : Req)
  /-- R416: Configures the source, format and divider of a reference clock output. -/
  | opClkSetRefout (r : Req)
  /-- R418: Writes the clock gate mask; newly gating a block in use is refused. -/
  | opClkGate (r : Req)
  /-- R419: A gate request takes effect once the accesses in progress complete, after which reads of the block return zero. -/
  | clockGateEffective (t : Nat)
  /-- R421: Returns the clock status, fabric speed, frequency and phase errors and the counters. -/
  | opClkGetStatus (r : Req)
  /-- R37: Stages grid-forming parameter entries after checking the whole packet. -/
  | opGfmSetParam (r : Req)
  /-- R38: Validates the staging copy and makes it the active target, applied at the next step boundary. -/
  | opGfmCommit (r : Req)
  /-- R38: Makes the staging copy equal to the active target. -/
  | opGfmDiscard (r : Req)
  /-- R384: Returns the staged, target and present values of a parameter. -/
  | opGfmGetParam (r : Req)
  /-- R60: Returns the grid-forming state of the last completed step. -/
  | opGfmGetState (r : Req)
  /-- R53: Binds a Brim channel to a reference source, gain and angle offset, or sets a new HOST value. -/
  | opGfmMapChannel (r : Req)
  /-- R58: Sets a new frequency-restoration target from the host or a peer. -/
  | opGfmSetSec (r : Req)
  /-- R62: Stages grid-event parameter entries. -/
  | opGridSetParam (r : Req)
  /-- R63: Validates and commits the grid-event staging copy. -/
  | opGridCommit (r : Req)
  /-- R62: Discards the grid-event staging copy. -/
  | opGridDiscard (r : Req)
  /-- R62: Returns the staged, target and present values of a grid-event parameter. -/
  | opGridGetParam (r : Req)
  /-- R65: Loads one ride-through envelope after checking its points. -/
  | opGridSetEnv (r : Req)
  /-- R70: Ends a CURRENT_LIMIT_MODE hold in RUN. -/
  | opGridClRelease (r : Req)
  /-- R75: Binds three filter outputs as the far-side voltages for the second observer. -/
  | opGridMapSync (r : Req)
  /-- R76: Starts the synchroniser in GF. -/
  | opGridSyncStart (r : Req)
  /-- R76: Stops the synchroniser and ramps df_sync to zero. -/
  | opGridSyncStop (r : Req)
  /-- R74: Clears an island declared only by the ROCOF or PHASE sources. -/
  | opGridIslClear (r : Req)
  /-- R78: Requests a grid-mode hand-over, with the reply deferred. -/
  | opGridSetMode (r : Req)
  /-- R87: Defines a black-start peer group. -/
  | opGridBsGroup (r : Req)
  /-- R87: Loads a black-start program of up to 32 steps. -/
  | opGridBsLoad (r : Req)
  /-- R89: Completes a WAIT_HOST step. -/
  | opGridBsContinueProceed (r : Req)
  /-- R89: Runs a halted program step again. -/
  | opGridBsContinueRetry (r : Req)
  /-- R89: Moves a halted program on to its next step. -/
  | opGridBsContinueSkip (r : Req)
  /-- R89: Ends the running black-start program, leaving the lead in BS. -/
  | opGridBsAbort (r : Req)
  /-- R92: Returns the grid-event state of the last completed step. -/
  | opGridGetState (r : Req)
  /-- R98: Writes one Brim channel configuration on both decision paths. -/
  | opBrimSetChannel (r : Req)
  /-- R111: Defines an arm's cells, safe state and ranking limits. -/
  | opBrimSetArm (r : Req)
  /-- R121: Returns the band, frequency, level, flags and counters of a channel. -/
  | opBrimGetStatus (r : Req)
  /-- R124: Configures the source, multiplier and offset of an angle table. -/
  | opAngleSetTable (r : Req)
  /-- R127: Writes entries into a table's shadow bank. -/
  | opAngleWrite (r : Req)
  /-- R127: Returns entries of either bank of a table. -/
  | opAngleRead (r : Req)
  /-- R128: Checks the shadow-bank CRCs and schedules the bank exchange for the masked tables. -/
  | opAngleSwap (r : Req)
  /-- R128: At the exchange tick the banks swap roles for all users, then the copy-back starts. -/
  | angleBankExchange (t : Nat)
  /-- R128: Copy-back into the new shadow banks completes and EV_ANGLE_SWAPPED is raised. -/
  | angleCopyBackDone (t : Nat)
  /-- R129: Creates or changes a REF_ADD or DUTY_ADD binding. -/
  | opAngleBind (r : Req)
  /-- R129: Removes an existing binding. -/
  | opAngleBindRemove (r : Req)
  /-- R131: Configures the injection generator. -/
  | opAngleInjSet (r : Req)
  /-- R134: Starts injection fade-in at the next step boundary. -/
  | opAngleInjStart (r : Req)
  /-- R134: Fade-in ends and correlation windows start running back to back. -/
  | injectionFadeInDone (t : Nat)
  /-- R138: A correlation window ends and is accepted into the sums or discarded. -/
  | correlationWindowEnd (t : Nat)
  /-- R132: Fade-out ends with EV_ANGLE_INJ_DONE. -/
  | injectionFadeOutDone (t : Nat)
  /-- R139: E12–E13 finish the scan report and raise EV_ANGLE_SCAN_DONE. -/
  | scanReportReady (t : Nat)
  /-- R134: Ends an injection early by fade-out, with no report. -/
  | opAngleInjStop (r : Req)
  /-- R137: Configures the correlator channels C0–C7. -/
  | opAngleCorrSet (r : Req)
  /-- R139: Returns the latest scan report. -/
  | opAngleScanRead (r : Req)
  /-- R141: Writes one leg's configuration. -/
  | opLegSetConfig (r : Req)
  /-- R144: Schedules a new ANCHOR for the masked legs at tick T. -/
  | opLegSync (r : Req)
  /-- R144: At T the counter is recomputed from the new anchor and the period in progress is abandoned. -/
  | legAnchorApplied (t : Nat) (leg : Nat)
  /-- R148: Writes period and duty-set parts of a leg's staging record. -/
  | opLegStage (r : Req)
  /-- R149: Makes the staged pairs of the masked legs pending for their update instants. -/
  | opLegCommit (r : Req)
  /-- R159: Sets a leg's four compares, effective at its next boundary. -/
  | opLegSetCmp (r : Req)
  /-- R160: Puts the masked legs into mitten and marks them disabled. -/
  | opLegDisable (r : Req)
  /-- R161: Enables the masked legs in RUN after checking the fault, mitten and map conditions. -/
  | opLegEnable (r : Req)
  /-- R166: Returns a leg's period, duty, carry, dead times, flags and counters. -/
  | opLegGetStatus (r : Req)
  /-- R168: Writes the fault-input enable mask. -/
  | opGntSetInputs (r : Req)
  /-- R170: Sets the widths of the blanking timers BT0–BT15. -/
  | opGntSetBlank (r : Req)
  /-- R173: Returns the held fault records from a starting REC_NO. -/
  | opGntGetRecords (r : Req)
  /-- R173: Unpins every fault record. -/
  | opGntUnpin (r : Req)
  /-- R177: Writes a staging reaction table from the payload. -/
  | opGntLoadTable (r : Req)
  /-- R177: Writes the factory reaction table into staging. -/
  | opGntLoadTableFactory (r : Req)
  /-- R177: Checks the staged table's CRC and makes it active at the next tick, setting CONFIRMED. -/
  | opGntConfirm (r : Req)
  /-- R177: Returns the active reaction table, its CRC and CONFIRMED. -/
  | opGntGetTable (r : Req)
  /-- R182: Configures one braking chopper. -/
  | opGntSetChop (r : Req)
  /-- R183: Releases the CHOPPER_ON forcing of a chopper. -/
  | opGntChopCtrlRelease (r : Req)
  /-- R186: Takes a chopper out of mitten unless its fault input is asserted. -/
  | opGntChopCtrlEnable (r : Req)
  /-- R187: Leaves TRIPPED for ARMED when no enabled fault input and no MITTEN_N is asserted, releasing breakers and
  FAULT_OUT_N. -/
  | opGntClear (r : Req)
  /-- R189: Raises EV_GNT_HOST and the class HOST_TRIP. -/
  | opGntRaise (r : Req)
  /-- R190: Returns a fault input's flags, counters and chopper energy. -/
  | opGntGetInput (r : Req)
  /-- R194: Configures one converter's timing, sequence and gains. -/
  | opAcqSetConv (r : Req)
  /-- R200: Sets the mode of a fast converter pair. -/
  | opAcqSetPair (r : Req)
  /-- R210: Starts calibration of the masked converters. -/
  | opAcqCalibrate (r : Req)
  /-- R210: Calibration completes and EV_ACQ_CAL_DONE is raised with the valid mask. -/
  | calibrationDone (t : Nat) (results : List CalResult)
  /-- R211: Returns the 20 calibration records. -/
  | opAcqGetCal (r : Req)
  /-- R211: Loads calibration records all-or-nothing after checking them. -/
  | opAcqSetCal (r : Req)
  /-- R211: Writes every valid calibration record into MRAM. -/
  | opAcqSaveCal (r : Req)
  /-- R213: Returns a converter's flags, counters and last words. -/
  | opAcqGetStatus (r : Req)
  /-- R212: Every 10 ms the housekeeping monitor reads each converter's TEMP sensor and checks calibration drift. -/
  | tempMonitorRead (t : Nat) (temps : List Nat)
  /-- R218: Writes a chain's staging header. -/
  | opFiltSetChain (r : Req)
  /-- R218: Writes staging coefficients of a chain. -/
  | opFiltLoadCoef (r : Req)
  /-- R224: Checks the CRC and schedules a chain change, with or without cross-fade. -/
  | opFiltApply (r : Req)
  /-- R225: The chain change takes effect, clearing history or starting a fade, and EV_FILT_APPLIED is raised. -/
  | filterChangeEffective (t : Nat) (chain : Nat)
  /-- R232: Returns a chain's mode, group delay, load, last outputs and counters. -/
  | opFiltGetStatus (r : Req)
  /-- R349: Writes the Pond capture configuration. -/
  | opPondSetCapture (r : Req)
  /-- R352: Arms Pond and starts the pre-trigger phase in a free segment. -/
  | opPondArm (r : Req)
  /-- R352: Ends capture at once, truncating a record in its post-trigger phase. -/
  | opPondDisarm (r : Req)
  /-- R358: Configures the level comparators and event matches. -/
  | opPondSetTrig (r : Req)
  /-- R359: Gives a HOST trigger to Pond. -/
  | opPondTrigger (r : Req)
  /-- R361: Returns bytes of a closed record. -/
  | opPondRead (r : Req)
  /-- R361: Frees a record's segment. -/
  | opPondFree (r : Req)
  /-- R361: Returns the REC_NO of the held records. -/
  | opPondList (r : Req)
  /-- R363: Returns Pond's flags and counters. -/
  | opPondGetStatus (r : Req)
  /-- R234: Selects a quad's reference and drops its four lanes. -/
  | opLaneSetQuad (r : Req)
  /-- R237: Writes a lane's role and equaliser settings. -/
  | opLaneSetConfig (r : Req)
  /-- R238: Drops the masked lanes and starts a training attempt on each. -/
  | opLaneTrain (r : Req)
  /-- R239: In SERVICE sets or searches the alignment position and reports SH_ERR. -/
  | opLaneSlip (r : Req)
  /-- R245: Puts a lane's transmitter or receiver to sleep. -/
  | opLanePowerSleep (r : Req)
  /-- R245: Wakes a lane's transmitter or receiver. -/
  | opLanePowerWake (r : Req)
  /-- R249: Configures the PRBS generator, checker and loopback of a lane in SERVICE. -/
  | opLanePrbs (r : Req)
  /-- R250: Returns a lane's state, flags and counters. -/
  | opLaneGetStatus (r : Req)
  /-- R272: Configures a strand's WATCH, D, D_MARGIN and telemetry offset. -/
  | opStrandSetConfig (r : Req)
  /-- R276: Sends a NODE_SET with CLEAR to a cell and rejoins it in RUN. -/
  | opStrandNodeClear (r : Req)
  /-- R277: Returns a strand's flags, D, latency and counters. -/
  | opStrandGetStatus (r : Req)
  /-- R277: Returns a cell's offsets, latency, flags and last telemetry. -/
  | opStrandGetCell (r : Req)
  /-- R281: Writes the host part of a partner entry. -/
  | opPartSet (r : Req)
  /-- R282: Closes a partner's session and empties its entry. -/
  | opPartRemove (r : Req)
  /-- R282: Returns a partner entry. -/
  | opPartGet (r : Req)
  /-- R282: Returns partner ids of a state. -/
  | opPartList (r : Req)
  /-- R290: Takes a free context and sends OPEN to the partner. -/
  | opPartSessionOpen (r : Req)
  /-- R293: Sends undelivered segments, then CLOSE. -/
  | opPartSessionClose (r : Req)
  /-- R296: Reserves transactions and sends the prepare phase of a group command. -/
  | opPartGroup (r : Req)
  /-- R298: Checks a group prepare's inner packets and holds the prepared transaction. -/
  | opPartPrepare (r : Req)
  /-- R299: Schedules a held transaction for execution at the first boundary at or after t_x. -/
  | opPartCommit (r : Req)
  /-- R299: Cancels a held prepared or committed transaction. -/
  | opPartCancel (r : Req)
  /-- R301: Returns a session context's sequence state and counters. -/
  | opPartSessStatus (r : Req)
  /-- R303: Configures an Ethernet port. -/
  | opNetSetPort (r : Req)
  /-- R317: Sends a host frame on a port, optionally time-stamped. -/
  | opNetSend (r : Req)
  /-- R317: Reads and removes transmit time stamps, optionally clearing OVF. -/
  | opNetTsqRead (r : Req)
  /-- R318: Defines a GOOSE publication. -/
  | opNetGoosePub (r : Req)
  /-- R393: Writes a host value for GOOSE publication. -/
  | opNetGooseValue (r : Req)
  /-- R319: Defines a GOOSE subscription and its bindings. -/
  | opNetGooseSub (r : Req)
  /-- R321: Defines a sampled-value stream. -/
  | opNetSvPub (r : Req)
  /-- R322: Returns a port's flags and counters. -/
  | opNetGetPort (r : Req)
  /-- R326: Writes the twin parameters in IDLE. -/
  | opTwinSetConfig (r : Req)
  /-- R331: The holder stops its heartbeat after one full pulse, puts its legs in mitten and tells the standby. -/
  | opTwinRelease (r : Req)
  /-- R347: Returns its own and the twin's latest health reports. -/
  | opTwinGetStatus (r : Req)
  /-- R400: Returns the minimum and last step slack, optionally clearing the minimum. -/
  | opDiagGetSlack (r : Req)
  /-- R456: Returns the list of saturated counters. -/
  | opDiagGetCnt (r : Req)
  /-- R455: Clears the counters of an opcode's reply for an object, the host window or the whole device. -/
  | opDiagClearCnt (r : Req)
  /-- R464: Returns the self-test failure mask and counters. -/
  | opDiagSelftest (r : Req)
  /-- R458: Issues a test-permit nonce. -/
  | opTestPermitChallenge (r : Req)
  /-- R458: Verifies a signed permit and installs it for a scope and duration. -/
  | opTestPermitGrant (r : Req)
  /-- R458: Ends the test permit at once. -/
  | opTestPermitRevoke (r : Req)
  /-- R458: The permit's duration runs out, ending injections that depend on it. -/
  | testPermitExpiry (t : Nat)
  /-- R459: Starts a fault injection in a slot on a lane, port or session. -/
  | opTestInject (r : Req)
  /-- R462: Ends the injections of the masked slots. -/
  | opTestStop (r : Req)
  /-- R462: Returns the permit and slot status. -/
  | opTestStatus (r : Req)
  /-- R461: An injection ends on duration, count, state, permit or target loss, raising EV_TEST_INJECT. -/
  | testInjectionEnd (t : Nat) (slot : Nat)
  /-- R381: Host writes registers of the window that have no behaviour of their own, such as HW_INT_MASK and the scratch
  registers. -/
  | qspiWriteWindow (t : Nat) (addr : Nat) (data : List Byte)
  /-- R383: Host write of ones clears interrupt cause bits, updating INT_N. -/
  | hwIntCauseW1c (t : Nat) (ones : Nat) (hwSet : Nat)
  /-- R429: Host write of ones clears WARN_SEEN bits unless a warning starts in the same access. -/
  | hwSagWarnSeenClear (t : Nat) (ones : Nat) (starting : Nat)
  /-- R368: Doorbell bit that ends an abort of the QSPI host. -/
  | clearAbort (t : Nat)
  /-- R383: Doorbell bit that discards every queued pull packet, which the replay store keeps. -/
  | flushTx (t : Nat)
  /-- R383: Doorbell bit that sets TX_AVAIL in HW_INT_CAUSE again if the queue is non-empty. -/
  | kick (t : Nat)
  /-- R383: Reading HW_TICK_LO latches the high word into HW_TICK_HI. -/
  | hwTickLoRead (read : RegRead)
  /-- R381: Instruction 0x05 returns the status byte, whose LAST_ERR clears on read. -/
  | qspiReadStatus (read : StatusRead)
  /-- R366: Instruction 0x32 delivers a packet, which is checked and entered in flight or discarded. -/
  | qspiPushPacket (t : Nat) (bytes : List Byte)
  /-- R382: Instruction 0x6B clocks out the head packet, which leaves the queue only when fully read. -/
  | qspiPullPacket (t : Nat) (clocked : Nat)
  /-- R382: An unknown instruction, a bad address or a CS rise inside a byte ends the transaction, setting LAST_ERR. -/
  | qspiBadTransaction (t : Nat)
  /-- R369: No chain continuation within 1 s discards the open chain. -/
  | chainContinuationTimeout (t : Nat) (org : Nat)
  /-- R366: A packet with REPLY set is matched by opcode and tag to a request the device sent. -/
  | replyPacketReceived (t : Nat) (org : Nat) (opcode : Nat) (tag : Nat) (payload : List Byte)
  /-- R42: At each step boundary E0–E3 start the step's control law, event quantities, servos and detections on the outputs
  delivered before it. -/
  | outerStepBoundary (t : Nat)
  /-- R400: E0–E3 complete the step, the slack is stamped and the mirror update is sent. -/
  | outerStepComplete (t : Nat)
  /-- R18: At boundary plus T_pub the step's references and angles take effect on all Brim channels, or a miss is declared. -/
  | publishTick (t : Nat)
  /-- R70: Once the exit conditions have held for CL_EXIT_T, GF/CL is left for GF with a blend and EV_GRID_CL_EXIT. -/
  | gfClExit (t : Nat)
  /-- R71: GF/CL lasting CL_MAX_T raises the class event once. -/
  | evGridClLong (t : Nat)
  /-- R67: An envelope point timer exceeds its DURATION, raising the envelope class event. -/
  | envelopePointExceeded (t : Nat) (env : Nat) (point : Nat)
  /-- R66: A point timer returns to zero after ENV_RESET_T on the right side with hysteresis. -/
  | envelopeTimerReset (t : Nat) (env : Nat) (point : Nat)
  /-- R49: The observer conditions have held for 100 ms, so obs_lock becomes true with EV_GFM_OBS_LOCK. -/
  | obsLockGained (t : Nat)
  /-- R39: The step count of every class B blend runs out. -/
  | evGfmBlendDone (t : Nat)
  /-- R59: No Δf_sec has arrived within SEC_TO, so SEC_STALE is set. -/
  | evGfmSecStale (t : Nat)
  /-- R78: λ reaches 1, the hand-over completes with EV_GRID_MODE and the deferred reply. -/
  | handoverBlendDone (t : Nat)
  /-- R78: HO_TO passes without a passing check, giving ST_REFUSED and EV_GRID_HO_REFUSED. -/
  | handoverPendingTimeout (t : Nat)
  /-- R81: obs_lock false in GFL for GFL_LOSS_T raises the class event and applies GFL_LOSS_ACT. -/
  | evGridGflLost (t : Nat)
  /-- R76: The synchronising windows have held for SYNC_T, so the permissive is driven. -/
  | evGridSyncOk (t : Nat)
  /-- R76: |θ_far − θ_g| ≤ 0.1° held for 100 ms stops the synchroniser. -/
  | syncBreakerClosed (t : Nat)
  /-- R88: The black-start program starts its next step, sending a prepare for a group step. -/
  | bsStepStart (t : Nat)
  /-- R88: A program step's completion condition is met and EV_GRID_BS_STEP is raised. -/
  | bsStepComplete (t : Nat)
  /-- R89: A step's TIMEOUT passes, halting the program with EV_GRID_BS_FAIL. -/
  | bsStepTimeout (t : Nat)
  /-- R87: A CLOSE step's PIO pulse ends after ARG1. -/
  | bsClosePulseEnd (t : Nat)
  /-- R87: WAIT_V's voltage condition has held for ARG1. -/
  | bsWaitVHeld (t : Nat)
  /-- R196: A fast converter samples at an ACQ instant, or on a merged trigger, and its self-timed conversion begins. -/
  | acqConversion (t : Nat) (conv : Nat) (pv : Int)
  /-- R16: A fast sample word with its tags reaches its Brim channels, choppers and filter chain in parallel. -/
  | fastWordDelivered (t : Nat) (conv : Nat)
  /-- R102: Each decision path of a channel decides on the sample against reference and band, possibly requesting a transition. -/
  | brimDecision (t : Nat) (ch : Nat) (upset : Nat) (slips : Bool)
  /-- R106: A decision takes effect at its output slot or a late slot and the leg edge is placed. -/
  | brimOutputSlot (t : Nat) (ch : Nat)
  /-- R105: A deferred transition takes effect when the minimum on or off time expires. -/
  | minTimeExpiry (t : Nat) (ch : Nat)
  /-- R109: The second change of an ANPC3 chained step is made at T_CHAIN after LEG_C's dead time. -/
  | anpcChainSecondChange (t : Nat) (ch : Nat)
  /-- R219: A chain takes an input word into its history and, at the decimation count, starts a fine output. -/
  | filterInputWord (t : Nat) (chain : Nat)
  /-- R229: A fine or fast-path output is delivered to E0–E3 and Pond. -/
  | filterOutputDelivered (t : Nat) (chain : Nat)
  /-- R209: An auxiliary decimation window closes and its word is delivered. -/
  | auxWordClose (t : Nat) (conv : Nat) (steps : List Int)
  /-- R154: At a leg's period boundary the duty is formed, pending pairs apply and the pulse is emitted or dropped with carry. -/
  | legPeriodBoundary (t : Nat) (leg : Nat)
  /-- R151: At the TRI apex a pending pair or a re-evaluated duty governs the second half-period. -/
  | legApexUpdate (t : Nat) (leg : Nat)
  /-- R145: The commanded output changes at its edge, deasserting the outgoing gate. -/
  | legOutputEdge (t : Nat) (leg : Nat)
  /-- R152: After the effective dead time the incoming gate is asserted. -/
  | deadTimeExpiry (t : Nat) (leg : Nat)
  /-- R153: LEGn_NODE moves toward the incoming rail and the adaptive dead time is updated. -/
  | nodeCommutation (t : Nat) (leg : Nat) (level : Bool)
  /-- R153: No node transition within DT_MAX counts a miss and may raise EV_LEG_NODE_STUCK. -/
  | commutationWatchEnd (t : Nat) (leg : Nat)
  /-- R157: GL off for REFRESH_MAX forces a low of REFRESH_ON plus dead time. -/
  | refreshGuard (t : Nat) (leg : Nat)
  /-- R157: The forced refresh low ends and the leg returns to its required state. -/
  | refreshLowEnd (t : Nat) (leg : Nat)
  /-- R158: DT_MAX after an overlap ends, the still-requested gate is asserted. -/
  | interlockBlankEnd (t : Nat) (leg : Nat)
  /-- R159: A compare fires at boundary plus VALUE, triggering a conversion, Pond or a TRIG_OUT pulse. -/
  | legCompareFire (t : Nat) (leg : Nat) (cmp : Nat)
  /-- R159: A 32-tick TRIG_OUT pulse ends. -/
  | trigOutPulseEnd (t : Nat) (out : Nat)
  /-- R163: The MIT_DELAY hold ends and the held gates are released. -/
  | mitDelayHoldEnd (t : Nat) (leg : Nat)
  /-- R163: After DT_MAX with the other gate off, the pattern's asserted gate is driven. -/
  | mittenAssertWaitEnd (t : Nat) (leg : Nat)
  /-- R169: A fault input ball goes low; its first assertion is time-stamped. -/
  | faultInputAssert (t : Nat) (input : Nat)
  /-- R169: A fault input clears, counting a glitch or blanked assertion when before recognition. -/
  | faultInputRelease (t : Nat) (input : Nat)
  /-- R172: After 8 ticks asserted outside blanking, the input opens or joins a fault record and its class reacts. -/
  | faultInputRecognised (t : Nat) (input : Nat)
  /-- R171: A blanking window ends; an input still asserted is recognised with LATE. -/
  | blankingWindowEnd (t : Nat) (input : Nat)
  /-- R172: 100 ns after opening, a fault record closes and EV_GNT_FAULT is raised. -/
  | faultRecordClose (t : Nat)
  /-- R181: MITTEN_N goes low. -/
  | mittenNAssert (t : Nat)
  /-- R181: After 8 ticks, every leg is held in mitten in hardware and EV_GNT_MITTEN_IN is raised. -/
  | mittenNQualified (t : Nat)
  /-- R181: MITTEN_N deasserts, ending the hardware hold while the legs stay disabled. -/
  | mittenNRelease (t : Nat)
  /-- R183: A chopper compares its source sample with CODE_ON, CODE_OFF and CODE_TRIP. -/
  | chopperSample (t : Nat) (chop : Nat)
  /-- R183: A chopper edge is placed at sample plus 256 ticks or at the end of its minimum time. -/
  | chopperEdge (t : Nat) (chop : Nat)
  /-- R185: Every 1 µs the resistor energy is updated and EV_CHOP_HOT may be raised. -/
  | chopperEnergyUpdate (t : Nat) (chop : Nat)
  /-- R425: A supply below its warning threshold for 200 ns enters warning and the sag policy acts. -/
  | supplyWarningStart (t : Nat) (supply : Nat)
  /-- R425: A supply above its clear level for 100 µs ends its warning. -/
  | supplyWarningEnd (t : Nat) (supply : Nat)
  /-- R430: A supply below its reset threshold for 5 ns resets the device. -/
  | sagReset (supply : Nat)
  /-- R430: POR_N low for 10 ns resets the device. -/
  | porNReset
  /-- R424: Supplies rise, VIO33 passes 0.8 V and the device drives its gate balls low while in reset. -/
  | powerOn
  /-- R432: After 1 ms of good supplies and POR_N high, straps are read and BOOT starts. -/
  | resetRelease (twinId : Bool) (oscSet : Nat)
  /-- R439: The boot ROM chooses the try or permanent slot, verifies it and starts it or the other slot. -/
  | bootSlotSelection
  /-- R211: The verified image starts, IDLE is entered and saved calibration factors are loaded. -/
  | idleEntryFromBoot (t : Nat)
  /-- R404: The XO settle count of 2^(14+k) cycles completes. -/
  | xoSettleDone
  /-- R403: A wellspring source meets all its READY conditions. -/
  | sourceReady (t : Nat) (src : Nat)
  /-- R403: A source leaves READY, raising EV_CLK_LOSS and possibly a switch, holdover or coast. -/
  | sourceLoss (t : Nat) (src : Nat) (cause : Nat)
  /-- R409: 2.0 ms after acquisition starts TBASE is released and EV_TB_LOCK is raised. -/
  | tbLockDeclared
  /-- R409: Phase error above PE_TH for 64 comparisons loses lock into HOLDOVER or COAST_LOW. -/
  | phaseTrip (t : Nat)
  /-- R411: 60 s of LOCKED sets HOLD_VALID. -/
  | holdValidSet (t : Nat)
  /-- R408: Frequency within 0.1 ppm for 100 ms moves RECOVERING to LOCKED. -/
  | recoveringLocked (t : Nat)
  /-- R412: A source READY for 10 ms after a trip enters RECOVERING. -/
  | phaseTripRecovery (t : Nat)
  /-- R407: A higher list entry READY for 10 s is switched to with REVERT set. -/
  | wellspringRevert (t : Nat)
  /-- R415: A loop held at a control-word end for 10 ms stops TBASE with EV_TB_STOP. -/
  | loopFaultStop (t : Nat)
  /-- R26: A debug halt of E0–E3 puts every leg into mitten in hardware with EV_SYS_HALT. -/
  | debugHalt (t : Nat) (engine : Nat)
  /-- R316: PPS_OUT rises at a whole second of NT. -/
  | ppsOutSecond (t : Nat)
  /-- R316: PPS_OUT falls after PPS_WIDTH. -/
  | ppsOutPulseEnd (t : Nat)
  /-- R313: A rising edge of PPS_IN is time-stamped. -/
  | ppsInEdge (t : Nat)
  /-- R417: A TBASE-sourced REFOUT rises at each multiple of DIV and falls DIV/2 later. -/
  | refoutEdge (t : Nat) (out : Nat)
  /-- R309: A PTP message updates the BMCA, the offset o and the domain servo and state. -/
  | ptpMessageReceived (t : Nat) (port : Nat) (head : MsgHead) (msg : PtpMsg)
  /-- R309: No Sync or Announce for ANNOUNCE_TO intervals moves a domain to HOLDOVER or FREE. -/
  | ptpAnnounceTimeout (t : Nat) (dom : Nat)
  /-- R311: A domain in MASTER sends its Sync, Announce or delay messages. -/
  | ptpMasterMessageTx (t : Nat) (dom : Nat) (kind : Nat)
  /-- R314: The residual r reaches zero with EV_TIME_SLEW_DONE. -/
  | timeSlewDone (t : Nat)
  /-- R305: A port accepts or filters a frame and passes it to PRP, ARP, ICMP, PTP, GOOSE or the shim. -/
  | ethernetFrameReceived (t : Nat) (port : Nat) (frame : List Byte)
  /-- R304: A port's link goes up or down, raising EV_NET_LINK. -/
  | ethernetLinkChange (t : Nat) (port : Nat) (up : Bool)
  /-- R307: Every 2 s a PRP supervision frame is sent. -/
  | prpSupervisionTx (t : Nat) (pair : Nat)
  /-- R307: PRP duplicate or node entries are forgotten after their forget times. -/
  | prpNodeForget (t : Nat) (pair : Nat)
  /-- R317: A stamped frame leaves the ball and its time stamp is queued or dropped with OVF. -/
  | txTimestamp (t : Nat) (port : Nat)
  /-- R318: A GOOSE repeat is sent at its doubling interval. -/
  | gooseRepeatTx (t : Nat) (pub : Nat)
  /-- R319: A subscribed GOOSE message is checked and its bindings updated. -/
  | gooseFrameReceived (t : Nat) (port : Nat) (frame : GooseFrame)
  /-- R320: No accepted message within timeAllowedToLive makes the subscription LOST. -/
  | gooseSubLost (t : Nat) (sub : Nat)
  /-- R321: A sampled-value frame is formed from interpolated chain outputs and sent. -/
  | svSamplePublish (t : Nat) (stream : Nat)
  /-- R288: A session segment is attributed to its partner and handled per KIND, sequence and credits. -/
  | sessionSegmentReceived (t : Nat) (path : SegPath) (seg : List Byte)
  /-- R291: A retransmission timer expires, resending SND_UNA and doubling RTO, or failing the session. -/
  | sessionRetxTimer (t : Nat) (ctx : Nat)
  /-- R291: A DATA segment is acknowledged within 20 µs. -/
  | sessionAckDue (t : Nat) (ctx : Nat)
  /-- R291: An idle session sends an ACK after LIVE_TO/4. -/
  | sessionKeepalive (t : Nat) (ctx : Nat)
  /-- R289: A sender facing a closed credit edge sends a PROBE once per RTO. -/
  | sessionProbe (t : Nat) (ctx : Nat)
  /-- R292: An unanswered OPEN is resent, and the opening fails after RETRY_MAX. -/
  | sessionOpenRetx (t : Nat) (ctx : Nat)
  /-- R292: A CLOSE is resent at each RTO, and the context is freed at the 100 ms limit. -/
  | sessionCloseRetx (t : Nat) (ctx : Nat)
  /-- R290: An AUTO_SESSION entry reopens after its retry wait or when its path is reached. -/
  | autoSessionRetry (t : Nat) (partner : Nat)
  /-- R284: No valid frame for LIVE_TO makes the partner STALE. -/
  | partnerLivenessTimeout (t : Nat) (partner : Nat)
  /-- R294: A freed fabric transaction admits the next waiting work in order. -/
  | txnSlotFreed (t : Nat) (txn : Nat)
  /-- R296: At t0 + PREP_TO, or on all replies, the lead commits or cancels the group command. -/
  | groupPrepareDeadline (t : Nat) (txn : Nat)
  /-- R296: At t_x unacknowledged commits are abandoned. -/
  | groupCommitAbandon (t : Nat) (txn : Nat)
  /-- R296: When every committed member has answered, or at t_x + 20 ms, the lead replies and raises EV_PART_GROUP_DONE. -/
  | groupReplyDue (t : Nat) (txn : Nat)
  /-- R299: A member rechecks and executes a committed transaction at the first boundary at or after t_x. -/
  | groupMemberExecute (t : Nat) (txn : Nat)
  /-- R299: A prepared transaction without a commit is cancelled at T_exp. -/
  | preparedTxnExpiry (t : Nat) (txn : Nat)
  /-- R238: A training attempt starts on a hop. -/
  | laneTrainAttemptStart (t : Nat) (lane : Nat)
  /-- R238: A hop's training state completes and the next begins. -/
  | laneTrainStateAdvance (t : Nat) (lane : Nat)
  /-- R238: A state limit or the 2 ms attempt limit fails the attempt with EV_LANE_TRAIN_TO. -/
  | laneTrainTimeout (t : Nat) (lane : Nat)
  /-- R241: The backoff wait after a failed attempt ends and the next attempt starts. -/
  | laneRetryWaitEnd (t : Nat) (lane : Nat)
  /-- R240: A TRAIN block (HELLO, HELLO_ACK, PORT_RESULT, ECHO) advances training or version negotiation. -/
  | trainBlockReceived (t : Nat) (lane : Nat) (block : List Byte)
  /-- R239: The bit-slip search tests one alignment position over 64-block windows. -/
  | alignSearchStep (t : Nat) (lane : Nat) (bad : Nat)
  /-- R256: The echo exchange to a hop ends and its offset is computed or the attempt fails. -/
  | hopDelayMeasured (t : Nat) (lane : Nat) (delays : List Nat)
  /-- R247: A lane drops on signal loss, header errors, PLL loss or command, raising EV_LANE_DOWN. -/
  | laneDrop (t : Nat) (lane : Nat) (cause : Nat)
  /-- R247: Loss of signal for 1 µs at an awake receiver. -/
  | laneSignalLoss (t : Nat) (lane : Nat)
  /-- R247: A quad PLL loses lock, dropping its four lanes with EV_LANE_QPLL. -/
  | quadPllLoss (t : Nat) (quad : Nat)
  /-- R247: A quad PLL relocks and AUTO_TRAIN lanes start at once. -/
  | quadPllRelock (t : Nat) (quad : Nat)
  /-- R244: The lost lane rejoins at a marker interval with JOIN. -/
  | bondLaneRejoin (t : Nat) (pair : Nat)
  /-- R243: Every 16,384 slots both lanes send a MARKER. -/
  | bondMarkerTx (t : Nat) (pair : Nat)
  /-- R246: After IDLE_AFTER idle blocks a privileged lane sends EIDLE and idles. -/
  | electricalIdleEntry (t : Nat) (lane : Nat)
  /-- R246: A frame or the 100 µs limit makes the transmitter send the exit burst. -/
  | electricalIdleExit (t : Nat) (lane : Nat)
  /-- R236: A received control block is handled by type or counted in BAD_BLOCK. -/
  | controlBlockReceived (t : Nat) (lane : Nat) (block : CodeBlock)
  /-- R254: A queued frame is sent, with suspension and resumption for higher priority. -/
  | laneFrameTransmit (t : Nat) (lane : Nat) (blocks : Nat)
  /-- R245: A woken transmitter or receiver becomes valid after its exit time. -/
  | laneWakeDone (t : Nat) (lane : Nat)
  /-- R249: 16 errors in 64 bits lose PRBS lock with EV_LANE_PRBS_ERR. -/
  | prbsLockLoss (t : Nat) (lane : Nat)
  /-- R255: At each 20 µs boundary every serving head sends SYNC and the ranker lists are rebuilt. -/
  | telemetryCycleBoundary (t : Nat)
  /-- R258: A NODE_SET is sent to a node that is UP or whose fields changed. -/
  | nodeSetTx (t : Nat) (cell : Nat)
  /-- R258: No NODE_ACK in 100 µs resends, and after three retries raises EV_STRAND_NODE_CFG. -/
  | nodeSetAckTimeout (t : Nat) (cell : Nat)
  /-- R258: A matching NODE_ACK is received and the cell partner may enter UP. -/
  | nodeAckReceived (t : Nat) (lane : Nat) (frame : List Byte)
  /-- R266: A cell's TELEMETRY frame updates the ranker's data and counters and checks for a mismatch. -/
  | telemetryReceived (t : Nat) (lane : Nat) (frame : List Byte)
  /-- R268: A cell FAULT frame raises EV_STRAND_CELL_FAULT and removes the cell from the lists. -/
  | faultFrameReceived (t : Nat) (lane : Nat) (frame : List Byte)
  /-- R261: A node checks a COMMAND against state codes, epoch and sequence and queues its events. -/
  | nodeCommandReceived (t : Nat) (node : Nat) (port : Nat) (frame : CmdFrame)
  /-- R262: A node executes a queued main or plan event at its execute-at. -/
  | nodeEventExecute (t : Nat) (node : Nat)
  /-- R257: A node disciplines its time from a SYNC and may set TIME_VALID. -/
  | nodeSyncReceived (t : Nat) (node : Nat) (port : Nat) (frame : List Byte)
  /-- R257: No usable SYNC for 8 cycles clears TIME_VALID; 3 cycles may switch the telemetry head. -/
  | nodeSyncTimeout (t : Nat) (node : Nat)
  /-- R259: A node applies a NODE_SET whole, answers NODE_ACK and may enter its SAFE state. -/
  | nodeSetReceived (t : Nat) (node : Nat) (port : Nat) (frame : List Byte)
  /-- R267: A node sends TELEMETRY at its slot in the cycle. -/
  | nodeTelemetrySlot (t : Nat) (node : Nat)
  /-- R268: A node detects a fault, enters OFF or BYPASS, cancels events and sends FAULT. -/
  | nodeFaultDetect (t : Nat) (node : Nat) (fault : Nat)
  /-- R269: No downstream frame for WATCH sets LINK_LOST and runs out the plans before SAFE. -/
  | nodeWatchExpiry (t : Nat) (node : Nat)
  /-- R256: A target node answers ECHO_REQ exactly 64 block times later. -/
  | nodeEchoRequest (t : Nat) (node : Nat) (port : Nat) (block : List Byte)
  /-- R254: A node forwards a received block cut-through to its other port. -/
  | nodeBlockForward (t : Nat) (node : Nat) (port : Nat) (block : CodeBlock)
  /-- R328: The holder drives a 13-tick CAP_OUT pulse at every 400-tick point. -/
  | capHeartbeatPulse (t : Nat)
  /-- R328: No outer step completed within 2 × T_step stops the heartbeat. -/
  | heartbeatStepWatch (t : Nat)
  /-- R329: A qualifying CAP_IN pulse restarts the lease, cancels a pending take or reveals a split. -/
  | capInPulse (t : Nat) (width : Nat)
  /-- R329: No CAP_IN pulse for LEASE starts the 200 ns guard. -/
  | leaseExpiry (t : Nat)
  /-- R329: After the guard the standby takes the cap if Table 14.2 allows, new epoch, legs live. -/
  | capTake (t : Nat)
  /-- R330: At start-up A, or B after a quiet CAP_IN, takes the cap with cause INITIAL. -/
  | initialCapTake (t : Nat)
  /-- R331: 700 ns after the released holder's last pulse the standby takes the cap with cause RELEASE. -/
  | releaseTakeWaitEnd (t : Nat)
  /-- R340: The standby takes the holder's step state as the start of its next step. -/
  | mirrorUpdateReceived (t : Nat) (update : Mirror)
  /-- R342: E14–E15 compare the standby's step with the holder's and may raise EV_TWIN_CHECK. -/
  | shadowCompare (t : Nat)
  /-- R335: The standby re-sends a holder's cell command on its own heads with RELAY set. -/
  | relayedCommandReceived (t : Nat) (frame : List Byte)
  /-- R341: The standby executes a forwarded state opcode at the same boundary. -/
  | forwardedStateOpcode (t : Nat) (opcode : Nat) (payload : List Byte)
  /-- R347: Every 1 ms each device sends its twin a health report. -/
  | healthReportTx (t : Nat)
  /-- R347: A twin health report is stored. -/
  | healthReportReceived (t : Nat) (report : List Byte)
  /-- R337: The holder sends a refresh before a pending plan event could execute. -/
  | planRefreshDue (t : Nat) (cell : Nat)
  /-- R350: A frame is assembled 1 µs after its capture instant and trigger decisions are made. -/
  | pondCaptureFrame (t : Nat)
  /-- R353: A trigger from a source arrives and is attributed to a frame or counted as missed. -/
  | pondTriggerInput (t : Nat) (source : Nat)
  /-- R359: XTRIG is asserted and qualified for 8 ticks as a trigger. -/
  | xtrigAssert (t : Nat)
  /-- R359: A rising edge on TRIG_IN qualified for 8 ticks is a trigger. -/
  | trigInEdge (t : Nat) (input : Nat)
  /-- R359: Pond's 32-tick XTRIG drive ends. -/
  | xtrigDriveEnd (t : Nat)
  /-- R355: After its last frame a record closes with EV_POND_RECORD and re-arm begins. -/
  | pondRecordClose (t : Nat)
  /-- R355: Re-arm ends and the next pre-trigger phase starts in a free segment or Pond becomes FULL. -/
  | pondRearmEnd (t : Nat)
  /-- R362: The session acknowledges all packets of a streamed record, freeing it. -/
  | pondStreamAcked (t : Nat) (recNo : Nat)
  /-- R361: 100 ms after its last read a record may be overwritten again. -/
  | pondReadHoldEnd (t : Nat) (recNo : Nat)
  /-- R463: A continuous self-test check completes a run and raises EV_DIAG_SELFTEST on a failure or recovery. -/
  | selftestCheckRun (t : Nat) (check : Nat) (pass : Bool)
  /-- R463: 20 ns after a transition a gate, chopper or CAP_OUT ball is read back. -/
  | ballReadback (t : Nat) (ball : Nat) (level : Bool)
  /-- R445: The owner-key fuse sequence completes its marker. -/
  | fuseBlowDone (t : Nat)
  /-- R448: The configuration record is complete in MRAM and the deferred reply is sent. -/
  | cfgSaveDone (t : Nat)
  /-- R165: A debug halt of E0–E3 ends and the engines resume, with the legs left disabled and not re-enabled. -/
  | debugHaltEnd (t : Nat) (engine : Nat)
  /-- R451: An IEEE 1149.1 EXTEST instruction at debug level 3 drives gate and other balls from the boundary-scan register,
  bounded by the leg interlock, in BOOT or SERVICE. -/
  | extest (t : Nat) (values : List Bool)
  /-- R245: The signal detector of a sleeping receiver sees signal and starts the receiver's wake. -/
  | rxSignalDetect (t : Nat) (lane : Nat)
  /-- R246: A receiver in electrical idle retimes its CDR on the 128-UI exit burst and takes its block boundary from the
  word without a bit-slip search. -/
  | exitBurstReceived (t : Nat) (lane : Nat)
  /-- R158: The sliding OVL_WIN passes with the overlap count at or below OVL_LIMIT, clearing the OVL_LIMIT flag and
  re-enabling EV_LEG_OVL_LIMIT. -/
  | ovlWinElapsed (t : Nat) (leg : Nat)
  /-- R459: An item held by a DELAY or REORDER injection is released and queued after DELAY, or 1 ms after it was due. -/
  | injectedItemRelease (t : Nat) (slot : Nat)
  /-- R275: A compliant cell node powers up and holds OFF, with no sequence references, until it accepts a NODE_SET. -/
  | nodePowerUp (t : Nat) (node : Nat)
  deriving DecidableEq, Repr

end Sys2Proof
end

