-- ==== Sys2Proof/WellFormed.lean ====
section
/-! DEFINITION. The commands that the outside can bring: every field within the width the part gives it, every
object number within the number of its objects (01_architecture.md Table 1.1; 16_command_transport.md Table 16.1). -/

namespace Sys2Proof

/-- A request packet as Table 16.1 lays it out: partner ids of 12 bits, SEQ of 32, TAG of 16, LEN at most 4,080
(12_partners_sessions.md Table 12.1, 16_command_transport.md R365). -/
def Req.wf (r : Req) : Bool :=
  decide (r.org < 4096) && decide (r.seq < 2 ^ 32) && decide (r.tag < 65536) && decide (r.payload.length ≤ 4080)

/-- A calibration result of one of the 20 converters (08_acquisition.md R210). -/
def CalResult.wf (c : CalResult) : Bool := decide (c.conv < 20)

/-- A block has a two-bit sync header and 64 bits. -/
def CodeBlock.wf (b : CodeBlock) : Bool := decide (b.hdr < 4) && decide (b.bytes.length = 8)

/-- The addresses of a frame have 6 bytes, and it starts within one of the eight parts of its tick. -/
def headOk (h : MsgHead) : Bool := decide (h.dst.length = 6) && decide (h.src.length = 6) && decide (h.fine < 8)

/-- A tick of the 64-bit counter (00_scope.md R2). -/
def tick (t : Nat) : Bool := decide (t < 2 ^ 64)

/-- A code of `w` bits, two's complement. -/
def code (w : Nat) (v : Int) : Bool := decide (-(2 ^ (w - 1)) ≤ v) && decide (v < 2 ^ (w - 1))

/-- A command as the outside can bring it. The meanings answer every command all the same: an object number beyond
the objects there are names nothing. -/
def Instr.wf (i : Instr) : Bool :=
  match i with
  | .opSysHello r => r.wf
  | .opSysResync r => r.wf
  | .opSysReplay r => r.wf
  | .opSysGetInfo r => r.wf
  | .opSysSetStep r => r.wf
  | .opSysArm r => r.wf
  | .opSysRun r => r.wf
  | .runEntryBoundary t => tick t
  | .opSysStop r => r.wf
  | .stopRampEnd t => tick t
  | .opSysDisarm r => r.wf
  | .opSysService r => r.wf
  | .opSysIdle r => r.wf
  | .opSysSetSag r => r.wf
  | .opSecGetId r => r.wf
  | .opSecQuote r => r.wf
  | .opSecImageLoad r => r.wf
  | .opSecImageVerify r => r.wf
  | .slotVerificationDone t => tick t
  | .opSecSlotSelectTryOnce r => r.wf
  | .opSecSlotSelectPermanent r => r.wf
  | .opSecReboot r => r.wf
  | .opSecOwnerFuse r => r.wf
  | .opSecDebugChallenge r => r.wf
  | .opSecDebugLock r => r.wf
  | .opSecDebugUnlock r => r.wf
  | .opSecCfgSave r => r.wf
  | .opSecCfgLoad r => r.wf
  | .opSecJournalRead r => r.wf
  | .journalEntryWrite t => tick t
  | .opTimeSetDomain r => r.wf
  | .opTimeGetDomain r => r.wf
  | .opTimeGet r => r.wf
  | .opTimeSetActive r => r.wf
  | .opTimeStep r => r.wf
  | .timeStepExecuted t => tick t
  | .opTimeSetPps r => r.wf
  | .opClkSelect r => r.wf
  | .opClkSetPll r => r.wf
  | .opClkSetRefout r => r.wf
  | .opClkGate r => r.wf
  | .clockGateEffective t => tick t
  | .opClkGetStatus r => r.wf
  | .opGfmSetParam r => r.wf
  | .opGfmCommit r => r.wf
  | .opGfmDiscard r => r.wf
  | .opGfmGetParam r => r.wf
  | .opGfmGetState r => r.wf
  | .opGfmMapChannel r => r.wf
  | .opGfmSetSec r => r.wf
  | .opGridSetParam r => r.wf
  | .opGridCommit r => r.wf
  | .opGridDiscard r => r.wf
  | .opGridGetParam r => r.wf
  | .opGridSetEnv r => r.wf
  | .opGridClRelease r => r.wf
  | .opGridMapSync r => r.wf
  | .opGridSyncStart r => r.wf
  | .opGridSyncStop r => r.wf
  | .opGridIslClear r => r.wf
  | .opGridSetMode r => r.wf
  | .opGridBsGroup r => r.wf
  | .opGridBsLoad r => r.wf
  | .opGridBsContinueProceed r => r.wf
  | .opGridBsContinueRetry r => r.wf
  | .opGridBsContinueSkip r => r.wf
  | .opGridBsAbort r => r.wf
  | .opGridGetState r => r.wf
  | .opBrimSetChannel r => r.wf
  | .opBrimSetArm r => r.wf
  | .opBrimGetStatus r => r.wf
  | .opAngleSetTable r => r.wf
  | .opAngleWrite r => r.wf
  | .opAngleRead r => r.wf
  | .opAngleSwap r => r.wf
  | .angleBankExchange t => tick t
  | .angleCopyBackDone t => tick t
  | .opAngleBind r => r.wf
  | .opAngleBindRemove r => r.wf
  | .opAngleInjSet r => r.wf
  | .opAngleInjStart r => r.wf
  | .injectionFadeInDone t => tick t
  | .correlationWindowEnd t => tick t
  | .injectionFadeOutDone t => tick t
  | .scanReportReady t => tick t
  | .opAngleInjStop r => r.wf
  | .opAngleCorrSet r => r.wf
  | .opAngleScanRead r => r.wf
  | .opLegSetConfig r => r.wf
  | .opLegSync r => r.wf
  | .legAnchorApplied t leg => tick t && decide (leg < 48)
  | .opLegStage r => r.wf
  | .opLegCommit r => r.wf
  | .opLegSetCmp r => r.wf
  | .opLegDisable r => r.wf
  | .opLegEnable r => r.wf
  | .opLegGetStatus r => r.wf
  | .opGntSetInputs r => r.wf
  | .opGntSetBlank r => r.wf
  | .opGntGetRecords r => r.wf
  | .opGntUnpin r => r.wf
  | .opGntLoadTable r => r.wf
  | .opGntLoadTableFactory r => r.wf
  | .opGntConfirm r => r.wf
  | .opGntGetTable r => r.wf
  | .opGntSetChop r => r.wf
  | .opGntChopCtrlRelease r => r.wf
  | .opGntChopCtrlEnable r => r.wf
  | .opGntClear r => r.wf
  | .opGntRaise r => r.wf
  | .opGntGetInput r => r.wf
  | .opAcqSetConv r => r.wf
  | .opAcqSetPair r => r.wf
  | .opAcqCalibrate r => r.wf
  | .calibrationDone t results => tick t && results.all CalResult.wf
  | .opAcqGetCal r => r.wf
  | .opAcqSetCal r => r.wf
  | .opAcqSaveCal r => r.wf
  | .opAcqGetStatus r => r.wf
  | .tempMonitorRead t temps => tick t && decide (temps.length ≤ 20)
  | .opFiltSetChain r => r.wf
  | .opFiltLoadCoef r => r.wf
  | .opFiltApply r => r.wf
  | .filterChangeEffective t chain => tick t && decide (chain < 20)
  | .opFiltGetStatus r => r.wf
  | .opPondSetCapture r => r.wf
  | .opPondArm r => r.wf
  | .opPondDisarm r => r.wf
  | .opPondSetTrig r => r.wf
  | .opPondTrigger r => r.wf
  | .opPondRead r => r.wf
  | .opPondFree r => r.wf
  | .opPondList r => r.wf
  | .opPondGetStatus r => r.wf
  | .opLaneSetQuad r => r.wf
  | .opLaneSetConfig r => r.wf
  | .opLaneTrain r => r.wf
  | .opLaneSlip r => r.wf
  | .opLanePowerSleep r => r.wf
  | .opLanePowerWake r => r.wf
  | .opLanePrbs r => r.wf
  | .opLaneGetStatus r => r.wf
  | .opStrandSetConfig r => r.wf
  | .opStrandNodeClear r => r.wf
  | .opStrandGetStatus r => r.wf
  | .opStrandGetCell r => r.wf
  | .opPartSet r => r.wf
  | .opPartRemove r => r.wf
  | .opPartGet r => r.wf
  | .opPartList r => r.wf
  | .opPartSessionOpen r => r.wf
  | .opPartSessionClose r => r.wf
  | .opPartGroup r => r.wf
  | .opPartPrepare r => r.wf
  | .opPartCommit r => r.wf
  | .opPartCancel r => r.wf
  | .opPartSessStatus r => r.wf
  | .opNetSetPort r => r.wf
  | .opNetSend r => r.wf
  | .opNetTsqRead r => r.wf
  | .opNetGoosePub r => r.wf
  | .opNetGooseValue r => r.wf
  | .opNetGooseSub r => r.wf
  | .opNetSvPub r => r.wf
  | .opNetGetPort r => r.wf
  | .opTwinSetConfig r => r.wf
  | .opTwinRelease r => r.wf
  | .opTwinGetStatus r => r.wf
  | .opDiagGetSlack r => r.wf
  | .opDiagGetCnt r => r.wf
  | .opDiagClearCnt r => r.wf
  | .opDiagSelftest r => r.wf
  | .opTestPermitChallenge r => r.wf
  | .opTestPermitGrant r => r.wf
  | .opTestPermitRevoke r => r.wf
  | .testPermitExpiry t => tick t
  | .opTestInject r => r.wf
  | .opTestStop r => r.wf
  | .opTestStatus r => r.wf
  | .testInjectionEnd t slot => tick t && decide (slot < 8)
  | .qspiWriteWindow t addr data => tick t && decide (addr < 256) && decide (data.length ≤ 256)
  | .hwIntCauseW1c t ones hwSet => tick t && decide (ones < 2 ^ 32) && decide (hwSet < 1024)
  | .hwSagWarnSeenClear t ones starting => tick t && decide (ones < 2 ^ 32) && decide (starting < 16)
  | .clearAbort t => tick t
  | .flushTx t => tick t
  | .kick t => tick t
  | .hwTickLoRead read => tick read.tick && decide (read.addr < 256) && decide (read.regs < 65)
  | .qspiReadStatus read => tick read.tick
  | .qspiPushPacket t bytes => tick t && decide (bytes.length ≤ 4100)
  | .qspiPullPacket t clocked => tick t && decide (clocked < 2 ^ 32)
  | .qspiBadTransaction t => tick t
  | .chainContinuationTimeout t org => tick t && decide (org < 4096)
  | .replyPacketReceived t org opcode tag payload => tick t && decide (org < 4096) && decide (opcode < 65536) && decide (tag < 65536) && decide (payload.length ≤ 4080)
  | .outerStepBoundary t => tick t
  | .outerStepComplete t => tick t
  | .publishTick t => tick t
  | .gfClExit t => tick t
  | .evGridClLong t => tick t
  | .envelopePointExceeded t env point => tick t && decide (env < 4) && decide (point < 16)
  | .envelopeTimerReset t env point => tick t && decide (env < 4) && decide (point < 16)
  | .obsLockGained t => tick t
  | .evGfmBlendDone t => tick t
  | .evGfmSecStale t => tick t
  | .handoverBlendDone t => tick t
  | .handoverPendingTimeout t => tick t
  | .evGridGflLost t => tick t
  | .evGridSyncOk t => tick t
  | .syncBreakerClosed t => tick t
  | .bsStepStart t => tick t
  | .bsStepComplete t => tick t
  | .bsStepTimeout t => tick t
  | .bsClosePulseEnd t => tick t
  | .bsWaitVHeld t => tick t
  | .acqConversion t conv pv => tick t && decide (conv < 20) && code 44 pv
  | .fastWordDelivered t conv => tick t && decide (conv < 20)
  | .brimDecision t ch upset _ => tick t && decide (ch < 64) && decide (upset < 4)
  | .brimOutputSlot t ch => tick t && decide (ch < 64)
  | .minTimeExpiry t ch => tick t && decide (ch < 64)
  | .anpcChainSecondChange t ch => tick t && decide (ch < 64)
  | .filterInputWord t chain => tick t && decide (chain < 20)
  | .filterOutputDelivered t chain => tick t && decide (chain < 20)
  | .auxWordClose t conv steps => tick t && decide (conv < 20) && decide (steps.length ≤ 4096) && steps.all (code 44)
  | .legPeriodBoundary t leg => tick t && decide (leg < 48)
  | .legApexUpdate t leg => tick t && decide (leg < 48)
  | .legOutputEdge t leg => tick t && decide (leg < 48)
  | .deadTimeExpiry t leg => tick t && decide (leg < 48)
  | .nodeCommutation t leg _ => tick t && decide (leg < 48)
  | .commutationWatchEnd t leg => tick t && decide (leg < 48)
  | .refreshGuard t leg => tick t && decide (leg < 48)
  | .refreshLowEnd t leg => tick t && decide (leg < 48)
  | .interlockBlankEnd t leg => tick t && decide (leg < 48)
  | .legCompareFire t leg cmp => tick t && decide (leg < 48) && decide (cmp < 4)
  | .trigOutPulseEnd t out => tick t && decide (out < 2)
  | .mitDelayHoldEnd t leg => tick t && decide (leg < 48)
  | .mittenAssertWaitEnd t leg => tick t && decide (leg < 48)
  | .faultInputAssert t input => tick t && decide (input < 50)
  | .faultInputRelease t input => tick t && decide (input < 50)
  | .faultInputRecognised t input => tick t && decide (input < 50)
  | .blankingWindowEnd t input => tick t && decide (input < 50)
  | .faultRecordClose t => tick t
  | .mittenNAssert t => tick t
  | .mittenNQualified t => tick t
  | .mittenNRelease t => tick t
  | .chopperSample t chop => tick t && decide (chop < 2)
  | .chopperEdge t chop => tick t && decide (chop < 2)
  | .chopperEnergyUpdate t chop => tick t && decide (chop < 2)
  | .supplyWarningStart t supply => tick t && decide (supply < 4)
  | .supplyWarningEnd t supply => tick t && decide (supply < 4)
  | .sagReset supply => decide (supply < 4)
  | .porNReset => true
  | .powerOn => true
  | .resetRelease _ oscSet => decide (oscSet < 8)
  | .bootSlotSelection => true
  | .idleEntryFromBoot t => tick t
  | .xoSettleDone => true
  | .sourceReady t src => tick t && decide (src < 256)
  | .sourceLoss t src cause => tick t && decide (src < 256) && decide (cause < 16)
  | .tbLockDeclared => true
  | .phaseTrip t => tick t
  | .holdValidSet t => tick t
  | .recoveringLocked t => tick t
  | .phaseTripRecovery t => tick t
  | .wellspringRevert t => tick t
  | .loopFaultStop t => tick t
  | .debugHalt t engine => tick t && decide (engine < 16)
  | .ppsOutSecond t => tick t
  | .ppsOutPulseEnd t => tick t
  | .ppsInEdge t => tick t
  | .refoutEdge t out => tick t && decide (out < 4)
  | .ptpMessageReceived t port head _ => tick t && decide (port < 4) && headOk head
  | .ptpAnnounceTimeout t dom => tick t && decide (dom < 2)
  | .ptpMasterMessageTx t dom kind => tick t && decide (dom < 2) && decide (kind < 8)
  | .timeSlewDone t => tick t
  | .ethernetFrameReceived t port frame => tick t && decide (port < 4) && decide (frame.length ≤ 10240)
  | .ethernetLinkChange t port _ => tick t && decide (port < 4)
  | .prpSupervisionTx t pair => tick t && decide (pair < 2)
  | .prpNodeForget t pair => tick t && decide (pair < 2)
  | .txTimestamp t port => tick t && decide (port < 4)
  | .gooseRepeatTx t pub => tick t && decide (pub < 256)
  | .gooseFrameReceived t port frame => tick t && decide (port < 4) && headOk frame.head
  | .gooseSubLost t sub => tick t && decide (sub < 256)
  | .svSamplePublish t stream => tick t && decide (stream < 256)
  | .sessionSegmentReceived t _ seg => tick t && decide (seg.length ≤ 10240)
  | .sessionRetxTimer t ctx => tick t && decide (ctx < 256)
  | .sessionAckDue t ctx => tick t && decide (ctx < 256)
  | .sessionKeepalive t ctx => tick t && decide (ctx < 256)
  | .sessionProbe t ctx => tick t && decide (ctx < 256)
  | .sessionOpenRetx t ctx => tick t && decide (ctx < 256)
  | .sessionCloseRetx t ctx => tick t && decide (ctx < 256)
  | .autoSessionRetry t partner => tick t && decide (partner < 4096)
  | .partnerLivenessTimeout t partner => tick t && decide (partner < 4096)
  | .txnSlotFreed t txn => tick t && decide (txn < 65536)
  | .groupPrepareDeadline t txn => tick t && decide (txn < 65536)
  | .groupCommitAbandon t txn => tick t && decide (txn < 65536)
  | .groupReplyDue t txn => tick t && decide (txn < 65536)
  | .groupMemberExecute t txn => tick t && decide (txn < 65536)
  | .preparedTxnExpiry t txn => tick t && decide (txn < 65536)
  | .laneTrainAttemptStart t lane => tick t && decide (lane < 16)
  | .laneTrainStateAdvance t lane => tick t && decide (lane < 16)
  | .laneTrainTimeout t lane => tick t && decide (lane < 16)
  | .laneRetryWaitEnd t lane => tick t && decide (lane < 16)
  | .trainBlockReceived t lane block => tick t && decide (lane < 16) && decide (block.length ≤ 4096)
  | .alignSearchStep t lane bad => tick t && decide (lane < 16) && decide (bad < 2 ^ 16)
  | .hopDelayMeasured t lane delays => tick t && decide (lane < 16) && decide (delays.length ≤ 256)
  | .laneDrop t lane cause => tick t && decide (lane < 16) && decide (cause < 16)
  | .laneSignalLoss t lane => tick t && decide (lane < 16)
  | .quadPllLoss t quad => tick t && decide (quad < 4)
  | .quadPllRelock t quad => tick t && decide (quad < 4)
  | .bondLaneRejoin t pair => tick t && decide (pair < 8)
  | .bondMarkerTx t pair => tick t && decide (pair < 8)
  | .electricalIdleEntry t lane => tick t && decide (lane < 16)
  | .electricalIdleExit t lane => tick t && decide (lane < 16)
  | .controlBlockReceived t lane block => tick t && decide (lane < 16) && block.wf
  | .laneFrameTransmit t lane blocks => tick t && decide (lane < 16) && decide (blocks < 2 ^ 16)
  | .laneWakeDone t lane => tick t && decide (lane < 16)
  | .prbsLockLoss t lane => tick t && decide (lane < 16)
  | .telemetryCycleBoundary t => tick t
  | .nodeSetTx t cell => tick t && decide (cell < 4096)
  | .nodeSetAckTimeout t cell => tick t && decide (cell < 4096)
  | .nodeAckReceived t lane frame => tick t && decide (lane < 16) && decide (frame.length ≤ 10240)
  | .telemetryReceived t lane frame => tick t && decide (lane < 16) && decide (frame.length ≤ 10240)
  | .faultFrameReceived t lane frame => tick t && decide (lane < 16) && decide (frame.length ≤ 10240)
  | .nodeCommandReceived t node port frame => tick t && decide (node < 4096) && decide (port < 2) && decide (frame.bytes.length ≤ 10240)
  | .nodeEventExecute t node => tick t && decide (node < 4096)
  | .nodeSyncReceived t node port frame => tick t && decide (node < 4096) && decide (port < 2) && decide (frame.length ≤ 10240)
  | .nodeSyncTimeout t node => tick t && decide (node < 4096)
  | .nodeSetReceived t node port frame => tick t && decide (node < 4096) && decide (port < 2) && decide (frame.length ≤ 10240)
  | .nodeTelemetrySlot t node => tick t && decide (node < 4096)
  | .nodeFaultDetect t node fault => tick t && decide (node < 4096) && decide (fault < 512)
  | .nodeWatchExpiry t node => tick t && decide (node < 4096)
  | .nodeEchoRequest t node port block => tick t && decide (node < 4096) && decide (port < 2) && decide (block.length ≤ 4096)
  | .nodeBlockForward t node port block => tick t && decide (node < 4096) && decide (port < 2) && block.wf
  | .capHeartbeatPulse t => tick t
  | .heartbeatStepWatch t => tick t
  | .capInPulse t width => tick t && decide (width < 2 ^ 64)
  | .leaseExpiry t => tick t
  | .capTake t => tick t
  | .initialCapTake t => tick t
  | .releaseTakeWaitEnd t => tick t
  | .mirrorUpdateReceived t update => tick t && decide (update.chans.length ≤ 64) && decide (update.legs.length ≤ 48)
  | .shadowCompare t => tick t
  | .relayedCommandReceived t frame => tick t && decide (frame.length ≤ 10240)
  | .forwardedStateOpcode t opcode payload => tick t && decide (opcode < 65536) && decide (payload.length ≤ 4080)
  | .healthReportTx t => tick t
  | .healthReportReceived t report => tick t && decide (report.length ≤ 4096)
  | .planRefreshDue t cell => tick t && decide (cell < 4096)
  | .pondCaptureFrame t => tick t
  | .pondTriggerInput t source => tick t && decide (source < 16)
  | .xtrigAssert t => tick t
  | .trigInEdge t input => tick t && decide (input < 4)
  | .xtrigDriveEnd t => tick t
  | .pondRecordClose t => tick t
  | .pondRearmEnd t => tick t
  | .pondStreamAcked t recNo => tick t && decide (recNo < 2 ^ 64)
  | .pondReadHoldEnd t recNo => tick t && decide (recNo < 2 ^ 64)
  | .selftestCheckRun t check _ => tick t && decide (check < 32)
  | .ballReadback t ball _ => tick t && decide (ball < 900)
  | .fuseBlowDone t => tick t
  | .cfgSaveDone t => tick t
  | .debugHaltEnd t engine => tick t && decide (engine < 16)
  | .extest t values => tick t && decide (values.length ≤ 96)
  | .rxSignalDetect t lane => tick t && decide (lane < 16)
  | .exitBurstReceived t lane => tick t && decide (lane < 16)
  | .ovlWinElapsed t leg => tick t && decide (leg < 48)
  | .injectedItemRelease t slot => tick t && decide (slot < 8)
  | .nodePowerUp t node => tick t && decide (node < 4096)

end Sys2Proof
end

