-- ==== Sys2Proof/Decode.lean ====
section
/-! DEFINITION. Commands that a table word spells. The opcode table gives no row any bits, so no word spells one. -/

namespace Sys2Proof

/-- The command that a word of `nbits` bits spells. -/
def decodeTableWord (_nbits _w : Nat) : Option Instr := none

end Sys2Proof
end

