-- ==== Sys2Proof/Config.lean ====
section
/-! DEFINITION. The free values: what the spec leaves open or leaves to standards this model does not compute.
None of these constants has a body, so no proof can rest on a value of theirs (DESIGN CHOICE, notes/assumptions/2.md). -/

namespace Sys2Proof.Config

/-- Free bits: the n-th value the part draws where the spec states none (random nonces, unstated results). -/
opaque freeNat : Nat → Nat
/-- Free reals for results the spec does not state (DESIGN CHOICE, notes/assumptions/2.md), n-th draw. -/
opaque freeRat : Nat → Rat
/-- Free bytes: `freeBytes n k` is the k-th byte of the n-th byte string the part draws. -/
opaque freeByte : Nat → Nat → BitVec 8
/-- Private keys of the device (0), the product CA (1) and the root (2) of Vileodor (20_security.md R446). -/
opaque secret : Nat → Nat
/-- The number k that a signer takes for a message (GB/T 32918): signer, message. -/
opaque signNonce : Nat → Bytes → Nat
/-- DEVICE_ID, 8 bytes in order (20_security.md R446). -/
opaque deviceId : Bytes
/-- What a certificate says beside its key: certificate; 0 the subject's name, 1 the serial number, 2 the validity, 3 the
extensions, the contents of each in DER (20_security.md R446). -/
opaque certField : Nat → Nat → Bytes
/-- Cosine of an angle in turns, away from quarter turns. -/
opaque cosTurn : Rat → Rat
/-- Sine of an angle in turns, away from quarter turns. -/
opaque sinTurn : Rat → Rat
/-- Square root of a non-negative real. -/
opaque sqrt : Rat → Rat
/-- Angle in turns of a vector (d, q) off the axes, in (−1/2, 1/2]. -/
opaque atan2Turn : Rat → Rat → Rat
/-- Exponential, used where the spec names a first-order response. -/
opaque exp : Rat → Rat
/-- Quantity k (0 to 2 phase voltages in volts, 3 to 5 phase currents in amperes) that the image's mapping forms from the
codes of the twenty chains; the spec names no mapping (DESIGN CHOICE, notes/assumptions/3.md). -/
opaque measure : Nat → List Int → Rat
/-- The voltage in volts that a far-side chain's code stands for (03_grid_events.md R75 gives no scale). -/
opaque farVolt : Int → Rat
/-- Positive-sequence magnitude and angle (turns) of the phase voltages of the last period. -/
opaque posSeq : List (Rat × Rat × Rat) → Rat × Rat
/-- The observer's angle and speed after a step, from its prediction, its speed, the measured angle, dt and F_OBS
(02_grid_forming.md R49 gives the bandwidth, not the structure). -/
opaque observe : Rat → Rat → Rat → Rat → Rat → Rat × Rat
/-- Where in its sequence a PRBS of order n starts (05_angle_tables_injection.md R132; DESIGN CHOICE, notes/assumptions/39.md). -/
opaque prbsPhase : Nat → Nat
/-- The register with which a lane's PRBS of a pattern starts, less 1 (10_hanel_lanes.md R249 gives the polynomials and no start;
DESIGN CHOICE, notes/assumptions/39.md). -/
opaque laneSeed : Nat → Nat
/-- The direction of balancing component k (0 and 1 negative sequence, 2 to 4 circulating per phase) for the SoC difference of
an arm (02_grid_forming.md R54 gives the proportionality, not the directions). -/
opaque balance : Nat → Nat → Rat
/-- Phase correction in ns and rate of the servo of a time domain, from BW, the offset o in ns and the present rate
(13_plant_network_time.md R309 names a PI loop of bandwidth BW, not its gains; DESIGN CHOICE, notes/assumptions/34.md). -/
opaque servo : Nat → Rat → Rat → Rat × Rat
/-- Clock class, accuracy and variance that a domain in MASTER advertises, from CLOCK_CLASS and the active domain's state
(13_plant_network_time.md R309 says that they follow it, not how; DESIGN CHOICE, notes/assumptions/35.md). -/
opaque masterFields : Nat → Nat → Nat × Nat × Nat × Nat
/-- How many of the DATA segments that a session has received count as recent traffic at a draw (12_partners_sessions.md
R289 lends buffers in proportion to it and does not say over which time; DESIGN CHOICE, notes/assumptions/89.md). -/
opaque recent : Nat → Nat → Nat → Nat
/-- Dead time of a cell node's half-bridges in ticks (11_strands_cells.md R260 leaves it to the node). -/
opaque nodeDead : Nat → Nat
/-- The code that a converter without valid factors forms where R193 gives a code: it carries the converter's own offset and
gain error (08_acquisition.md R210; DESIGN CHOICE, notes/assumptions/38.md). -/
opaque ownError : Nat → Int → Int
/-- The code that a converter forms of a raw result with the OFFSET, GAIN and LIN of its factors (08_acquisition.md
Table 8.9 gives the factors, not the correction; DESIGN CHOICE, notes/assumptions/38.md). -/
opaque calibrate : Int → Nat → Bytes → Int → Int

/-- What field `f` of a reply holds of a number that its format cannot (DESIGN CHOICE, notes/assumptions/33.md); the spec
states the format and no value there. -/
opaque beyond : Nat → Int → Nat

end Sys2Proof.Config
end

