-- ==== Sys2Proof/Machine/State.lean ====
section
/-! DEFINITION. The state of the block as plain data: every register, table, buffer, counter, mode and ball
the spec gives the machine, the queue of waiting commands, and the machine right after reset. -/

namespace Sys2Proof.Machine

open Sys2Proof

/-- Why the machine stops with a fault. No meaning of this model stops with one: every command of the table
has an effect in the spec. The constructor stands for a state the block cannot be in. -/
inductive Fault where
  /-- Raised by nothing; kept so that the type is not empty. Safe. -/
  | unreachable
  deriving DecidableEq, Repr

/-- Why a command is refused by the model. -/
inductive Refusal where
  /-- The command has no meaning in the model yet; raised by its arm of exec. Safe. -/
  | notModelled (mnemonic : String)
  deriving DecidableEq, Repr

/-! ### Device and step (01_architecture.md) -/

/-- Device states (01_architecture.md Table 1.4), in the order of STATE of Table 7.1. -/
inductive DevState where
  | boot | idle | armed | run | tripped | service
  deriving DecidableEq, Repr, Inhabited

/-- The code of a device state (07_gauntlet.md Table 7.1, STATE). -/
def DevState.code : DevState → Nat
  | .boot => 0 | .idle => 1 | .armed => 2 | .run => 3 | .tripped => 4 | .service => 5

/-- A state transition of Table 1.5 that is still completing (01_architecture.md R27, R28, R31). -/
inductive Trans where
  /-- OP_SYS_RUN accepted: RUN is entered at the next boundary in the mode named (R56); the reply is owed to nobody
  where a standby follows its holder. -/
  | toRun (mode : GridMode) (obsLock : Bool) (owed : Option Owed)
  /-- OP_SYS_STOP accepted: the ramp of R28, from its start tick over its length in ms. -/
  | stopRamp (start : Nat) (ms : Nat)
  deriving DecidableEq, Repr, Inhabited

/-- The outer step and the device state. -/
structure Sys where
  state : DevState := .boot
  mode : GridMode := .none
  trans : Option Trans := .none
  /-- T_step in ticks (R13). -/
  tStep : Nat := 32000
  /-- T_pub in ticks (R14). -/
  tPub : Nat := 16000
  /-- Boundary of the step that has started and is not complete (R17). -/
  stepStart : Option Nat := .none
  /-- Boundaries of earlier steps that are not complete either, oldest first (R19). -/
  late : List Nat := []
  /-- Completion tick of the step that waits for its publish tick (R400). -/
  stepDone : Option Nat := .none
  /-- Boundary of the step whose publish tick comes next. -/
  pubFor : Option Nat := .none
  /-- Tick of the last completion (14_twin.md R328). -/
  doneAt : Nat := 0
  /-- Consecutive step misses (R19). -/
  missRun : Nat := 0
  /-- Least slack since it was cleared, ns, signed (R19, R400). -/
  minSlack : Int := 0
  /-- Slack of the last completed step, ns, signed. -/
  lastSlack : Int := 0
  /-- Tick at which MIN_SLACK was taken. -/
  minTick : Nat := 0
  /-- MIN_SLACK takes the next completed step's slack. -/
  slackFresh : Bool := true
  /-- Engines E0 to E3 halted by debug, bit n for En (R26, R165). -/
  halted : Nat := 0
  deriving DecidableEq, Repr, Inhabited

/-! ### Command packets (16_command_transport.md) -/

/-- A packet the device sends: a reply, an event, a stream packet or a request of its own (Table 16.1). -/
structure OutPkt where
  ver : Nat := 0x32
  flags : Nat
  opcode : Nat
  seq : Nat
  tag : Nat
  target : Nat
  payload : Bytes
  deriving DecidableEq, Repr, Inhabited

/-- A packet in the replay store (R373): its originator and, for a reply, the SEQ of its request (DESIGN CHOICE,
notes/assumptions/19.md). -/
structure Stored where
  org : Nat
  reqSeq : Option Nat
  pkt : OutPkt
  deriving DecidableEq, Repr, Inhabited

/-- A packet in flight (R377). -/
structure Flight where
  org : Nat
  seq : Nat
  opcode : Nat
  tag : Nat
  bytes : Nat
  ackReq : Bool := false
  abortOnErr : Bool := false
  /-- It has started, and its reply is deferred or waits for space (R367, R378, R379). -/
  begun : Bool := false
  /-- The path it came on: session context, or none for QSPI and bare packets (R380). -/
  path : Option Nat := .none
  /-- Tick of its arrival. -/
  since : Nat := 0
  deriving DecidableEq, Repr, Inhabited

/-- An open chain of an originator (R369). -/
structure Chain where
  opcode : Nat
  tag : Nat
  payload : Bytes
  /-- Tick at which the last chain packet arrived; the next is due within 1 s. -/
  since : Nat
  deriving DecidableEq, Repr, Inhabited

/-- One originator of packets (R371 to R380). -/
structure Orig where
  /-- EXPECTED; none: no reference held. -/
  expected : Option Nat := .none
  /-- A gap has been answered since EXPECTED last changed. -/
  gapSaid : Bool := false
  /-- SEQ of the next outbound packet. -/
  nextOut : Nat := 1
  /-- TAG of the batch abort in force (R368). -/
  aborting : Option Nat := .none
  chain : Option Chain := .none
  /-- OPCODE and TAG of a chain that ran out of time; its next continuation is refused (R369). -/
  deadChain : Option (Nat × Nat) := .none
  /-- Negotiated version (R374). -/
  ver : Nat := 0x32
  /-- Event mask: bit n enables family n. -/
  evMask : Nat := 0
  /-- Outbound queue: packets queued and not yet sent, oldest first. -/
  outq : List OutPkt := []
  /-- Replies that wait for space in the outbound queue (R379), with the SEQ of their requests. -/
  waitq : List (OutPkt × Option Nat) := []
  /-- Events dropped for this originator (R379). -/
  evLost : Nat := 0
  /-- The path of its latest accepted packet: session context, or none for QSPI and bare packets (R380). -/
  path : Option Nat := .none
  deriving DecidableEq, Repr, Inhabited

/-- The command transport. -/
structure Pkt where
  /-- Originators by id: 0 the QSPI host, else partner ids. -/
  orig : Tbl Orig := [(0, { evMask := 0xFFFFFFFFFFFFFFFF })]
  /-- Packets in flight, oldest first. -/
  inFlight : List Flight := []
  /-- Replay store, oldest first. -/
  store : List Stored := []
  /-- Requests the device itself has sent and that are outstanding: partner, opcode, tag and group number. -/
  sent : List (Nat × Nat × Nat × Nat) := []
  /-- Tag of the device's next own request. -/
  nextTag : Nat := 1
  /-- The next request that reaches its chapter meets a failure inside the device (17_opcodes.md R385); nothing in the model
  sets it. -/
  failing : Bool := false
  deriving DecidableEq, Repr, Inhabited

/-- The QSPI port and the host window (R381 to R383). -/
structure Win where
  ready : Bool := false
  lastErr : Bool := false
  intCause : Nat := 0
  intMask : Nat := 0x2A0
  tickHi : Nat := 0
  /-- HW_SCRATCH0 to 7. -/
  scratch : Tbl Nat := []
  /-- Bytes the port drove in the data phase of the last transaction (the model's record of the ball). -/
  hostOut : Bytes := []
  deriving DecidableEq, Repr, Inhabited
/-! ### Grid-forming control and grid events (02_grid_forming.md, 03_grid_events.md) -/

/-- One parameter set with staging, target and present values (02_grid_forming.md R37 to R40), by identifier.
Identifiers that are not listed stand at the defaults of Table 2.1 or 3.1. -/
structure PSet where
  staged : Tbl Int := []
  target : Tbl Int := []
  /-- Values in use, in code units. -/
  present : Tbl Rat := []
  /-- Identifiers staged since the last commit or discard. -/
  touched : List Nat := []
  /-- Identifiers named since the commit that waits for its boundary; none: no commit waits. -/
  pend : Option (List Nat) := .none
  /-- Class B blends: increment per step and steps left. -/
  blend : Tbl (Rat × Nat) := []
  /-- Class R identifiers still ramping. -/
  ramp : List Nat := []
  /-- The last class B blend has ended and EV_GFM_BLEND_DONE has not been raised. -/
  blendDue : Bool := false
  deriving DecidableEq, Repr, Inhabited

/-- Binding of a Brim channel to a reference source (R53). -/
structure ChMap where
  src : Nat := 0
  gain : Int := 0
  phi : Nat := 0
  value : Int := 0
  /-- A new HOST value that waits for the next publish tick. -/
  pend : Option Int := .none
  deriving DecidableEq, Repr, Inhabited

/-- The grid observer (R49) or the far-side observer (03_grid_events.md R75). -/
structure Observer where
  on : Bool := false
  theta : Rat := 0
  w : Rat := 1
  at_ : Nat := 0
  lock : Bool := false
  /-- Tick since which the two conditions of R49 have held. -/
  goodSince : Option Nat := .none
  /-- Lock has been held since the observer last started. -/
  everLock : Bool := false
  /-- θ_g, w_g, v_pos and the tick of the last step with obs_lock true. -/
  lastTheta : Rat := 0
  lastW : Rat := 1
  lastV : Rat := 0
  lastAt : Nat := 0
  /-- Since when lock has been false (R81). -/
  lostSince : Option Nat := .none
  deriving DecidableEq, Repr, Inhabited

/-- Grid-forming control. -/
structure Gfm where
  par : PSet := {}
  map : Tbl ChMap := []
  obs : Observer := {}
  far : Observer := {}
  run : Run := {}
  /-- The step computed at its boundary and not yet complete. -/
  work : Option Run := .none
  /-- The references and angle in force (R18). -/
  inForce : Pub := {}
  /-- Results that wait for the publish tick. -/
  ready : Option Pub := .none
  /-- Phase voltages of the regulation point at the boundaries of the last 1/F_NOM: tick and v_a, v_b, v_c. -/
  hist : List (Nat × Rat × Rat × Rat) := []
  io : Rat × Rat := (0, 0)
  vdq : Rat × Rat := (0, 0)
  vPos : Rat := 0
  thetaV : Rat := 0
  vLineMin : Rat := 0
  vLineMax : Rat := 0
  /-- θ_i and the tick it was recomputed at (05_angle_tables_injection.md R125). -/
  thetaI : Rat := 0
  thetaIAt : Nat := 0
  /-- Δf_sec in use and its target, Hz; tick of the last value; stale. -/
  dfSec : Rat := 0
  dfTarget : Rat := 0
  secAt : Nat := 0
  secStale : Bool := false
  /-- SoC differences last used by the balancer, per arm (R54). -/
  socMean : Tbl Rat := []
  /-- The boundary whose parameters, Δf_sec and measurements have been taken, with the jump it found; the step of that boundary
  follows. -/
  opened : Option (Nat × Option Rat) := .none
  /-- Latest step boundary since TBASE ran. -/
  boundary : Nat := 0
  deriving DecidableEq, Repr, Inhabited

/-- What a step leaves for OP_GRID_GET_STATE (R92): FLAGS of Table 3.10 but for CL_HOLD, and the fields of Table 3.9. -/
structure EvSeen where
  flags : Nat := 0
  clCause : Nat := 0
  bsStep : Nat := 0xFF
  lambda : Nat := 0
  delta : Int := 0
  jump : Int := 0
  rocof : Rat := 0
  vMin : Rat := 0
  vMax : Rat := 0
  deriving DecidableEq, Repr, Inhabited

/-- Outside RUN only what is measured is reported (R92): V_LINE_MIN, V_LINE_MAX, ROCOF, JUMP_LAST, ISLAND, ENV_V, ENV_F and
ROCOF_HI. -/
def EvSeen.outside (e : EvSeen) : EvSeen :=
  { flags := e.flags &&& 0x207, jump := e.jump, rocof := e.rocof, vMin := e.vMin, vMax := e.vMax }

/-- A step of a black-start program (Table 3.6). -/
structure BsStep where
  action : Nat
  group : Nat
  minMembers : Nat
  timeout : Nat
  arg0 : Nat
  arg1 : Nat
  deriving DecidableEq, Repr, Inhabited

/-- Grid events. -/
structure Grid where
  par : PSet := {}
  /-- Points per envelope: DURATION in µs and LEVEL. -/
  env : Tbl (List (Nat × Nat)) := []
  /-- Timers by 16 × envelope + point. -/
  timer : Tbl EnvTimer := []
  envV : Bool := false
  envF : Bool := false
  /-- f_g at the boundaries of the last ROCOF_WIN with obs_lock true: tick and Hz. -/
  fHist : List (Nat × Rat) := []
  rocof : Rat := 0
  rocofHi : Bool := false
  rocofOkSince : Option Nat := .none
  rocofArmed : Bool := true
  jumpLast : Int := 0
  island : Bool := false
  clHold : Bool := false
  sync : Option (Nat × Nat × Nat) := .none
  bsGroup : Tbl (List Nat) := []
  bsProg : List BsStep := []
  bs : Option BsRun := .none
  /-- What the last completed step reports, and what the step that has started will (R92). -/
  seen : EvSeen := {}
  seenWork : EvSeen := {}
  deriving DecidableEq, Repr, Inhabited

/-! ### The Brim engine (04_brim_engine.md) -/

/-- A channel's configuration (Table 4.1), codes as written. -/
structure ChanCfg where
  outType : Nat := 0
  ctrl : Nat := 0
  src : Nat := 0
  ofsCode : Int := 0
  scale : Nat := 0
  band : Nat := 0
  bandMin : Nat := 0
  bandMax : Nat := 0
  fTgt : Nat := 0
  tServo : Nat := 20000
  iClamp : Nat := 0
  minOn : Nat := 0
  minOff : Nat := 0
  tOut : Nat := 256
  slopeWin : Nat := 0
  shapeAt : Nat := 0
  slopeStep : Nat := 0
  legA : Nat := 0
  legB : Nat := 0
  legC : Nat := 0
  arm : Nat := 0
  tChain : Nat := 0
  deriving DecidableEq, Repr, Inhabited

/-- One decision path's own copy of a channel's configuration and of its band, servo and deferral state (R119). -/
structure PathCopy where
  cfg : ChanCfg := {}
  bS : Rat := 0
  fMeas : Rat := 0
  n : Nat := 0
  clampStep : Bool := false
  pend : Option Pend := .none
  win : List (Option Rat) := []
  slope : Rat := 0
  issued : List (Bool × Nat) := []
  lastSample : Nat := 0
  deriving DecidableEq, Repr, Inhabited

/-- One channel. Path A's copy stands in the fields themselves; path B's stands in `pathB` from the first sample on which it
differs, and is the same as path A's until then (R119). -/
structure Chan where
  cfg : ChanCfg := {}
  written : Bool := false
  /-- Configuration that waits for the next publish tick (R98). -/
  cfgPend : Option ChanCfg := .none
  /-- Samples delivered and not yet decided: instant and word. -/
  inq : List (Nat × Nat) := []
  /-- LEVEL: LEG2 and NONE 0 low, 1 high; maps −1 to 1; arms the commanded level. -/
  level : Int := 0
  /-- ANPC3 at O+ (true) or O− while LEVEL is 0 (Table 4.5). -/
  oPlus : Bool := true
  pend : Option Pend := .none
  /-- The legs leave mitten at LEVEL as it stands, because the cap has been taken (14_twin.md R344). -/
  taken : Bool := false
  /-- Slot at which the enabled legs leave mitten (06_legs_pwm.md R161). -/
  release : Option Nat := .none
  /-- Last change: upward, and its instant. -/
  lastUp : Bool := false
  lastAt : Option Nat := .none
  /-- b_s in pu and f_meas in Hz. -/
  bS : Rat := 0
  fMeas : Rat := 0
  bandHeld : Bool := false
  n : Nat := 0
  clampStep : Bool := false
  clamping : Bool := false
  holding : Bool := false
  ovrRun : Nat := 0
  /-- Path B's copy, from the first sample on which it differs from path A's (R119). -/
  pathB : Option PathCopy := .none
  /-- Samples of the slope window, newest first; none for one with OVR, INV or CHK_FAIL. -/
  win : List (Option Rat) := []
  slope : Rat := 0
  /-- Level changes issued: direction and execute-at (R112). -/
  issued : List (Bool × Nat) := []
  lastSample : Nat := 0
  lastI : Rat := 0
  lastR : Int := 0
  lastE : Int := 0
  deriving DecidableEq, Repr, Inhabited

/-- One arm (Table 4.6). -/
structure Arm where
  safe : Nat := 0
  fCellMax : Nat := 500
  socHyst : Nat := 0xA3D71
  vHi : Nat := 0x8CCCCCD
  vLo : Nat := 0x6CCCCCD
  tHot : Int := 650
  staleN : Nat := 4
  cells : List Nat := []
  /-- Usable cells with the state of charge they were ranked by, least charged first, as last rebuilt (R113). -/
  order : List (Nat × Nat) := []
  /-- D in force for the arm, ticks, fixed at entry to RUN. -/
  d : Nat := 0
  /-- Decisions are sent from this execute-at on; none: not sent (R118, 07_gauntlet.md R178). -/
  liveFrom : Option Nat := .none
  deriving DecidableEq, Repr, Inhabited

/-! ### Angle tables and injection (05_angle_tables_injection.md) -/

/-- One angle table: entries not listed are zero (R123). -/
structure AngTab where
  act : Tbl Int := []
  sh : Tbl Int := []
  src : Nat := 0
  mult : Nat := 1
  offset : Nat := 0
  cfgPend : Option (Nat × Nat × Nat) := .none
  deriving DecidableEq, Repr, Inhabited

/-- One binding (R129): kind 1 REF_ADD, 2 DUTY_ADD. -/
structure AngBind where
  table : Nat
  kind : Nat
  target : Nat
  gain : Int
  phase : Nat
  pend : Option (Int × Nat) := .none
  deriving DecidableEq, Repr, Inhabited

/-- A run of the injection generator (R132 to R136). -/
structure InjRun where
  /-- 0 waits for the boundary, 1 fade-in, 2 windows, 3 fade-out. -/
  phase : Nat := 0
  pass : Nat := 0
  /-- Start of fade-in, from which the generator's time counts. -/
  start : Nat := 0
  /-- Start of the present phase or window, and g at the start of a fade-out. -/
  at_ : Nat := 0
  g0 : Rat := 1
  vStart : Rat := 0
  accepted : Nat := 0
  discarded : Nat := 0
  accAll : Nat := 0
  disAll : Nat := 0
  spoilt : Bool := false
  abort : Nat := 0
  /-- Ended by OP_ANGLE_INJ_STOP: no report. -/
  stopped : Bool := false
  firstWin : Option Nat := .none
  /-- Samples per correlator channel, newest first: instant, value, and whether its tags spoil the window. -/
  samples : Tbl (List (Nat × Rat × Bool)) := []
  /-- Sums acc and nse by (pass, channel, bin): re, im, noise. -/
  acc : Tbl (Rat × Rat × Rat) := []
  deriving DecidableEq, Repr, Inhabited

/-- Angle tables, bindings, generator and correlator. -/
structure Angle where
  tab : Tbl AngTab := []
  bind : List AngBind := []
  /-- Accepted swaps that wait: table mask and exchange tick. -/
  swaps : List (Nat × Nat) := []
  /-- Exchanged swaps whose copy-back runs, oldest first: table mask and exchange tick. -/
  copying : List (Nat × Nat) := []
  /-- OP_ANGLE_INJ_SET payload in force. -/
  injCfg : Option Bytes := .none
  inj : Option InjRun := .none
  /-- Correlator channels: TYPE and SEL. -/
  corr : Tbl (Nat × Nat) := []
  /-- Configuration and sums of the run whose report E12–E13 prepare, and the report. -/
  reporting : Option (Bytes × InjRun) := .none
  report : Option Bytes := .none
  deriving DecidableEq, Repr, Inhabited

/-! ### Local legs (06_legs_pwm.md) -/

/-- A leg's configuration (Table 6.1). -/
structure LegCfg where
  group : Nat := 0xFF
  ctrl : Nat := 0
  phase : Nat := 0
  dtRise : Nat := 800
  dtFall : Nat := 800
  dtMin : Nat := 160
  dtMax : Nat := 3200
  dtMargin : Nat := 80
  dtShift : Nat := 3
  blankSel : Nat := 0
  minPulse : Nat := 320
  refreshOn : Nat := 1600
  refreshMax : Nat := 1600000
  mitten : Nat := 0
  mitDelay : Nat := 0
  ovlLimit : Nat := 10
  ovlWin : Nat := 1000000
  deriving DecidableEq, Repr, Inhabited

/-- A period and duty pair (Table 6.4). -/
structure Pair where
  period : Nat := 32000
  duty : Nat := 0
  dutyB : Nat := 0
  amp : Nat := 0
  phi : Nat := 0
  deriving DecidableEq, Repr, Inhabited

/-- One compare (R159). -/
structure Cmp where
  value : Nat := 0
  target : Nat := 0
  arg : Nat := 0
  deriving DecidableEq, Repr, Inhabited

/-- A commutation that is watched (R153); times in fine ticks. -/
structure Commut where
  tOff : Nat
  /-- When the incoming gate was asserted. -/
  onAt : Option Nat := .none
  deriving DecidableEq, Repr, Inhabited

/-- One leg. Times in fine ticks are 8 × tick. -/
structure Leg where
  cfg : LegCfg := {}
  anchor : Int := 0
  /-- Ticks that accepted OP_LEG_SYNC commands wait for, each of which takes effect at its own (R144). -/
  sync : List Nat := []
  staged : Pair := {}
  wroteP : Bool := false
  wroteD : Bool := false
  tornSaid : Bool := false
  pend : Option (Pair × Nat) := .none
  pair : Pair := {}
  /-- Boundary of the period in progress; none before the first. -/
  start : Option Int := .none
  tOn : Nat := 0
  dutyTot : Int := 0
  carry : Int := 0
  /-- High interval of the period, and the GL interval of INDEPENDENT; fine ticks. -/
  hi : Option (Nat × Nat) := .none
  lo : Option (Nat × Nat) := .none
  /-- A high that an apex bound carries beyond its period and that the next high does not meet, fine ticks (R151). -/
  overTo : Option (Nat × Nat) := .none
  /-- Commanded output. -/
  out : Bool := false
  reqH : Bool := false
  reqL : Bool := false
  gh : Bool := false
  gl : Bool := false
  /-- The incoming gate (true GH) and the fine tick it is asserted at (R152). -/
  assertAt : Option (Bool × Nat) := .none
  /-- Effective dead times in ticks (R153). -/
  dtR : Nat := 800
  dtF : Nat := 800
  missR : Nat := 0
  missF : Nat := 0
  /-- The newest commutation of each edge while it is watched (R153). -/
  commutR : Option Commut := .none
  commutF : Option Commut := .none
  /-- Level of LEGn_NODE. -/
  node : Bool := false
  enabled : Bool := false
  mitten : Bool := true
  /-- Tick of the enable that has not yet left mitten. -/
  leaving : Option Nat := .none
  /-- MIT_DELAY hold: gates held (bit 0 GL, 1 GH) and its end. -/
  hold : Option (Nat × Nat) := .none
  /-- Gates the pattern asserts and the fine tick at which (R163). -/
  wait : Option (Nat × Nat) := .none
  /-- Fine ticks of the last deassertion of each gate; GL off since (tick), none while asserted (R157). -/
  hOff : Nat := 0
  lOff : Nat := 0
  offSince : Option Nat := .none
  refreshDue : Bool := false
  refreshTo : Option Nat := .none
  /-- Ticks of overlap requests within OVL_WIN, and the interlock's blank end, a fine tick. -/
  ovl : List Nat := []
  ovlOn : Bool := false
  blankTo : Option Nat := .none
  /-- INDEPENDENT: fine ticks before which GH and GL are not asserted after mitten (R161). -/
  hFrom : Nat := 0
  lFrom : Nat := 0
  cmp : Tbl Cmp := []
  cmpPend : Option (List Cmp) := .none
  fired : Nat := 0
  /-- The last period's carry was cut (R154). -/
  cutLast : Bool := false
  /-- Tick of the last disable by a reaction (R161). -/
  reactAt : Option Nat := .none
  /-- Tick of the last change of the commanded output (R156). -/
  outAt : Option Nat := .none
  deriving DecidableEq, Repr, Inhabited


/-! ### The Gauntlet (07_gauntlet.md) -/

/-- A reaction-table entry (Table 7.3). -/
structure Entry where
  actions : Nat := 0
  group : Nat := 0xFF
  armMask : Nat := 0
  brkPio : Nat := 0
  chopMask : Nat := 0
  deriving DecidableEq, Repr, Inhabited

/-- A fault record (Table 7.1). -/
structure FRec where
  recNo : Nat
  tick : Nat
  cls : Nat
  late : Bool := false
  multi : Bool := false
  disarmed : Bool := false
  pinned : Bool := false
  actions : Nat := 0
  event : Nat := 0
  detail : Nat := 0
  legMap : Nat := 0
  actTick : Nat := 0
  state : Nat
  mode : Nat
  deriving DecidableEq, Repr, Inhabited

/-- One fault input: 0 to 47 legs, 48 and 49 choppers (R169, R171). -/
structure FInput where
  asserted : Bool := false
  since : Nat := 0
  recognised : Bool := false
  /-- End of the open blanking window. -/
  blankTo : Nat := 0
  /-- The present assertion began inside a window. -/
  inWindow : Bool := false
  /-- End of the window that the assertion outlived, where a newer window has opened before its 8 ticks are full (R171). -/
  outlived : Option Nat := .none
  deriving DecidableEq, Repr, Inhabited

/-- One chopper (Table 7.6, R182 to R186). -/
structure Chop where
  written : Bool := false
  autoRun : Bool := false
  group : Nat := 0xFF
  blankSel : Nat := 0
  srcConv : Nat := 0
  srcSel : Nat := 0
  ofsCode : Int := 0
  codeOn : Int := 0
  codeOff : Int := 0
  codeTrip : Int := 0
  minOn : Nat := 1600
  minOff : Nat := 1600
  scaleMv : Nat := 0
  rMohm : Nat := 0
  tauMs : Nat := 0
  eHot : Nat := 0
  on : Bool := false
  inMitten : Bool := true
  forced : Bool := false
  /-- Tick of the last change of the ball. -/
  changed : Nat := 0
  /-- Words of its source delivered and not yet compared: instant and word. -/
  inq : List (Nat × Nat) := []
  /-- A requested edge: level and the tick it is placed at. -/
  edge : Option (Bool × Nat) := .none
  /-- Consecutive samples at or above CODE_TRIP. -/
  tripRun : Nat := 0
  /-- EV_GNT_DC_OV may be raised. -/
  ovArmed : Bool := true
  /-- Code of the latest usable sample. -/
  code : Int := 0
  /-- Resistor energy in J (R185). -/
  e : Rat := 0
  hotArmed : Bool := true
  deriving DecidableEq, Repr, Inhabited

/-- The Gauntlet. -/
structure Gnt where
  enable : Nat := 0x3FFFFFFFFFFFF
  input : Tbl FInput := []
  /-- Blanking widths BT0 to BT15 that differ from 1,600 ticks. -/
  bt : Tbl Nat := []
  /-- Records held, oldest first; at most 256. -/
  ring : List FRec := []
  nextRec : Nat := 1
  /-- The open record of a fault input: record and the tick it closes at. -/
  openRec : Option (Nat × Nat) := .none
  /-- The active reaction table, 64 entries by class id; none: the factory table of Table 7.2. -/
  table : Option (List Entry) := .none
  /-- The table that OP_GNT_CONFIRM makes active, and the tick from which it is (R177). -/
  tableNext : Option (List Entry × Nat) := .none
  staging : Option (List Entry) := .none
  confirmed : Bool := false
  /-- MITTEN_N low since; qualified. -/
  mitLow : Option Nat := .none
  mitQual : Bool := false
  /-- PIO balls held by OPEN_BREAKER with their level. -/
  brk : Tbl Bool := []
  faultOut : Bool := true
  chop : Tbl Chop := []
  clmPend : Bool := false
  /-- Tick of the last entry into TRIPPED. -/
  tripAt : Nat := 0
  deriving DecidableEq, Repr, Inhabited
/-! ### Converters and filter chains (08_acquisition.md, 09_filters.md) -/

/-- One calibration record (08_acquisition.md Table 8.9). -/
structure CalRec where
  valid : Bool := false
  fromLoad : Bool := false
  tempCal : Nat := 0
  offset : Int := 0
  gain : Nat := 0x40000000
  skew : Int := 0
  lin : Bytes := []
  deriving DecidableEq, Repr, Inhabited

/-- A converter's configuration (Table 8.2). -/
structure ConvCfg where
  timing : Nat := 0
  sparse : Bool := false
  div : Nat := 1
  phase : Nat := 0
  seqLen : Nat := 1
  dwell : Nat := 1
  seq : List Nat := [0, 0, 0, 0, 0, 0, 0, 0]
  deriving DecidableEq, Repr, Inhabited

/-- One converter. -/
structure Conv where
  cfg : ConvCfg := {}
  /-- Configuration that waits for an ACQ instant, or (none) for the outer-step boundary. -/
  cfgPend : Option (ConvCfg × Option Nat) := .none
  pos : Nat := 0
  dwellN : Nat := 0
  count : Nat := 0
  /-- Instants of the conversions that triggers have scheduled (R197, R198). -/
  trig : List Nat := []
  /-- Conversions triggered before the sequence restarted: instant, sequence entry and its byte, and whether the trigger had to
  power the converter up (R195, R198). -/
  owed : List (Nat × Nat × Nat × Bool) := []
  /-- Sequence entry and its byte that the newest conversion took. -/
  entry : Nat × Nat := (0, 0)
  /-- Inputs of the modulator of an auxiliary converter in pV behind the gain, one per step, newest first (R209). -/
  modIn : List Int := []
  /-- INV words owed per select (fast) or per sequence entry (auxiliary), each with the longest count of its causes, and those
  owed to the whole converter (R206). -/
  inv : Tbl (Nat × Nat) := []
  invAll : Nat := 0
  /-- Conversions left of the other-select run per over-driven select, with its length (R205). -/
  run : Tbl (Nat × Nat) := []
  /-- Recovery words owed per select after OVR (R205). -/
  own : Tbl Nat := []
  /-- Words converted and not delivered: instant, sequence entry and word. -/
  fly : List (Nat × Nat × Nat) := []
  last : Tbl Nat := []
  /-- Consecutive OVR words of a chopper's select (R207). -/
  ovrRun : Tbl Nat := []
  cal : CalRec := {}
  drift : Bool := false
  calibrating : Bool := false
  /-- Calibrated code of the instant, for the comparison of R201: instant, code, over-range. -/
  code : Nat × Int × Bool := (0, 0, false)
  deriving DecidableEq, Repr, Inhabited

/-- One pair of fast converters (Table 8.3). -/
structure ConvPair where
  mode : Nat := 0
  tol : Nat := 64
  n : Nat := 256
  fails : Nat := 0
  lastFail : Bool := false
  persistSaid : Bool := false
  deriving DecidableEq, Repr, Inhabited

/-- A filter set: its 16-byte header and coefficients in use (R218, R220). -/
structure FSet where
  hdr : Bytes
  coef : List Int
  deriving DecidableEq, Repr, Inhabited

/-- What a chain has delivered: its newest fine and fast-path words, and the newest of each without INV (R230). -/
structure FView where
  fine : Option Nat := .none
  good : Option Nat := .none
  fast : Option Nat := .none
  fastGood : Option Nat := .none
  deriving DecidableEq, Repr, Inhabited

/-- One filter chain. -/
structure FChain where
  stagedHdr : Option Bytes := .none
  stagedCoef : Tbl Int := []
  act : Option FSet := .none
  /-- Change accepted: set, FADE_N, and whether it waits for the outer-step boundary. -/
  pend : Option (FSet × Nat × Bool) := .none
  /-- Fade: the old set, FADE_N and the outputs formed. -/
  fade : Option (FSet × Nat × Nat) := .none
  /-- Words delivered and not yet taken: instant and word. -/
  inq : List (Nat × Nat) := []
  /-- Sample instant of the newest word that arrived (Table 9.6, ACTIVE). -/
  wordAt : Option Nat := .none
  /-- History, newest first: value and tag bits. -/
  hist : List (Int × Nat) := []
  prev : Int := 0
  cnt : Nat := 0
  /-- Fine outputs still to carry INV (R225). -/
  invLeft : Nat := 0
  /-- Newest accepted words of the fast path: code and OVR. -/
  fast : List (Int × Bool) := []
  fastCnt : Nat := 0
  fastFresh : Bool := true
  /-- Outputs formed and not delivered: 0 fast, 1 fine, 2 fine and the last of a fade; instant; word. -/
  fly : List (Nat × Nat × Nat) := []
  /-- Fine outputs delivered, newest first, as many as an interpolation reads: instant and word (17_opcodes.md Table 17.8). -/
  outs : List (Nat × Nat) := []
  lastTick : Nat := 0
  /-- What has been delivered, what had been before the tick of the newest delivery, and that tick (R229, R230). -/
  view : FView := {}
  viewOld : FView := {}
  viewAt : Option Nat := .none
  stale : Bool := false
  deriving DecidableEq, Repr, Inhabited


/-! ### Hanel lanes, strands and cells (10_hanel_lanes.md, 11_strands_cells.md) -/

/-- A frame queued for a lane (11_strands_cells.md Table 11.1), without its CHK decided by fault injection.
A COMMAND carries its execute-at and its cell for the check of R273. -/
structure LFrame where
  cls : Nat
  bytes : Bytes
  execAt : Option Nat := .none
  cell : Nat := 0xFFF
  /-- The SYNC of a cycle boundary goes out before every other frame (11_strands_cells.md R255). -/
  first : Bool := false
  deriving DecidableEq, Repr, Inhabited

/-- A frame in transmission: the blocks still to be sent, each with its sync header (10_hanel_lanes.md R236). -/
structure LProg where
  frame : LFrame
  left : List (Nat × Bytes)
  deriving DecidableEq, Repr, Inhabited

/-- A frame that comes in on a lane: its class, its bytes so far, whether it is suspended, and whether it has been closed as
errored (10_hanel_lanes.md R236, 11_strands_cells.md R253). -/
structure RxFrame where
  cls : Nat
  bytes : Bytes := []
  susp : Bool := false
  bad : Bool := false
  deriving DecidableEq, Repr, Inhabited

/-- One lane (Tables 10.4 to 10.6, 10.9). -/
structure Lane where
  role : Nat := 0
  txPol : Bool := false
  rxPol : Bool := false
  autoTrain : Bool := true
  shed : Bool := false
  txAmp : Nat := 10
  txPre : Nat := 2
  txPost : Nat := 4
  rxEq : Nat := 0xFF
  idleAfter : Nat := 256
  /-- State of the hop being trained (Table 10.6). -/
  st : Nat := 0
  hop : Nat := 0
  attemptAt : Nat := 0
  stateAt : Nat := 0
  training : Bool := false
  /-- Failed attempts in a row per hop, whose waits R241 gives, and the tick of the next attempt. -/
  waits : Tbl Nat := []
  retryAt : Option Nat := .none
  /-- The tick before which no attempt on a hop starts: its wait outlasts a drop (R241). -/
  waitTo : Tbl Nat := []
  /-- Hops UP from this head. -/
  reach : Nat := 0
  up : Bool := false
  /-- Tick at which the lane was last dropped. -/
  downAt : Nat := 0
  slip : Nat := 0
  /-- Alignment search: position and good windows (R239). -/
  pos : Nat := 0
  good : Nat := 0
  /-- Lowest version negotiated on the lane; 0 none. -/
  ver : Nat := 0
  /-- Version in use with the node at each hop that is UP (R240). -/
  vers : Tbl Nat := []
  /-- SH_ERR; blocks passed of the present window of 64, and invalid headers in it (R239). -/
  shErr : Nat := 0
  shWin : Nat := 0
  shBad : Nat := 0
  /-- Markers received, newest first: MARKER_CNT and tick; the markers of the pair are aligned (R243). -/
  marks : List (Nat × Nat) := []
  deskew : Bool := false
  /-- The hop that ECHO_REQ blocks go to (11_strands_cells.md R256). -/
  echoFor : Option Nat := .none
  /-- Requests of that exchange sent, and block slots until the next. -/
  echoNext : Nat := 0
  echoWait : Nat := 0
  /-- Version and id the node at the hop in training has answered. -/
  heard : Option (Nat × Nat) := .none
  txSleep : Bool := false
  rxSleep : Bool := false
  /-- Ticks at which a woken transmitter or receiver becomes valid. -/
  txWake : Option Nat := .none
  rxWake : Option Nat := .none
  eidle : Bool := false
  eidleSince : Nat := 0
  /-- The far transmitter has sent EIDLE: loss of signal is suppressed (R246). -/
  rxIdle : Bool := false
  /-- The far transmitter has sent SLEEP (Table 10.2). -/
  rxFarSleep : Bool := false
  /-- Consecutive IDLE blocks sent. -/
  idleRun : Nat := 0
  degraded : Bool := false
  loopOpen : Bool := false
  prbsGen : Nat := 0
  prbsChk : Nat := 0
  prbsLoop : Nat := 0
  prbsInj : Nat := 0
  prbsRate : Nat := 3
  prbsLock : Bool := false
  /-- The lane runs PRBS until it is trained again (R249). -/
  prbsOn : Bool := false
  /-- Generator: its register, bits sent, and bits still to be inverted for SINGLE. -/
  prbsReg : Nat := 0
  prbsSent : Nat := 0
  prbsFlip : Nat := 0
  /-- Checker: its register, consecutive error-free bits, and the errors of the last 64 bits, one bit each. -/
  chkReg : Nat := 0
  chkRun : Nat := 0
  chkErrs : Nat := 0
  queue : List LFrame := []
  cur : Option LProg := .none
  /-- Suspended frames, innermost first (11_strands_cells.md R254). -/
  susp : List LProg := []
  /-- Register of the transmitter's scrambler, newest bit first (R236). -/
  scr : Nat := 0
  /-- What has left on the lane, oldest first (the model's record of the line): sync header and 64 scrambled bits of a block, or
  header 0 and 64 UI of an exit burst or of a PRBS pattern. -/
  line : List (Nat × Bytes) := []
  /-- Received frames that are open, innermost first, and whether the last one that ended was closed as errored (R236). -/
  rxFrames : List RxFrame := []
  rxBad : Bool := false
  /-- CTLE code that the receiver has chosen with RX_EQ AUTO, until the lane drops (23_electrical.md R480). -/
  ctle : Option Nat := .none
  deriving DecidableEq, Repr, Inhabited

/-- A bonded pair of lanes 2k and 2k+1 (R243, R244). -/
structure Bond where
  markerCnt : Nat := 0
  /-- The lane of the pair that is lost. -/
  lost : Option Nat := .none
  /-- The lost lane is UP again and joins at the next marker. -/
  joining : Bool := false
  /-- The next block travels on the upper lane. -/
  odd : Bool := false
  /-- Tick of the last MARKER sent. -/
  markAt : Option Nat := .none
  /-- The lane that the far transmitter sends every block on (R244). -/
  rxFrom : Option Nat := .none
  deriving DecidableEq, Repr, Inhabited

/-- Lanes and quads. -/
structure Lanes where
  ln : Tbl Lane := []
  /-- Quads that take TBASE as reference (R234), one bit each. -/
  quadTbase : Nat := 0
  /-- QPLL_LOCK, one bit per quad. -/
  qpllLock : Nat := 0
  bond : Tbl Bond := []
  deriving DecidableEq, Repr, Inhabited

/-- One strand (Tables 11.10, 11.13). -/
structure Strand where
  dAuto : Bool := true
  autoRejoin : Bool := true
  watch : Nat := 100
  d : Nat := 9600
  dMargin : Nat := 800
  tlmOfs : Nat := 64
  /-- D in force and the strand latency L_s in ns. -/
  dNow : Nat := 3200
  ls : Rat := 0
  /-- D that the twin computes for the strand, as last exchanged (14_twin.md R335). -/
  dPeer : Nat := 0
  downSaid : Bool := false
  ready : Bool := false
  /-- Broadcast sequence per arm (R264). -/
  bseq : Tbl Nat := []
  deriving DecidableEq, Repr, Inhabited

/-- What the device holds of one cell, beside its partner entry. -/
structure Cell where
  ofsL : Option Nat := .none
  ofsU : Option Nat := .none
  /-- Heads that reach the cell: bit 0 lower or plain, bit 1 upper. -/
  heads : Nat := 0
  /-- Serving head: 0 lower, 1 upper. -/
  head : Nat := 0
  ver : Nat := 0
  seq : Nat := 0
  epoch : Nat := 0
  /-- State last commanded and its execute-at. -/
  cmdState : Option (Nat × Nat) := .none
  /-- Plan events last sent to the cell: tick and state (14_twin.md R336). -/
  plan : List (Nat × Nat) := []
  /-- NODE_SET sent and not acknowledged: frame, resends so far, tick of the next (R258). -/
  setPend : Option (Bytes × Nat × Nat) := .none
  /-- A NODE_SET is due to be sent, with CLEAR or without. -/
  setDue : Option Bool := .none
  acked : Bool := false
  /-- CAPS of its last NODE_ACK names no bypass device (Table 11.4). -/
  noBypass : Bool := false
  cfgFail : Bool := false
  dShort : Bool := false
  mismatch : Bool := false
  faulted : Bool := false
  /-- A cell of a configured arm that has come to be reached by no head, until it is reached again (R278). -/
  gone : Bool := false
  staleSaid : Bool := false
  /-- Last TELEMETRY frame, its tick, and whether one has been received. -/
  tlm : Bytes := []
  tlmTick : Nat := 0
  tlmSeen : Bool := false
  /-- The cell is to be commanded back to ZERO_LOW (R276). -/
  rejoin : Bool := false
  /-- The CLEAR under way is one of OP_STRAND_NODE_CLEAR, which alone ends a mismatch (R273, R276). -/
  byHost : Bool := false
  /-- The cell takes part in the lists from this tick (R276). -/
  listFrom : Nat := 0
  deriving DecidableEq, Repr, Inhabited

/-- A pending event of a cell node (R263). -/
structure NEvt where
  at_ : Nat
  state : Nat
  plan : Bool
  epoch : Nat
  /-- Number of the command it belongs to. -/
  cmd : Nat
  deriving DecidableEq, Repr, Inhabited

/-- A training of a node's downstream port after PORT_TRAIN (10_hanel_lanes.md R248): the hop, the state SIGNAL or ALIGN, and the
tick at which the state began. -/
structure NTrain where
  hop : Nat
  st : Nat := 1
  since : Nat
  deriving DecidableEq, Repr, Inhabited

/-- A frame open on a node's port: one of its own with its blocks left, or one in passage with its bytes so far; whether it
has been suspended by the node, and whether it has been held (11_strands_cells.md R254). -/
structure NTx where
  own : Option LProg := .none
  cls : Nat := 0
  bytes : Bytes := []
  held : Bool := false
  susp : Bool := false
  deriving DecidableEq, Repr, Inhabited

/-- One lane port of a cell node (10_hanel_lanes.md R248, 11_strands_cells.md R254). -/
structure NPort where
  /-- Register of the transmitter's scrambler. -/
  scr : Nat := 0
  /-- The far receiver has sent SLEEP and has not woken. -/
  farSleep : Bool := false
  /-- The transmitter is in electrical idle, since a tick; consecutive IDLE blocks sent. -/
  eidle : Bool := false
  eidleSince : Nat := 0
  idleRun : Nat := 0
  /-- The far transmitter has sent EIDLE. -/
  rxIdle : Bool := false
  /-- The transmitter sleeps behind 16 SLEEP blocks. -/
  txSleep : Bool := false
  /-- The port trains after PORT_TRAIN. -/
  train : Option NTrain := .none
  /-- HOP of the last PORT_TRAIN that came on this port: training beyond the node. -/
  beyond : Option Nat := .none
  /-- The port runs the PRBS31 test of a PRBS_REQ: generator and checker as a lane has them. -/
  prbs : Option Lane := .none
  /-- Errored bits of that test. -/
  prbsErr : Nat := 0
  /-- Tick of the last block received. -/
  heardAt : Nat := 0
  /-- A frame from a head has come in on this port: a head is reached over it (11_strands_cells.md R268). -/
  head : Bool := false
  /-- A command for this node is coming in on this port: it stops here (11_strands_cells.md R270). -/
  stop : Bool := false
  /-- Blocks to be forwarded out of this port that wait, oldest first: whether it has waited a slot, sync header and bytes. -/
  fifo : List (Bool × Nat × Bytes) := []
  /-- Frames open out of this port, innermost first. -/
  frames : List NTx := []
  /-- Own frames that wait. -/
  own : List LFrame := []
  deriving DecidableEq, Repr, Inhabited

/-- A compliant cell node: an agent of its own on a strand (R275; DESIGN CHOICE, notes/assumptions/100.md). -/
structure Node where
  id : Nat := 0xFFF
  /-- Hop position, from the HOP field of training (R252). -/
  pos : Option Nat := .none
  /-- Upstream and downstream port. -/
  up : NPort := {}
  down : NPort := {}
  /-- The node's time less the device's own tick, in fine ticks (R257). -/
  phase : Int := 0
  /-- What the rate of the node's clock differs from TBASE by, and the tick at which `phase` held. -/
  rate : Rat := 0
  refAt : Nat := 0
  configured : Bool := false
  slot : Nat := 0
  ofsL : Option Nat := .none
  ofsU : Option Nat := .none
  watch : Nat := 100
  safe : Nat := 0
  arm : Nat := 0
  head : Nat := 0
  state : Nat := 0
  /-- Positions of half-bridges A and B (0 both off, 1 upper, 2 lower) and of the bypass device, and the tick at which the
  dead time of those that change ends (R260, Table 11.6). -/
  hbA : Nat := 0
  hbB : Nat := 0
  closed : Bool := false
  deadTo : Option Nat := .none
  safeOwn : Bool := false
  linkLost : Bool := false
  planRun : Bool := false
  timeValid : Bool := false
  /-- The node's time at which its fault was detected, which every FAULT of it carries (Table 11.9). -/
  faultAt : Nat := 0
  /-- Tick of the last usable SYNC from the lower or plain head, and from the upper one. -/
  syncL : Nat := 0
  syncU : Nat := 0
  /-- Consecutive usable SYNC frames with the error within ±2 ns (R257). -/
  syncRun : Nat := 0
  lastDown : Nat := 0
  align : Int := 0
  uni : Option (Nat × Nat) := .none
  bcast : Option (Nat × Nat) := .none
  queue : List NEvt := []
  nextCmd : Nat := 0
  late : Nat := 0
  dup : Nat := 0
  rej : Nat := 0
  gap : Nat := 0
  chkErr : Nat := 0
  badFrame : Nat := 0
  tardy : Nat := 0
  lateFlag : Bool := false
  fault : Nat := 0
  ver : Nat := 0x23
  bypass : Bool := true
  /-- Cycle of the last TELEMETRY frame: one per cycle (R266). -/
  tlmCycle : Option Nat := .none
  /-- What the node has sent: port (0 upstream, 1 downstream), sync header (0 for the exit burst and a PRBS pattern) and bytes,
  oldest first. -/
  out : List (Nat × Nat × Bytes) := []
  deriving DecidableEq, Repr, Inhabited

/-! ### Partners and sessions (12_partners_sessions.md) -/

/-- One partner entry (Table 12.1). -/
structure Partner where
  type : Nat := 0
  /-- 0 HANEL, 1 ETHERNET. -/
  path : Nat := 0
  strand : Nat := 0
  hop : Nat := 0
  ports : Nat := 0
  autoSession : Bool := false
  mac : Bytes := [0, 0, 0, 0, 0, 0]
  vlan : Nat := 0
  ipv4 : Nat := 0
  udpPort : Nat := 0
  liveTo : Nat := 0
  /-- STATE of Table 12.2: 0 EMPTY, 1 LISTED, 2 UP, 3 STALE, 4 ABSENT. -/
  state : Nat := 0
  ver : Nat := 0
  session : Nat := 0xFFFF
  lastSeen : Nat := 0
  seqTx : Nat := 0
  seqRx : Nat := 0
  fault : Nat := 0
  upTick : Nat := 0
  /-- The path has been found to lead to the partner (R290). -/
  reached : Bool := false
  /-- AUTO_SESSION: the next attempt's tick and the step of the waits of R241. -/
  autoAt : Option Nat := .none
  autoStep : Nat := 0
  deriving DecidableEq, Repr, Inhabited

/-- A DATA segment sent and not acknowledged (R291). -/
structure Unacked where
  seq : Nat
  packet : Bytes
  times : Nat
  sentAt : Nat
  dueAt : Nat
  /-- The group number of a commit, which is abandoned at its execute-at (R296). -/
  commit : Option Nat := .none
  deriving DecidableEq, Repr, Inhabited

/-- One session context (R287 to R293, Table 12.8). -/
structure Sess where
  partner : Nat := 0xFFFF
  /-- 0 FREE, 1 OPENING, 2 OPEN, 3 CLOSING. -/
  state : Nat := 0
  retryMax : Nat := 8
  rtoMin : Nat := 50
  rtoMax : Nat := 100000
  ownInc : Nat := 0
  peerInc : Option Nat := .none
  /-- The device's own OPEN has been acknowledged. -/
  ownAcked : Bool := false
  sndUna : Nat := 0
  sndNext : Nat := 0
  peerLimit : Nat := 0
  rcvNext : Nat := 0
  /-- LIMIT last sent. -/
  limit : Nat := 0
  srtt : Rat := 0
  rttvar : Rat := 0
  /-- A segment has been acknowledged without retransmission, so SRTT holds. -/
  rttKnown : Bool := false
  /-- RTO in microseconds. -/
  rto : Nat := 1000
  unacked : List Unacked := []
  /-- Packets that wait to be sent, each with the group number of a commit. -/
  sendq : List (Bytes × Option Nat) := []
  /-- Segments received ahead of RCV_NEXT, by sequence. -/
  stored : Tbl Bytes := []
  ackDue : Option Nat := .none
  lastSent : Nat := 0
  /-- The holes that the last ACK showed, by first sequence and length, and those that have been resent (R291). -/
  lastHoles : List (Nat × Nat) := []
  holesSent : List (Nat × Nat) := []
  /-- Times the present OPEN or CLOSE has been sent, and when the next is due. -/
  tries : Nat := 0
  nextTry : Nat := 0
  /-- The 100 ms limit of a CLOSING context (R293). -/
  closeBy : Nat := 0
  closeSent : Bool := false
  /-- The partner's CLOSE has been received (R293). -/
  peerClose : Bool := false
  /-- Tick of the last ACK with PROBE (R289). -/
  probeAt : Nat := 0
  /-- DATA segments stored, the session's traffic (R289). -/
  traffic : Nat := 0
  deriving DecidableEq, Repr, Inhabited

/-- A group command that the device leads (R295 to R297). -/
structure Group where
  txn : Nat
  owed : Option Owed
  /-- Set for a group step of a black-start program. -/
  forBs : Bool := false
  members : List Nat
  inner : Bytes
  /-- Number of inner packets. -/
  innerN : Nat
  /-- LEAD in microseconds. -/
  lead : Nat
  /-- Tick of t0 + PREP_TO. -/
  deadline : Nat
  prepared : List Nat := []
  failed : Option Nat := .none
  /-- Members whose prepare has failed. -/
  failures : List Nat := []
  committed : List Nat := []
  executed : List Nat := []
  answered : List Nat := []
  /-- Execute-at t_x in network time, ns. -/
  execAt : Option Nat := .none
  abandoned : Bool := false
  deriving DecidableEq, Repr, Inhabited

/-- A transaction that the device holds prepared as a member (R298, R299). -/
structure Prepared where
  txn : Nat
  from_ : Nat
  /-- T_exp in network time, ns. -/
  texp : Nat
  /-- The inner packets: opcode and payload. -/
  inner : List (Nat × Bytes)
  /-- Execute-at in network time, ns, with the reply owed to the commit. -/
  commit : Option (Nat × Owed) := .none
  deriving DecidableEq, Repr, Inhabited

/-- Partners, sessions, transactions and groups. -/
structure Part where
  entry : Tbl Partner := []
  sess : Tbl Sess := []
  group : List Group := []
  nextTxn : Nat := 1
  held : List Prepared := []
  /-- Transactions cancelled at an entry into TRIPPED or by a time step, by lead and number: a later COMMIT is answered
  ST_ABORTED. -/
  aborted : List (Nat × Nat) := []
  /-- Work that waits for a transaction, oldest first: a session context, or 0x10000 + partner for a NODE_SET. -/
  waiting : List Nat := []
  /-- Work has waited in this outer step, and in the last. -/
  waitedNow : Bool := false
  waitedLast : Bool := false
  deriving DecidableEq, Repr, Inhabited

/-! ### Plant network and time (13_plant_network_time.md) -/

/-- A message of a standard whose encoding the spec leaves to it. -/
inductive StdMsg where
  | ptp (msg : PtpMsg)
  | goose (msg : GooseMsg)
  | sv (appid : Nat) (asdus : List SvAsdu)
  /-- PRP supervision of the node with this MAC. -/
  | prpSupervision (mac : Bytes)
  deriving DecidableEq, Repr

/-- What leaves a port: a frame in bytes, or a message of a standard with what its frame carries around it. -/
inductive TxItem where
  | raw (frame : Bytes)
  /-- A frame with the FCS it leaves with, where an injection has changed it after the FCS was formed. -/
  | spoilt (frame : Bytes)
  | std (head : MsgHead) (msg : StdMsg)
  deriving DecidableEq, Repr

end Sys2Proof.Machine

/-- The bytes that a standard gives a message behind its EtherType or UDP header (IEEE 1588-2019, IEC 61850-8-1,
IEC 61850-9-2, IEC 62439-3; PRESUMED, notes/assumptions/37.md). -/
opaque Sys2Proof.Config.stdBody : Sys2Proof.Machine.StdMsg → Sys2Proof.Bytes
/-- The message that such bytes behind an EtherType carry by the same standards. -/
opaque Sys2Proof.Config.stdParse : Nat → Sys2Proof.Bytes → Option Sys2Proof.Machine.StdMsg

namespace Sys2Proof.Machine

/-- A transmit time stamp (R317). -/
structure TxStamp where
  tsId : Nat
  port : Nat
  fine : Nat
  tick : Nat
  deriving DecidableEq, Repr, Inhabited

/-- One Ethernet port (Table 13.1). -/
structure Port where
  mode : Nat := 0
  prp : Bool := false
  tc : Bool := false
  icmp : Bool := false
  mac : Bytes := [0, 0, 0, 0, 0, 0]
  vlan : Nat := 0
  ipv4 : Nat := 0
  etype : Nat := 0x88B5
  udpPort : Nat := 47430
  maxFrame : Nat := 4256
  link : Bool := false
  /-- Tick at which the link was last lost. -/
  downAt : Nat := 0
  /-- Frames handed to the line, oldest first (the model's record of what leaves the port). -/
  line : List TxItem := []
  /-- Stamped frames handed over and not yet seen at the ball, by TS_ID. -/
  stamping : List Nat := []
  stampq : List TxStamp := []
  ovf : Bool := false
  /-- Second of the tick counter and echo replies in it (R305). -/
  icmpSec : Nat := 0
  icmpN : Nat := 0
  deriving DecidableEq, Repr, Inhabited

/-- One PRP pair (R307). -/
structure Prp where
  mismatch : Bool := false
  /-- LAN whose link is lost: bit 0 A, bit 1 B. -/
  lost : Nat := 0
  /-- Source entries: MAC, trailer sequence, tick. -/
  seen : List (Bytes × Nat × Nat) := []
  /-- Node table: MAC and tick last heard. -/
  nodes : List (Bytes × Nat) := []
  nextSeq : Nat := 0
  deriving DecidableEq, Repr, Inhabited

/-- Configuration of a time domain (Table 13.2). -/
structure DomCfg where
  enable : Bool := false
  autoSwitch : Bool := false
  masterCapable : Bool := false
  twoStep : Bool := false
  profile : Nat := 0
  domainNo : Nat := 0
  transport : Nat := 0
  ports : Nat := 0
  priority1 : Nat := 128
  priority2 : Nat := 128
  logSync : Int := 0
  logAnnounce : Int := 0
  logDelay : Int := 0
  announceTo : Nat := 3
  bw : Nat := 100
  lockTh : Nat := 1000
  stepTh : Nat := 10000
  slew : Nat := 100
  asym : Int := 0
  clockClass : Nat := 248
  deriving DecidableEq, Repr, Inhabited

/-- One time domain (Table 13.3). Times are in ns since the epoch of network time. -/
structure Dom where
  cfg : DomCfg := {}
  /-- 0 OFF, 1 FREE, 2 ACQUIRING, 3 LOCKED, 4 HOLDOVER, 5 MASTER. -/
  state : Nat := 0
  /-- T_d at refTick, its rate y_d and the phase still to be slewed. -/
  refTick : Nat := 0
  refNs : Rat := 0
  y : Rat := 0
  slewLeft : Rat := 0
  /-- LOCKED at least once since reset. -/
  valid : Bool := false
  /-- The last offset o in ns; none before the first of the present master. -/
  o : Option Rat := .none
  goodRun : Nat := 0
  badRun : Nat := 0
  /-- Best master heard and the port it is heard on. -/
  master : Option (Announce × Nat) := .none
  lastHeard : Nat := 0
  /-- Tick of the last Sync from LAN A of a PRP pair (R311). -/
  lanA : Option Nat := .none
  /-- Path delay in ns that each PTP port has measured (R311). -/
  path : Tbl Rat := []
  /-- Per port: T_d and master time of the last Sync, and T_d of the last delay request sent. -/
  lastSync : Tbl (Rat × Rat) := []
  lastReq : Tbl Rat := []
  /-- Per port, a two-step Sync that waits for its follow-up: T_d at its receipt, less its correction. -/
  syncWait : Tbl Rat := []
  /-- Per port, a two-step peer delay answer that waits for its follow-up: T_d at its receipt less that of the request and
  its correction. -/
  pdWait : Tbl Rat := []
  /-- Foreign masters heard: grandmaster, port and tick of the last Announce (R311). -/
  foreign : List (Nat × Nat × Nat) := []
  /-- Tick of the last message of each kind sent: 0 Announce, 1 Sync, 2 delay request (R311). -/
  lastTx : Tbl Nat := []
  /-- The last offset taken, for R322. -/
  oLast : Rat := 0
  /-- MASTER_CAPABLE applies from this tick on (R309). -/
  masterFrom : Nat := 0
  holdSince : Nat := 0
  lockTick : Nat := 0
  /-- Tick at which LOCKED was last left. -/
  lockEnd : Nat := 0
  /-- Rates y_d in the last 60 s of LOCKED, each with the tick it began at, newest first (R309). -/
  yHist : List (Nat × Rat) := []
  /-- The condition of EV_TIME_JUMP holds (R310). -/
  jumpSaid : Bool := false
  deriving DecidableEq, Repr, Inhabited

/-- Network time (R313 to R316). -/
structure Time where
  dom : Tbl Dom := []
  active : Nat := 0
  /-- The residual r and the tick it was taken at. -/
  resid : Rat := 0
  residAt : Nat := 0
  /-- The slew of a switch runs (R314). -/
  slewing : Bool := false
  /-- OP_TIME_STEP pending: domain and leg. -/
  stepPend : Option (Nat × Nat) := .none
  ppsWidth : Nat := 100
  ppsHigh : Bool := false
  /-- Fine tick of the last rising edge of PPS_OUT (R316). -/
  ppsRise : Int := 0
  ppsFall : Nat := 0
  ppsInTick : Nat := 0
  ppsSeen : Bool := false
  deriving DecidableEq, Repr, Inhabited

/-- A GOOSE publication (Table 13.6). -/
structure GPub where
  enable : Bool := false
  stamp : Bool := false
  ports : Nat := 0
  dst : Bytes := []
  appid : Nat := 0
  vlan : Nat := 0
  confRev : Nat := 0
  tMin : Nat := 4
  tMax : Nat := 1000
  gocbRef : Bytes := []
  datSet : Bytes := []
  goId : Bytes := []
  /-- Members: source, type, deadband. -/
  mem : List (Nat × Nat × Nat) := []
  stNum : Nat := 0
  sqNum : Nat := 0
  values : List GVal := []
  /-- NT in ns and quality of the last change. -/
  tNs : Rat := 0
  tQual : Nat := 0
  started : Bool := false
  nextAt : Nat := 0
  /-- Interval in ms to the next repeat. -/
  interval : Nat := 0
  deriving DecidableEq, Repr, Inhabited

/-- A GOOSE subscription (17_opcodes.md Table 17.7). -/
structure GSub where
  enable : Bool := false
  simOk : Bool := false
  ports : Nat := 0
  srcMac : Bytes := []
  appid : Nat := 0
  confRev : Nat := 0
  nMem : Nat := 0
  gocbRef : Bytes := []
  /-- Bindings: member, target, quality member. -/
  binds : List (Nat × Nat × Nat) := []
  last : Option (Nat × Nat) := .none
  deadline : Nat := 0
  lost : Bool := false
  /-- Configuration content of the last message refused: confRev and member count. -/
  badCfg : Option (Nat × Nat) := .none
  values : List GVal := []
  /-- The members bound to BREAKER_OPEN that have last shown open (R319, R320). -/
  brkOpen : List Nat := []
  deriving DecidableEq, Repr, Inhabited

/-- A sampled-value stream (17_opcodes.md Table 17.8). -/
structure SvPub where
  enable : Bool := false
  ports : Nat := 0
  rate : Nat := 0
  noAsdu : Nat := 1
  appid : Nat := 0
  dst : Bytes := []
  vlan : Nat := 0
  confRev : Nat := 0
  svId : Bytes := []
  /-- Channels: chain, kind, scale as FLOAT32. -/
  chans : List (Nat × Nat × Nat) := []
  /-- NT in ns of the next sample, and its smpCnt. -/
  nextNs : Option Rat := .none
  smpCnt : Nat := 0
  asdus : List SvAsdu := []
  deriving DecidableEq, Repr, Inhabited

/-- The plant network. -/
structure Net where
  port : Tbl Port := []
  prp : Tbl Prp := []
  pub : Tbl GPub := []
  sub : Tbl GSub := []
  sv : Tbl SvPub := []
  /-- Host values of OP_NET_GOOSE_VALUE by index (17_opcodes.md R393). -/
  hostVal : Tbl Nat := []
  deriving DecidableEq, Repr, Inhabited
/-! ### Twin operation (14_twin.md) -/

/-- What this device has sent over the twin link beside frames (the model's record). -/
inductive TwinMsg where
  | mirror (m : Mirror)
  /-- A state opcode of R341 with its payload. -/
  | opcode (code : Nat) (payload : Bytes)
  | report (b : Bytes)
  /-- D of a strand as this device computes it (R335). -/
  | delay (strand d : Nat)
  deriving DecidableEq, Repr

/-- An event of a cell that a relayed command has placed: state, execute-at in own ticks, and whether it is a plan event
(R338). -/
structure Relayed where
  cell : Nat
  st : Nat
  at_ : Nat
  plan : Bool
  deriving DecidableEq, Repr, Inhabited

/-- Twin state. -/
structure Twin where
  /-- TWIN_ID as read at the release of reset: high is device B (R324). -/
  idB : Bool := false
  enable : Bool := false
  takeUnready : Bool := false
  mirrorMax : Nat := 2
  cmpN : Nat := 10
  lease : Nat := 2
  planH : Nat := 6400
  planTol : Nat := 800
  cmpDi : Nat := 0x28F5C3
  cmpDang : Nat := 0xB60B61
  /-- This device holds the cap. -/
  holder : Bool := false
  epoch : Nat := 0
  /-- CAP_OUT is high until this tick. -/
  pulseTo : Nat := 0
  /-- The cap has been released; one more pulse follows. -/
  releasing : Bool := false
  /-- The cap has been taken since reset (R330). -/
  tookOnce : Bool := false
  /-- Tick of the last qualifying CAP_IN pulse. -/
  lastIn : Option Nat := .none
  /-- What the lease counts from: the last such pulse, or the end of this device's own tenure; none at start-up, where the
  quiet counts from `quietFrom` (R329, R330). -/
  leaseFrom : Option Nat := .none
  quietFrom : Nat := 0
  /-- The twin has told that it releases the cap: pulses heard since (R331). -/
  relTold : Option Nat := .none
  /-- First tick at which CAP_IN is low again after the last pulse. -/
  inTo : Nat := 0
  /-- The lease has expired and the guard of 200 ns runs (R329). -/
  leaseOut : Bool := false
  noTakeSaid : Bool := false
  ofs : Int := 0
  ofsValid : Bool := false
  /-- The twin's condition of R334 as the last report has shown it. -/
  farAligned : Bool := false
  /-- Last mirror update, its age in steps. -/
  mirror : Option Mirror := .none
  mirrorAge : Nat := 0
  /-- An update has arrived that the next boundary takes. -/
  mirrorSeen : Bool := false
  /-- The last update has been compared (R342). -/
  compared : Bool := true
  /-- Reactions applied since the last update, each class on its own: record number, class and LEG_MAP (R341). -/
  applied : List (Nat × Nat × Nat) := []
  failRun : Nat := 0
  checkOn : Bool := false
  ready : Bool := false
  cfgMatch : Bool := false
  /-- The mismatch in force has raised EV_TWIN_CFG (R343). -/
  cfgSaid : Bool := false
  /-- TWIN_LAT in ns, from the last measurement over HL14 (R335). -/
  lat : Rat := 0
  diMax : Nat := 0
  dangMax : Nat := 0
  linkUp : Bool := false
  /-- Reports: own latest and the twin's last. -/
  own : Bytes := []
  rx : Bytes := []
  nextReport : Nat := 0
  /-- Events of cells known from relayed commands, in execute-at order for each cell: those to come, and the last that has
  executed (R338). -/
  relayed : List Relayed := []
  /-- A split has advanced the epoch; it is recomputed at each telemetry cycle while a cell reports a newer one (R333). -/
  splitOn : Bool := false
  sent : List TwinMsg := []
  deriving DecidableEq, Repr, Inhabited

/-! ### Pond (15_pond.md) -/

/-- A record (Table 15.5). -/
structure PRec where
  recNo : Nat
  flags : Nat := 0
  mask : Nat
  extra : Nat := 0
  trigTick : Nat
  preAct : Nat
  /-- Frames, oldest first. -/
  frames : List Bytes
  gntRec : Nat := 0
  detail : Nat := 0
  missedAt : Nat := 0
  closed : Bool := false
  /-- The record is not overwritten before this tick (R361). -/
  readTo : Nat := 0
  /-- It is being streamed, and its bytes queued so far (R362). -/
  streaming : Bool := false
  sentTo : Nat := 0
  /-- The partner it is streamed to. -/
  dest : Nat := 0
  /-- CAP_DIV, N_CH, FRAME_BYTES and CFG_CRC at capture. -/
  capDiv : Nat := 0
  nCh : Nat := 0
  frameBytes : Nat := 0
  cfgCrc : Nat := 0
  deriving DecidableEq, Repr, Inhabited

/-- Pond. -/
structure Pond where
  /-- OP_POND_SET_CAPTURE payload in force. -/
  cfg : Option Bytes := .none
  /-- OP_POND_SET_TRIG payload in force. -/
  trig : Bytes := []
  armed : Bool := false
  /-- Phase: 0 none, 1 pre-trigger, 2 post-trigger, 3 re-arm, 4 full, 5 suspended (R357). -/
  phase : Nat := 0
  /-- Pre-trigger frames held, oldest first. -/
  pre : List Bytes := []
  /-- First instant whose frame belongs to the present phase. -/
  from_ : Nat := 0
  cur : Option PRec := .none
  rearmAt : Nat := 0
  held : List PRec := []
  nextRec : Nat := 1
  /-- Triggers that wait for their frame: source bit, instant, detail, Gauntlet record. -/
  trigs : List (Nat × Nat × Nat × Nat) := []
  /-- Instant of the last frame decided. -/
  decided : Nat := 0
  /-- Values noted for the configured channels: by 256 × TYPE + SEL, instant and value, newest first. -/
  log : Tbl (List (Nat × Nat)) := []
  /-- Comparators: last value, and what the value has still to return beyond before they fire again: 0 nothing, 1 downward after a
  rising crossing, 2 upward after a falling one. -/
  lvl : Tbl (Option Int × Nat) := []
  /-- XTRIG is driven low, and the tick at which the drive ends (R359). -/
  xDriven : Bool := false
  xDrive : Nat := 0
  /-- Events raised and not yet matched: code. -/
  evSeen : List Nat := []
  deriving DecidableEq, Repr, Inhabited

/-! ### Balls (22_balls.md) -/

/-- Levels of the balls that other chapters read or drive. -/
structure Balls where
  /-- Levels applied to PIO inputs, one bit each. -/
  pioIn : Nat := 0
  /-- PIO balls that an output use names (R469). -/
  pioOut : List Nat := []
  /-- CLOSE pulses: ball and end tick. -/
  close : Tbl Nat := []
  /-- TRIG_OUT0 and 1: end tick of the last pulse. -/
  trigOut : Tbl Nat := []
  /-- EXTEST drives the balls from the boundary-scan register (20_security.md R451). -/
  extest : Option (List Bool) := .none
  deriving DecidableEq, Repr, Inhabited

/-- A class occurrence that the reaction table has still to answer (07_gauntlet.md R175, R179). -/
structure Occ where
  cls : Nat
  event : Nat
  detail : Nat
  tick : Nat
  /-- Record number of the holder whose reaction a standby follows, and the legs that it names (14_twin.md R341). -/
  holder : Option Nat := .none
  legs : Nat := 0
  deriving DecidableEq, Repr, Inhabited

/-! ### The configuration in force (14_twin.md R327, 20_security.md R448) -/

/-- The configuration of the device as one value: what a save records, what a load applies, and what the twin's
configuration CRC covers. Fields that one of the two lists leaves out stand at their defaults there. -/
structure CfgSnap where
  /-- T_step and T_pub. -/
  step : Option (Nat × Nat) := .none
  gfm : Tbl Int := []
  grid : Tbl Int := []
  env : Tbl (List (Nat × Nat)) := []
  bsGroup : Tbl (List Nat) := []
  bsProg : List BsStep := []
  map : Tbl ChMap := []
  chan : Tbl ChanCfg := []
  arm : Tbl Arm := []
  /-- Active bank, source, multiplier and offset of the angle tables. -/
  tab : Tbl (Tbl Int × Nat × Nat × Nat) := []
  bind : List AngBind := []
  leg : Tbl (LegCfg × List Cmp) := []
  conv : Tbl ConvCfg := []
  pair : Tbl (Nat × Nat × Nat) := []
  filt : Tbl FSet := []
  enable : Nat := 0
  bt : Tbl Nat := []
  chop : Tbl Chop := []
  table : List Entry := []
  quads : Nat := 0
  lane : Tbl Lane := []
  strand : Tbl Strand := []
  part : Tbl Partner := []
  port : Tbl Port := []
  dom : Tbl DomCfg := []
  pub : Tbl GPub := []
  sub : Tbl GSub := []
  sv : Tbl SvPub := []
  pondCfg : Option Bytes := .none
  pondTrig : Bytes := []
  /-- CTRL, MIRROR_MAX, CMP_N, LEASE, PLAN_H, PLAN_TOL, CMP_DI, CMP_DANG. -/
  twin : List Nat := []
  deriving DecidableEq, Repr, Inhabited

end Sys2Proof.Machine

/-- The bytes of a configuration as the device lays them out: the spec names the items, not their layout
(20_security.md R448, 14_twin.md R327; DESIGN CHOICE, notes/assumptions/40.md). -/
opaque Sys2Proof.Config.cfgBytes : Sys2Proof.Machine.CfgSnap → Sys2Proof.Bytes

namespace Sys2Proof.Machine


/-! ### Clocks, supplies, images, tests (18_timing.md to 21_test_diagnostics.md) -/

/-- Timebase states (18_timing.md Table 18.6). -/
inductive TbState where
  | off | acquiring | locked | holdover | coastLow | recovering
  deriving DecidableEq, Repr, Inhabited

/-- The code of a timebase state (Table 18.6). -/
def TbState.code : TbState → Nat
  | .off => 0 | .acquiring => 1 | .locked => 2 | .holdover => 3 | .coastLow => 4 | .recovering => 5

/-- One REFOUT output (18_timing.md Table 18.9). -/
structure Refout where
  src : Nat := 0
  format : Nat := 0
  div : Nat := 1
  /-- Held low until the first multiple of DIV at or after this tick (R417). -/
  heldTo : Nat := 0
  level : Bool := false
  /-- Fine tick of the last edge (R417). -/
  edgeAt : Nat := 0
  deriving DecidableEq, Repr, Inhabited

/-- The timebase and the clock blocks. -/
structure Clk where
  /-- LIST of Table 18.5. -/
  list : List Nat := [1, 0, 0, 0]
  auto : Bool := true
  revert : Bool := false
  xoMode : Nat := 0
  xoKhz : Nat := 25000
  tolPpm : Nat := 100
  peTh : Nat := 10
  fslew : Nat := 100
  /-- Source codes that are READY (R403), each with the tick since when. -/
  ready : Tbl Nat := []
  xoSettling : Bool := false
  /-- Tick at which the running settle count started. -/
  xoFrom : Nat := 0
  /-- The XO settle count has completed since reset or since the last absence (R404). -/
  xoSettled : Bool := false
  oscSet : Nat := 0
  tb : TbState := .off
  /-- RECOVERING was entered from COAST_LOW (R414). -/
  fromCoast : Bool := false
  /-- Wellspring in use; 0 while OFF. -/
  source : Nat := 0
  /-- The last departure from lock was a phase trip, at this tick (R412). -/
  tripAt : Option Nat := .none
  /-- TBASE has run since reset. -/
  everRan : Bool := false
  holdValid : Bool := false
  /-- The control word as it was last fixed or read, and the held word (R409, R411), as frequency offsets in 10^-12. -/
  word : Int := 0
  held : Int := 0
  /-- SPEED as the last outer-step boundary measured it, 2^8 = 1.00 (R398). -/
  speed : Nat := 0
  /-- Tick of the entry into RECOVERING. -/
  recSince : Nat := 0
  /-- Ticks spent in LOCKED since acquisition last started, up to the present stay. -/
  lockedTicks : Nat := 0
  /-- Tick of the last entry into LOCKED. -/
  lockTick : Nat := 0
  /-- Tick of the entry into the present HOLDOVER. -/
  holdSince : Nat := 0
  refout : Tbl Refout := []
  /-- Gate mask in force (R418). -/
  gateMask : Nat := 0
  /-- Gate mask accepted and not yet effective (R419). -/
  gatePend : Option Nat := .none
  netLock : Bool := false
  deriving DecidableEq, Repr, Inhabited

/-- Supply monitors and reset (19_supplies_reset.md). Supplies: 0 VCORE, 1 VIO33, 2 VANA, 3 VSD. -/
structure Pwr where
  /-- Supplies in warning (comparator result). -/
  warn : List Nat := []
  /-- WARN_SEEN, one bit per supply. -/
  warnSeen : Nat := 0
  policy : Nat := 0
  /-- A warning in force started under SHED (R426, R428). -/
  shedding : Bool := false
  vcoreWarn : Nat := 2
  inReset : Bool := false
  /-- Cause latch (Table 19.3). -/
  cause : Nat := 1
  sagSupply : Nat := 0
  /-- Supplies below their reset release level. -/
  low : List Nat := []
  porLow : Bool := false
  /-- VIO33 stands below 0.8 V: no ball is driven (R424). -/
  ioOff : Bool := false
  /-- Transmitters that SHED has put to sleep (R426). -/
  shedSlept : List Nat := []
  deriving DecidableEq, Repr, Inhabited

/-- One firmware slot (20_security.md R437, R438). -/
structure Slot where
  /-- VR code of Table 20.3. -/
  vr : Nat := 0
  /-- SM3 of header and body, kept with the VR code. -/
  meas : Bytes := []
  deriving DecidableEq, Repr, Inhabited

/-- A challenge for debug access or for a test permit (R452, R458). -/
structure Challenge where
  nonce : Bytes
  level : Nat
  expires : Nat
  deriving DecidableEq, Repr, Inhabited

/-- What holds the answer to a verification in progress. -/
inductive VerifyFor where
  /-- The boot ROM's choice: second slot tried, and whether the slot was named by TRY_SLOT. -/
  | boot (second tried : Bool)
  | command (owed : Owed)
  deriving DecidableEq, Repr, Inhabited

/-- A record of the configuration store (R448): saving image, content and whether its CRC-32C passes. -/
structure CfgRec where
  imageVer : Nat
  snap : CfgSnap
  ok : Bool := true
  deriving DecidableEq, Repr, Inhabited

/-- The boot record: PERM_SLOT and TRY_SLOT, true for slot B (R439). -/
structure BootRec where
  permB : Bool := false
  tryB : Option Bool := .none
  deriving DecidableEq, Repr, Inhabited

/-- Images, identity and debug access: what SRAM holds (20_security.md). -/
structure Sec where
  slotA : Slot := {}
  slotB : Slot := {}
  /-- 0 none, 1 A, 2 B. -/
  running : Nat := 0
  tryRun : Bool := false
  /-- The slot being verified and why. -/
  verifying : Option (Nat × VerifyFor) := .none
  /-- Verifications that wait (R441). -/
  verifyQ : List (Nat × Owed) := []
  /-- Load packets that wait for the verification of its slot to end (R440). -/
  loadWait : List Req := []
  /-- Debug level unlocked, 0 locked. -/
  debug : Nat := 0
  dbgChallenge : Option Challenge := .none
  /-- Failed responses since reset. -/
  dbgFails : Nat := 0
  /-- ST_LOCKED in force until the next reset. -/
  dbgLocked : Bool := false
  /-- The record a save is writing, with the reply owed (R448). -/
  saving : Option (CfgRec × Owed) := .none
  /-- The owner fuse sequence in progress (R445): key hash and flag. -/
  fusing : Option (Bytes × Bool) := .none
  /-- The boot record as it was before the last write of its two copies, and the tick of that write (R431, R439). -/
  bootOld : Option (BootRec × Nat) := .none
  /-- The ROLLBACK fuses are blown one by one: their value before, and the tick of the first (R442). -/
  blowing : Option (Nat × Nat) := .none
  /-- Journal write queue: kind and body (R450). -/
  journalQ : List (Nat × Bytes) := []
  deriving DecidableEq, Repr, Inhabited

/-- MRAM and fuses: what survives a reset (20_security.md R434, R435, R439, R448, R450; DESIGN CHOICE, notes/assumptions/5.md). -/
structure Mram where
  imageA : Bytes := []
  imageB : Bytes := []
  /-- The two copies of the boot record; none is one whose CRC-32C fails (R439). -/
  boot1 : Option BootRec := some {}
  boot2 : Option BootRec := some {}
  /-- The two generations of the configuration record, newest first. -/
  cfg : List CfgRec := []
  /-- Saved calibration records by converter (08_acquisition.md R211). -/
  cal : Tbl CalRec := []
  /-- Journal entries held: ENTRY_NO, kind, body, oldest first. -/
  journal : List (Nat × Nat × Bytes) := []
  nextEntry : Nat := 1
  /-- The owner data region, which the vendor firmware does not use (R434). -/
  ownerData : Bytes := []
  ownerHash : Option Bytes := .none
  ownerDebugOff : Bool := false
  /-- Hash bits blown by a sequence that never reached its marker, and whether its flag has been blown (R445). -/
  partialOwner : Option Bytes := .none
  partialOff : Bool := false
  rollback : Nat := 0
  deriving DecidableEq, Repr, Inhabited

/-- An item that crosses a boundary where injections act: its bytes with their check value, what FILTER compares, and
the frame, message or path it stands for. -/
structure Item where
  bytes : Bytes
  cls : Nat
  frame : Option LFrame := .none
  msg : Option TxItem := .none
  path : Option SegPath := .none
  /-- A message of the twin link that is no frame of Table 11.1. -/
  twin : Option TwinMsg := .none
  deriving DecidableEq, Repr

/-- An item that an injection holds: its release tick, direction (0 TX, 1 RX), and how many more items must pass
before it (REORDER). -/
structure Held where
  at_ : Nat
  dir : Nat
  item : Item
  more : Nat
  deriving DecidableEq, Repr

/-- One injection slot (21_test_diagnostics.md Table 21.2). -/
structure Inject where
  type : Nat
  target : Nat
  kind : Nat
  dir : Nat
  filter : Nat
  everyN : Nat
  depth : Nat
  until_ : Nat
  count : Nat
  delay : Nat
  inService : Bool
  /-- Items that passed FILTER since the start. -/
  passed : Nat := 0
  affected : Nat := 0
  held : List Held := []
  deriving DecidableEq, Repr

/-- Test permit, injections and self-test (21_test_diagnostics.md). -/
structure Test where
  scope : Nat := 0
  expires : Nat := 0
  challenge : Option Challenge := .none
  slot : Tbl Inject := []
  /-- Items that an injection held when it ended, with its type and target: they are still sent (R459). -/
  late : List (Nat × Nat × Held) := []
  /-- FAIL of Table 21.7. -/
  fail : Nat := 0
  /-- BALL of Table 21.7. -/
  ball : Nat := 0xFFFF
  /-- Balls that failed their read-back: consecutive matches since. -/
  badBalls : Tbl Nat := []
  /-- LAST_RUN by check. -/
  lastRun : Tbl Nat := []
  /-- Engines whose kernel signature failed last (check 4). -/
  badEngines : List Nat := []
  /-- Saturation list (R456): counter keys in order of saturation. -/
  sat : List Nat := []
  listOvf : Bool := false
  /-- Counters that have saturated and whose EV_CNT_SAT has still to be raised (R453). -/
  satNew : List Nat := []
  deriving DecidableEq, Repr, Inhabited

/-! ### The whole state -/

/-- The state of the block. -/
structure State where
  /-- TBASE tick; it stands while TBASE does not run (18_timing.md R415). -/
  now : Nat := 0
  sys : Sys := {}
  pkt : Pkt := {}
  win : Win := {}
  clk : Clk := {}
  pwr : Pwr := {}
  sec : Sec := {}
  mram : Mram := {}
  test : Test := {}
  gnt : Gnt := {}
  part : Part := {}
  net : Net := {}
  time : Time := {}
  lane : Lanes := {}
  strand : Tbl Strand := []
  cell : Tbl Cell := []
  node : Tbl Node := []
  gfm : Gfm := {}
  grid : Grid := {}
  chan : Tbl Chan := []
  arm : Tbl Arm := []
  angle : Angle := {}
  leg : Tbl Leg := []
  conv : Tbl Conv := []
  pair : Tbl ConvPair := []
  filt : Tbl FChain := []
  twin : Twin := {}
  pond : Pond := {}
  balls : Balls := {}
  /-- Class occurrences that the reaction table has still to answer. -/
  occ : List Occ := []
  /-- Marks of the outer step before. -/
  onceLast : List (Nat × Nat) := []
  /-- 32-bit counters that are not zero, by opcode, object and offset (21_test_diagnostics.md R453). -/
  cnt : Tbl Nat := []
  /-- 64-bit counters that are not zero, by the same key (R454). -/
  cnt64 : Tbl Nat := []
  /-- Marks of what has been raised in the present outer step: event code and object. -/
  once : List (Nat × Nat) := []
  /-- The model's own counter of free values drawn (DESIGN CHOICE, notes/assumptions/2.md). -/
  draws : Nat := 0
  /-- Commands that wait, first in, first out. -/
  pending : List Instr := []
  deriving DecidableEq, Repr

/-- The machine right after reset: in BOOT, every field at its reset value, nothing pending (DESIGN CHOICE,
notes/assumptions/4.md). -/
def State.reset : State := {}

end Sys2Proof.Machine
end

