-- ==== Sys2Proof/Machine/Operands.lean ====
section
/-! DEFINITION. How the operands of commands are read and results are coded: fields of payloads, check values, number
formats and durations (00_scope.md R1 to R7, 16_command_transport.md R365). -/

namespace Sys2Proof.Machine

open Sys2Proof

/-! ### Fields (00_scope.md R1) -/

/-- The byte at an offset; zero beyond the end. -/
def u8 (p : Bytes) (o : Nat) : Nat := (p.getD o 0).toNat

/-- The little-endian unsigned field of `n` bytes at an offset (R1). -/
def uLE (n : Nat) (p : Bytes) (o : Nat) : Nat :=
  match n with
  | 0 => 0
  | k + 1 => u8 p o + 256 * uLE k p (o + 1)

def u16 (p : Bytes) (o : Nat) : Nat := uLE 2 p o
def u32 (p : Bytes) (o : Nat) : Nat := uLE 4 p o
def u64 (p : Bytes) (o : Nat) : Nat := uLE 8 p o

/-- A code of `w` bits read as two's complement. -/
def sgn (w n : Nat) : Int := if n < 2 ^ (w - 1) then (n : Int) else (n : Int) - 2 ^ w

def i8 (p : Bytes) (o : Nat) : Int := sgn 8 (u8 p o)
def i16 (p : Bytes) (o : Nat) : Int := sgn 16 (u16 p o)
def i32 (p : Bytes) (o : Nat) : Int := sgn 32 (u32 p o)
def i64 (p : Bytes) (o : Nat) : Int := sgn 64 (u64 p o)

/-- The `n` little-endian bytes of a value (R1). -/
def le (n v : Nat) : Bytes :=
  match n with
  | 0 => []
  | k + 1 => BitVec.ofNat 8 v :: le k (v / 256)

/-- The `n` little-endian bytes of a signed value, two's complement. -/
def leI (n : Nat) (v : Int) : Bytes := le n (v % (2 ^ (8 * n) : Int)).toNat

/-- The `n` bytes of a value in network order. -/
def be (n v : Nat) : Bytes := (le n v).reverse

/-- The big-endian unsigned field of `n` bytes at an offset. -/
def uBE (n : Nat) (p : Bytes) (o : Nat) : Nat := uLE n ((p.drop o).take n).reverse 0

/-- `n` bytes from an offset, padded with zeros beyond the end. -/
def bytesAt (n : Nat) (p : Bytes) (o : Nat) : Bytes := (List.range n).map fun i => p.getD (o + i) 0

/-- A byte string cut or padded with zeros to `n` bytes. -/
def fit (n : Nat) (p : Bytes) : Bytes := bytesAt n p 0

/-- Bits `[hi:lo]` of a value. -/
def bits (v hi lo : Nat) : Nat := v / 2 ^ lo % 2 ^ (hi + 1 - lo)

/-- `n` bytes from an offset are all zero (a reserved field, R8). -/
def zeroAt (p : Bytes) (o n : Nat) : Bool := (List.range n).all fun i => u8 p (o + i) == 0

/-- The bit numbers below `n` that a mask sets, rising. -/
def bitsOf (n mask : Nat) : List Nat := (List.range n).filter fun i => mask.testBit i

/-- The mask with the listed bits set. -/
def maskOf (l : List Nat) : Nat := l.foldl (fun m i => m ||| 1 <<< i) 0

def b2n (b : Bool) : Nat := if b then 1 else 0

/-! ### Check values (16_command_transport.md R365) -/

/-- One byte of the CRC-16 with polynomial 0x1021, most significant bit first. -/
def crc16Byte (c : Nat) (x : Byte) : Nat :=
  Nat.iterate (fun d => if d.testBit 15 then ((d <<< 1) ^^^ 0x1021) % 0x10000 else (d <<< 1) % 0x10000) 8
    (c ^^^ (x.toNat <<< 8))

/-- HDR_CHK: CRC-16, initial value 0xFFFF, no final XOR. -/
def crc16 (p : Bytes) : Nat := p.foldl crc16Byte 0xFFFF

/-- One byte of the CRC-32C (Castagnoli, reflected). -/
def crc32cByte (c : Nat) (x : Byte) : Nat :=
  Nat.iterate (fun d => if d.testBit 0 then (d >>> 1) ^^^ 0x82F63B78 else d >>> 1) 8 (c ^^^ x.toNat)

/-- CHK: CRC-32C with initial and final XOR 0xFFFF_FFFF. -/
def crc32c (p : Bytes) : Nat := p.foldl crc32cByte 0xFFFFFFFF ^^^ 0xFFFFFFFF

/-! ### Number formats (00_scope.md R2 to R7) -/

/-- Round to nearest, ties away from zero (R7). -/
def rnd (q : Rat) : Int := if 0 ≤ q then (q + 1 / 2).floor else -((-q + 1 / 2).floor)

/-- A signed number in a field of `n` bytes: free where the spec states no value for one that does not fit
(DESIGN CHOICE, notes/assumptions/33.md). -/
def fieldI (f n : Nat) (v : Int) : Bytes :=
  if -(2 ^ (8 * n - 1)) ≤ v ∧ v < 2 ^ (8 * n - 1) then leI n v else le n (Config.beyond f v)

/-- An unsigned number in a field of `n` bytes, likewise. -/
def fieldU (f n v : Nat) : Bytes := if v < 2 ^ (8 * n) then le n v else le n (Config.beyond f v)

/-- Saturate to a closed range (R4). -/
def clampI (lo hi v : Int) : Int := max lo (min hi v)

/-- Clamp a real to a closed range. -/
def clampQ (lo hi v : Rat) : Rat := max lo (min hi v)

/-- The pu32 code of a real in pu: rounded (R7) and saturated (R4), as a signed value. -/
def puCode (q : Rat) : Int := clampI (-(2 ^ 31)) (2 ^ 31 - 1) (rnd (q * 2 ^ 27))

/-- A real in pu held within the range of pu32 (R4). -/
def puSat (q : Rat) : Rat := clampQ (-16) (16 - 1 / 2 ^ 27) q

/-- The real of a signed pu32 code (R2). -/
def puOf (c : Int) : Rat := (c : Rat) / 2 ^ 27

/-- The hz32 code of a real in Hz (R4, R7). -/
def hzCode (q : Rat) : Int := clampI 0 (2 ^ 32 - 1) (rnd (q * 2 ^ 20))

/-- The real in Hz of a code at 2^20 per Hz, signed or not (R2). -/
def hzOf (c : Int) : Rat := (c : Rat) / 2 ^ 20

/-- The turn32 code of an angle in turns, wrapping (R5). -/
def turnCode (q : Rat) : Nat := (rnd (q * 2 ^ 32) % (2 ^ 32 : Int)).toNat

/-- The angle in turns of a turn32 code. -/
def turnOf (c : Nat) : Rat := (c : Rat) / 2 ^ 32

/-- An angle in turns taken into [0, 1) (R5). -/
def wrap1 (q : Rat) : Rat := q - q.floor

/-- The shorter way round of an angle difference, in [−1/2, 1/2) (R5). -/
def wrapHalf (q : Rat) : Rat := wrap1 (q + 1 / 2) - 1 / 2

/-- Sine and cosine of an angle in turns: exact at quarter turns, else the free functions of Config. -/
def cosT (q : Rat) : Rat :=
  let a := wrap1 q
  if a = 0 then 1 else if a = 1 / 4 then 0 else if a = 1 / 2 then -1 else if a = 3 / 4 then 0 else Config.cosTurn a

def sinT (q : Rat) : Rat :=
  let a := wrap1 q
  if a = 0 then 0 else if a = 1 / 4 then 1 else if a = 1 / 2 then 0 else if a = 3 / 4 then -1 else Config.sinTurn a

/-- Magnitude of a vector: exact on the axes, else by the square root of Config. -/
def mag (d q : Rat) : Rat := if q = 0 then |d| else if d = 0 then |q| else Config.sqrt (d * d + q * q)

/-- Angle of a vector in turns, 0 for the null vector: exact on the axes. -/
def angT (d q : Rat) : Rat :=
  if q = 0 then (if d < 0 then 1 / 2 else 0) else if d = 0 then (if q < 0 then -1 / 4 else 1 / 4)
  else Config.atan2Turn d q

/-- Ticks of a duration in microseconds (625 ps each). -/
def usT (us : Nat) : Nat := us * 1600

/-- Ticks of a duration in milliseconds. -/
def msT (ms : Nat) : Nat := ms * 1600000

end Sys2Proof.Machine
end

