-- ==== Sys2Proof/Machine/Ops.lean ====
section
/-! DEFINITION. Operations every family uses: statuses, time, counters, the outbound queues, events and replies. -/

namespace Sys2Proof.Machine

open Sys2Proof

/-! ### Statuses (17_opcodes.md Table 17.10) -/

inductive Status where
  | ok | accepted | badOpcode | badLength | badParam | range | badState | notReady | refused | busy
  | seqGap | seqDup | version | check | auth | locked | timeout | partial_ | aborted | noResource | internal
  deriving DecidableEq, Repr, Inhabited

/-- The code of a status (Table 17.10). -/
def Status.code : Status → Nat
  | .ok => 0x0000 | .accepted => 0x0001 | .badOpcode => 0x0101 | .badLength => 0x0102 | .badParam => 0x0103
  | .range => 0x0104 | .badState => 0x0201 | .notReady => 0x0202 | .refused => 0x0203 | .busy => 0x0204
  | .seqGap => 0x0301 | .seqDup => 0x0302 | .version => 0x0303 | .check => 0x0304 | .auth => 0x0401
  | .locked => 0x0402 | .timeout => 0x0501 | .partial_ => 0x0502 | .aborted => 0x0503 | .noResource => 0x0601
  | .internal => 0x0F01

/-- A status that does not fail its request (R368). -/
def Status.good : Status → Bool
  | .ok => true
  | .accepted => true
  | _ => false

/-! ### Time -/

/-- TBASE runs (18_timing.md Table 18.6). -/
def tbRuns (s : State) : Bool :=
  match s.clk.tb with
  | .off => false
  | .acquiring => false
  | _ => true

/-- Bring the tick counter to the tick of an event; it stands while TBASE does not run (18_timing.md R415; DESIGN CHOICE,
notes/assumptions/6.md). -/
def tickTo (t : Nat) (s : State) : State := if tbRuns s then { s with now := max s.now t } else s

/-- A duration that runs without TBASE has passed (18_timing.md R399): its end is a tick, and while nothing counts ticks the
event itself says that it has come. -/
def due (s : State) (x : Nat) : Bool := decide (x ≤ s.now) || !tbRuns s

/-- A tick that something waits for has been reached: what needs an instant waits while TBASE does not run (18_timing.md R399). -/
def reached (s : State) (x : Nat) : Bool := tbRuns s && decide (x ≤ s.now)

/-- The tick that time stamps carry: zero until TBASE has first run (Table 16.4). -/
def stamp (s : State) : Nat := if s.clk.everRan then s.now else 0

/-! ### Counters (21_test_diagnostics.md R453, R455, R457) -/

/-- The identity of a counter: the opcode whose reply holds it (0: the host window), object and offset (DEDUCED,
notes/assumptions/21.md). -/
def cKey (op obj off : Nat) : Nat := (op * 65536 + obj) * 65536 + off

/-- The gate bit of the block that a counter's object belongs to (18_timing.md R418). -/
def gateBit (op obj : Nat) : Option Nat :=
  if op = 0x2007 then some (obj / 4)
  else if op = 0x2308 then some (4 + obj)
  else if op = 0x1607 then some (if obj < 16 then 12 + obj / 2 else 20)
  else none

/-- The object of a reply lies in a block that is clock gated. -/
def gated (s : State) (op obj : Nat) : Bool :=
  match gateBit op obj with
  | some b => s.clk.gateMask.testBit b
  | none => false

/-- The gate mask last accepted, in force or about to be (18_timing.md R418, R419). -/
def gateReq (s : State) : Nat := s.clk.gatePend.getD s.clk.gateMask

/-- The value of a 32-bit counter. -/
def c32 (s : State) (op obj off : Nat) : Nat := s.cnt.getD (cKey op obj off) 0

/-- The value of a 64-bit counter (R454). -/
def c64 (s : State) (op obj off : Nat) : Nat := s.cnt64.getD (cKey op obj off) 0

/-- Count one on a 64-bit counter. -/
def bump64 (op obj off n : Nat) (s : State) : State :=
  if gated s op obj then s else { s with cnt64 := s.cnt64.put (cKey op obj off) (c64 s op obj off + n) }

/-- Count on a 32-bit counter: it stops at 0xFFFF_FFFF, and reaching it lists the counter, where the list has a place (R453,
R456). -/
def count (op obj off n : Nat) (s : State) : State :=
  if gated s op obj then s
  else
    let v := c32 s op obj off
    let w := min 0xFFFFFFFF (v + n)
    let s1 := { s with cnt := s.cnt.put (cKey op obj off) w }
    if v < 0xFFFFFFFF ∧ w = 0xFFFFFFFF then
      let full := decide (256 ≤ s1.test.sat.length)
      { s1 with test := { s1.test with sat := if full then s1.test.sat else s1.test.sat ++ [cKey op obj off],
                                       listOvf := s1.test.listOvf || full, satNew := s1.test.satNew ++ [cKey op obj off] } }
    else s1

/-- Clear the counters that a predicate selects, and take them off the saturation list (21_test_diagnostics.md R455, R456). -/
def clearCounters (f : Nat → Bool) (s : State) : State :=
  let sat := s.test.sat.filter fun k => !f k
  { s with cnt := s.cnt.filter fun e => !f e.1
           test := { s.test with sat := sat, listOvf := s.test.listOvf && decide (256 ≤ sat.length) } }

/-! ### Outbound packets (16_command_transport.md R370 to R379) -/

/-- An originator; one that has never been heard has no reference and an empty event mask (R374). -/
def orig (s : State) (id : Nat) : Orig := s.pkt.orig.getD id {}

def setOrig (id : Nat) (o : Orig) (s : State) : State := { s with pkt := { s.pkt with orig := s.pkt.orig.put id o } }

/-- The bytes of a packet, with both check values (R365, Table 16.1). -/
def OutPkt.bytes (k : OutPkt) : Bytes :=
  let h := le 1 k.ver ++ le 1 k.flags ++ le 2 k.opcode ++ le 4 k.seq ++ le 2 k.tag ++ le 2 k.payload.length ++
    le 2 k.target
  let b := h ++ le 2 (crc16 h) ++ k.payload
  b ++ le 4 (crc32c b)

/-- The size of a packet: 20 bytes and its payload. -/
def OutPkt.size (k : OutPkt) : Nat := 20 + k.payload.length

/-- Bytes queued for an originator (R379). -/
def queued (o : Orig) : Nat := (o.outq.map OutPkt.size).sum

/-- A packet of this size fits into the originator's outbound queue of 65,536 bytes (R379). -/
def fits (o : Orig) (size : Nat) : Bool := decide (queued o + size ≤ 65536)

/-- FLAGS of a replayed packet. -/
def flagReplay : Nat := 0x20

/-- Keep the last 256 packets (R373). -/
def keepLast (n : Nat) {α : Type} (l : List α) : List α := l.drop (l.length - n)

/-- A reply that names a number of the outbound space is filled in as it is queued: NEXT_OUT of a HELLO reply is its own SEQ plus
1 (R374), and LAST_SENT of a RESYNC reply the number before its own (R375). -/
def stampOut (k : OutPkt) : OutPkt :=
  if ¬ k.flags.testBit 4 then k
  else if k.opcode = 1 ∧ k.payload.length = 20 then { k with payload := k.payload.take 16 ++ le 4 ((k.seq + 1) % 2 ^ 32) }
  else if k.opcode = 2 ∧ k.payload.length = 22 then
    { k with payload := k.payload.take 8 ++ le 4 ((k.seq + 2 ^ 32 - 1) % 2 ^ 32) ++ k.payload.drop 12 }
  else k

/-- Queue a packet: it takes the next outbound SEQ and enters the replay store, unless it is stream data (R372, R373). -/
def enqueue (id : Nat) (reqSeq : Option Nat) (store : Bool) (k : OutPkt) (s : State) : State :=
  let o := orig s id
  let k1 := stampOut { k with seq := o.nextOut, ver := o.ver, target := id }
  let s1 := setOrig id { o with nextOut := (o.nextOut + 1) % 2 ^ 32, outq := o.outq ++ [k1] } s
  if store then
    { s1 with pkt := { s1.pkt with store := keepLast 256 (s1.pkt.store ++ [{ org := id, reqSeq := reqSeq, pkt := k1 }]) } }
  else s1

/-- Queue a packet again from the replay store, with REPLAY set and its own SEQ (R372, R373). -/
def requeue (id : Nat) (k : OutPkt) (s : State) : State :=
  let o := orig s id
  setOrig id { o with outq := o.outq ++ [{ k with flags := k.flags ||| flagReplay }] } s

/-- A packet in flight is this originator's request. -/
def Flight.is (org seq opcode : Nat) (f : Flight) : Bool := f.org == org && f.seq == seq && f.opcode == opcode

/-- The packet leaves flight once its reply, if any, has been queued (R377). -/
def endFlight (org seq opcode : Nat) (s : State) : State :=
  { s with pkt := { s.pkt with inFlight := s.pkt.inFlight.eraseP (Flight.is org seq opcode) } }

/-- The packet of a request whose reply is deferred, or waits for space, has started (R378). -/
def beginFlight (org seq opcode : Nat) (s : State) : State :=
  let begin_ (f : Flight) : Flight := if f.is org seq opcode then { f with begun := true } else f
  { s with pkt := { s.pkt with inFlight := s.pkt.inFlight.map begin_ } }

/-- Queue a packet of a request's reply; with its last packet the request leaves flight (R377). -/
def queueReply (id : Nat) (reqSeq : Option Nat) (k : OutPkt) (s : State) : State :=
  let s1 := enqueue id reqSeq true k s
  match reqSeq with
  | some q => if k.flags.testBit 2 then endFlight id q k.opcode s1 else s1
  | none => s1

/-- Queue a reply; without space it waits, and so does every later reply of the originator (R379). -/
def enqueueReply (id : Nat) (reqSeq : Nat) (k : OutPkt) (s : State) : State :=
  let o := orig s id
  if o.waitq.isEmpty && fits o k.size then queueReply id (some reqSeq) k s
  else beginFlight id reqSeq k.opcode (setOrig id { o with waitq := o.waitq ++ [(k, some reqSeq)] } s)

/-- Queue a packet that is no reply to a packet in flight; like a reply, it waits for space behind those that wait (R379;
DEDUCED, notes/assumptions/8.md). -/
def enqueueOwn (id : Nat) (k : OutPkt) (s : State) : State :=
  let o := orig s id
  if o.waitq.isEmpty && fits o k.size then enqueue id none true k s
  else setOrig id { o with waitq := o.waitq ++ [(k, none)] } s

/-- Replies that waited for space, as many as now fit (R379). -/
def admitWaiting (fuel id : Nat) (s : State) : State :=
  match fuel with
  | 0 => s
  | n + 1 =>
    let o := orig s id
    match o.waitq with
    | [] => s
    | (k, rs) :: r =>
      let s1 := setOrig id { o with waitq := r } s
      if ¬ fits o k.size then s
      else admitWaiting n id (if k.flags.testBit 5 then requeue id k s1 else queueReply id rs k s1)

/-! ### Events (16_command_transport.md R370, R379; 20_security.md R450) -/

/-- Count an event dropped for an originator; the QSPI host's count is HW_EV_LOST (R379). -/
def countLost (id : Nat) (s : State) : State :=
  let s1 := setOrig id (let o := orig s id; { o with evLost := min 0xFFFFFFFF (o.evLost + 1) }) s
  if id = 0 then
    let s2 := count 0 0 0x58 1 s1
    { s2 with win := { s2.win with intCause := s2.win.intCause ||| 0x10 } }
  else s1

/-- Offer an event packet to one originator: queued, or dropped and counted (R379; DEDUCED, notes/assumptions/23.md). -/
def offerEvent (code : Nat) (payload : Bytes) (s : State) (id : Nat) : State :=
  let o := orig s id
  if o.evMask.testBit (code / 256) && fits o (20 + payload.length) then
    enqueue id none true { flags := 0x06, opcode := 0x0004, seq := 0, tag := 0, target := id, payload := payload } s
  else countLost id s

/-- Events that the journal keeps: the families SYS, SEC and CLK, EV_TIME_STEPPED, EV_TWIN_CAP and EV_GRID_MODE
(20_security.md R450). -/
def journalled (code : Nat) : Bool :=
  code / 256 == 0 || code / 256 == 1 || code / 256 == 3 || code == 0x0203 || code == 0x2401 || code == 0x1101

/-- Put an entry into the journal's write queue of 256; one that finds it full is lost (R450). -/
def journal (kind : Nat) (body : Bytes) (s : State) : State :=
  if s.sec.journalQ.length < 256 then { s with sec := { s.sec with journalQ := s.sec.journalQ ++ [(kind, body)] } }
  else s

/-- Raise an event without looking at the counters it may saturate. -/
def raiseOnce (code detail : Nat) (data : Bytes) (s : State) : State :=
  let p := le 2 code ++ le 2 detail ++ le 8 (stamp s) ++ data
  let s1 := if journalled code then journal 2 (fit 48 p) s else s
  let s2 := s1.pkt.orig.keys.foldl (offerEvent code p) s1
  { s2 with pond := { s2.pond with evSeen := s2.pond.evSeen ++ [code] } }

/-- Raise EV_CNT_SAT once for each counter that has saturated (R453, Table 17.13). -/
def raiseSats (s : State) : State :=
  s.test.satNew.foldl (fun a k => raiseOnce 0x3001 (k / 2 ^ 32) (le 2 (k / 65536 % 65536) ++ le 2 (k % 65536)) a)
    { s with test := { s.test with satNew := [] } }

/-- Raise EV_CNT_SAT for what has saturated, and for HW_EV_LOST where an event lost here has saturated it (R453). -/
def raiseSat (s : State) : State := if s.test.satNew.isEmpty then s else raiseSats (raiseSats s)

/-- Count one on a 32-bit counter and raise EV_CNT_SAT where it saturates (R453). -/
def bump (op obj off : Nat) (s : State) : State :=
  raiseSat (count op obj off 1 s)

/-- Count `n` on a 32-bit counter and raise EV_CNT_SAT where it saturates (R453). -/
def bumpN (op obj off n : Nat) (s : State) : State :=
  raiseSat (count op obj off n s)

/-- Raise an event to every originator (R370), the journal (R450) and Pond's event matches
(15_pond.md R358). A counter of dropped events that saturates is reported after it. -/
def raise (code detail : Nat) (data : Bytes) (s : State) : State :=
  raiseSat (raiseOnce code detail data s)

/-- DETAIL of an object with a one-byte value (17_opcodes.md R396). -/
def det (obj val : Nat) : Nat := obj % 256 + 256 * (val % 256)

/-! ### Replies (16_command_transport.md R367, R368) -/

/-- What a request's reply is owed to. -/
def owedTo (r : Req) (code : Nat) : Owed :=
  { org := r.org, opcode := code, tag := r.tag, seq := r.seq, ackReq := r.ackReq, abortOnErr := r.abortOnErr }

/-- A reply packet of an opcode. -/
def replyPkt (o : Owed) (last : Bool) (payload : Bytes) : OutPkt :=
  { flags := if last then 0x14 else 0x10, opcode := o.opcode, seq := 0, tag := o.tag, target := o.org,
    payload := payload }

/-- A failure of an ABORT_ON_ERR request aborts its batch; RESYNC stands outside, and leaves an abort in force as it is (R368). -/
def noteFailure (o : Owed) (st : Status) (s : State) : State :=
  if o.abortOnErr && o.opcode != 2 && !st.good then setOrig o.org { orig s o.org with aborting := some o.tag } s else s

/-- Answer a request: the reply is sent unless it would carry only ST_OK or ST_ACCEPTED and ACKREQ is clear (R367). -/
def answer (o : Owed) (st : Status) (detail : Nat) (data : Bytes) (s : State) : State :=
  let s1 := noteFailure o st s
  if !o.ackReq && st.good && data.isEmpty then endFlight o.org o.seq o.opcode s1
  else enqueueReply o.org o.seq (replyPkt o true (le 2 st.code ++ le 2 detail ++ data)) s1

/-- Cut a byte string into pieces of at most `n` bytes. -/
def pieces (n : Nat) (fuel : Nat) (p : Bytes) : List Bytes :=
  match fuel with
  | 0 => []
  | f + 1 => if p.length ≤ n then [p] else p.take n :: pieces n f (p.drop n)

/-- Answer with a chain of reply packets, LAST on the final one (R369, R388). -/
def answerChain (o : Owed) (data : Bytes) (s : State) : State :=
  let all := le 2 Status.ok.code ++ le 2 0 ++ data
  let ps := pieces 4080 (data.length + 1) all
  ((List.range ps.length).zip ps).foldl
    (fun a x => enqueueReply o.org o.seq (replyPkt o (x.1 + 1 == ps.length) x.2) a) s

/-! ### Marks of an outer step and class occurrences -/

/-- Mark an event of an object in the present outer step. -/
def mark (code obj : Nat) (s : State) : State :=
  if s.once.contains (code, obj) then s else { s with once := s.once ++ [(code, obj)] }

/-- Raise an event on the first outer step in which its condition occurs after one in which it did not
(04_brim_engine.md R122, 06_legs_pwm.md R167). -/
def raiseFirst (code obj detail : Nat) (data : Bytes) (s : State) : State :=
  if s.once.contains (code, obj) then s
  else if s.onceLast.contains (code, obj) then mark code obj s
  else raise code detail data (mark code obj s)

/-- Raise an event at most once per outer step. -/
def raiseStep (code obj detail : Nat) (data : Bytes) (s : State) : State :=
  if s.once.contains (code, obj) then s else raise code detail data (mark code obj s)

/-- A reaction-table class occurs; the table answers at the end of the command (07_gauntlet.md R175, R179). -/
def occur (cls event detail : Nat) (s : State) : State :=
  { s with occ := s.occ ++ [{ cls := cls, event := event, detail := detail, tick := s.now }] }

/-- Raise an event that is a reaction-table class. -/
def raiseClass (cls code detail : Nat) (data : Bytes) (s : State) : State := occur cls code detail (raise code detail data s)

/-! ### What Pond is told (15_pond.md R350, R353) -/

/-- Channels of a capture configuration: TYPE, SEL, WIDTH (Table 15.1). -/
def pondChans (p : Bytes) : List (Nat × Nat × Nat) :=
  (List.range (u8 p 0)).map fun k => (u8 p (20 + 4 * k), u8 p (21 + 4 * k), u8 p (22 + 4 * k))

/-- Entries of a log that a frame can still ask for: those of the last 2 µs and the newest before (DESIGN CHOICE,
notes/assumptions/68.md). -/
def pruneLog (now : Nat) : List (Nat × Nat) → List (Nat × Nat)
  | [] => []
  | x :: r => if x.1 + 3200 < now then [x] else x :: pruneLog now r

/-- Note a value of a source that a channel captures, with its instant. -/
def pondNote (type sel inst val : Nat) (s : State) : State :=
  match s.pond.cfg with
  | none => s
  | some c =>
    if s.pond.armed && (pondChans c).any (fun x => x.1 == type && x.2.1 == sel) then
      let k := 256 * type + sel
      { s with pond := { s.pond with log := s.pond.log.put k (pruneLog s.now ((inst, val) :: s.pond.log.getD k [])) } }
    else s

/-- TRIG_EN of the capture configuration. -/
def trigEn (s : State) : Nat := match s.pond.cfg with | none => 0 | some c => u16 c 6

/-- Count a trigger that is not captured (R353, R356, R357). -/
def pondMissed (s : State) : State := raiseFirst 0x1803 0 0 [] (bump 0x1809 0 24 s)

/-- A trigger of a source with its instant (R353): during re-arm, or with an instant in it, it is counted and not captured. -/
def pondTrig (source inst detail recNo : Nat) (s : State) : State :=
  if s.pond.armed && (trigEn s).testBit source then
    if 3 ≤ s.pond.phase ∨ inst < s.pond.from_ then pondMissed s
    else { s with pond := { s.pond with trigs := s.pond.trigs ++ [(source, inst, detail, recNo)] } }
  else s

end Sys2Proof.Machine
end

