-- ==== Sys2Proof/Machine/FiltOps.lean ====
section
/-! DEFINITION. What other families use of the filter chains: sample-word fields, coefficient sets, group delay, load,
and how a change takes effect (08_acquisition.md R204, 09_filters.md R215 to R228). -/

namespace Sys2Proof.Machine

open Sys2Proof

/-- A converter after reset: each field at the default of Table 8.2, whose DIV is an OSR of 256 on an auxiliary converter
(08_acquisition.md R195). -/
def convReset (n : Nat) : Conv := if n < 16 then {} else { cfg := { div := 256 } }

def conv (s : State) (n : Nat) : Conv := s.conv.getD n (convReset n)

def setConv (n : Nat) (x : Conv) (s : State) : State := { s with conv := s.conv.put n x }

def pair (s : State) (p : Nat) : ConvPair := s.pair.getD p {}

def setPair (p : Nat) (x : ConvPair) (s : State) : State := { s with pair := s.pair.put p x }

def fchain (s : State) (n : Nat) : FChain := s.filt.getD n {}

def setFchain (n : Nat) (x : FChain) (s : State) : State := { s with filt := s.filt.put n x }

/-! ### Fields of a sample word (08_acquisition.md Tables 8.5, 8.6) -/

def wOvr (w : Nat) : Bool := w.testBit 0
def wInv (w : Nat) : Bool := w.testBit 1
def wXf (w : Nat) : Bool := w.testBit 2
def wChk (w : Nat) : Bool := w.testBit 3
def wSel (w : Nat) : Nat := bits w 7 4
/-- CODE of a fast word. -/
def wCode (w : Nat) : Int := sgn 16 (bits w 31 16)
/-- CODE of a 24-bit word. -/
def wCode24 (w : Nat) : Int := sgn 24 (bits w 31 8)

/-- A word of Table 8.5. -/
def fastWord (code : Int) (count sel tags : Nat) : Nat := (code % 65536).toNat * 65536 + count % 256 * 256 + sel * 16 + tags

/-- A word of Table 8.6. -/
def auxWord (code : Int) (sel tags : Nat) : Nat := (code % 16777216).toNat * 256 + sel * 16 + tags

/-! ### Sets (Tables 9.1, 9.2; R219 to R222) -/

def FSet.mode (f : FSet) : Nat := u8 f.hdr 1
def FSet.sel (f : FSet) : Nat := u8 f.hdr 2 % 16
def FSet.minphase (f : FSet) : Bool := f.mode == 1 && u8 f.hdr 3 == 1
def FSet.taps (f : FSet) : Nat := u16 f.hdr 4
def FSet.decim (f : FSet) : Nat := u16 f.hdr 6
def FSet.stages (f : FSet) : Nat := u8 f.hdr 8
def FSet.hbTaps (f : FSet) : Nat := u8 f.hdr 9

/-- Coefficients in use of a header (R220, R221). -/
def coefCount (h : Bytes) : Nat :=
  match u8 h 1 with
  | 1 => if u8 h 3 = 1 then u16 h 4 else (u16 h 4 + 1) / 2
  | 2 => u8 h 8 * ((u8 h 9 + 1) / 4)
  | _ => 0

/-- N_eff and M_eff (R221, R222). -/
def FSet.nEff (f : FSet) : Nat := if f.mode = 2 then 1 + (f.hbTaps - 1) * (2 ^ f.stages - 1) else f.taps
def FSet.mEff (f : FSet) : Nat := if f.mode = 2 then 2 ^ f.stages else f.decim

/-- The taps of one half-band stage at 2^30 per unit (R221). -/
def hbStage (taps : Nat) (c : List Int) : List Int :=
  let m := (taps - 1) / 2
  (List.range taps).map fun n =>
    let d := if n < m then m - n else n - m
    if d = 0 then 2 ^ 29 else if d % 2 = 0 then 0 else c.getD (d / 2) 0

/-- Product of two tap lists. -/
def convolve (a b : List Int) : List Int :=
  (List.range (a.length + b.length - 1)).map fun n =>
    ((List.range (n + 1)).map fun k => a.getD k 0 * b.getD (n - k) 0).sum

/-- Taps spread to every `k`-th input word. -/
def spread (k : Nat) (a : List Int) : List Int := (List.range ((a.length - 1) * k + 1)).map fun n => if n % k = 0 then a.getD (n / k) 0 else 0

/-- The taps of the whole set over input words, and the scale they stand at (R219 to R221). -/
def FSet.full (f : FSet) : List Int × Rat :=
  if f.mode = 2 then
    let per := (f.hbTaps + 1) / 4
    ((List.range f.stages).foldl
      (fun a k => convolve a (spread (2 ^ k) (hbStage f.hbTaps ((f.coef.drop (k * per)).take per)))) [1], 2 ^ (30 * f.stages))
  else if f.minphase then (f.coef.take f.taps, 2 ^ 30)
  else ((List.range f.taps).map fun n => f.coef.getD (min n (f.taps - 1 - n)) 0, 2 ^ 30)

/-- The weighted sum of a history, newest first. -/
def FSet.apply (f : FSet) (hist : List Int) : Rat :=
  let h := f.full
  (((h.1.zip hist).map fun x => x.1 * x.2).sum : Int) / h.2

/-- Σ h[n] = 0 (R220). -/
def FSet.gdUndef (f : FSet) : Bool := f.mode == 1 && f.full.1.sum == 0

/-- GROUP_DELAY in 1/256 input word (R220, R221). -/
def FSet.groupDelay (f : FSet) : Nat :=
  if f.mode = 0 then 0
  else if f.gdUndef then 0xFFFFFFFF
  else if f.minphase then
    let h := f.full.1
    let num := ((List.range h.length).map fun (n : Nat) => (n : Int) * h.getD n 0).sum
    (rnd ((num : Rat) / h.sum * 256)).toNat
  else (f.nEff - 1) * 128

/-! ### Word rate and load (R228) -/

/-- Words per second that a chain can get of a select, under given converter configurations and pair modes. -/
def chainRate (cf : Nat → ConvCfg) (pm : Nat → Nat) (n sel : Nat) : Rat :=
  if 16 ≤ n then
    let c := cf n
    if c.timing = 0 then 0 else 10000000 / c.div / c.seqLen
  else
    let m := pm (n / 2)
    let c := cf (if m = 0 then n else 2 * (n / 2))
    let k := ((c.seq.take c.seqLen).filter fun e => e % 16 == sel).length
    if c.timing = 0 ∨ k = 0 then 0
    else if m = 1 ∨ m = 3 then (if n % 2 = 0 then 40000000 else 0)
    else 20000000 / (if c.timing = 2 then 1 else c.div : Nat) * k / c.seqLen

/-- Multiply-accumulates per second of a set at a word rate. -/
def FSet.load (f : FSet) (rate : Rat) : Rat :=
  match f.mode with
  | 1 => f.taps * rate / f.decim
  | 2 => ((List.range f.stages).map fun k => (((f.hbTaps + 1) / 4 + 1 : Nat) : Rat) * rate / 2 ^ (k + 1)).sum
  | _ => 0

/-- The load of a chain with its accepted change, the larger of the two sets where it does not fade, or as it runs, and with
a fade in progress. -/
def chainLoad (cf : Nat → ConvCfg) (pm : Nat → Nat) (pend : Bool) (s : State) (n : Nat) : Rat :=
  let x := fchain s n
  let one (f : FSet) : Rat := f.load (chainRate cf pm n f.sel)
  let act := (match x.act with | some f => one f | none => 0) + (match x.fade with | some (f, _) => one f | none => 0)
  match x.pend with
  | some (f, fade, _) => if pend then (if fade = 0 then max act (one f) else act + one f) else act
  | none => act

/-- Configurations as they stand. -/
def cfNow (s : State) (n : Nat) : ConvCfg := (conv s n).cfg
/-- Configurations with those accepted and not yet effective. -/
def cfNext (s : State) (n : Nat) : ConvCfg := match (conv s n).cfgPend with | some (c, _) => c | none => (conv s n).cfg
def pmNow (s : State) (p : Nat) : Nat := (pair s p).mode

/-- TOTAL_LOAD, multiply-accumulates per second. -/
def totalLoad (cf : Nat → ConvCfg) (pm : Nat → Nat) (pend : Bool) (s : State) : Rat :=
  ((List.range 20).map (chainLoad cf pm pend s)).sum

/-- The most that a chain can load while accepted changes become effective: at the word rate of the configuration in force
and of the accepted one. -/
def chainPeak (cf : Nat → ConvCfg) (pm : Nat → Nat) (s : State) (n : Nat) : Rat :=
  max (chainLoad cf pm true s n) (chainLoad (cfNow s) pm true s n)

/-- The budget of R228 (DEDUCED, notes/assumptions/45.md). -/
def overBudget (cf : Nat → ConvCfg) (pm : Nat → Nat) (s : State) : Bool :=
  decide (12800000000 < ((List.range 20).map (chainPeak cf pm s)).sum)

/-! ### Changes (R223 to R227) -/

/-- Empty the fast path (R223). -/
def FChain.emptyFast (x : FChain) : FChain := { x with fast := [], fastFresh := true }

/-- Clear the history and the counts; outputs owed INV follow (R225). -/
def FChain.clear (x : FChain) : FChain :=
  let f := x.act.getD { hdr := [], coef := [] }
  { x with hist := [], prev := 0, cnt := 0, fade := none, invLeft := if f.mode = 0 then 0 else (f.nEff + f.mEff - 1) / f.mEff }

/-- Both sets are FIR with the same SEL and DECIM (R226). -/
def fadeEligible (a b : FSet) : Bool := a.mode == 1 && b.mode == 1 && a.sel == b.sel && a.decim == b.decim

/-- The accepted change of a chain takes effect (R224 to R226). -/
def applyChange (n : Nat) (s : State) : State :=
  let x := fchain s n
  match x.pend with
  | none => s
  | some (f, fade, _) =>
    let y := { x with act := some f, pend := none }.emptyFast
    let z := match x.act with
      | some old => if fade ≠ 0 ∧ fadeEligible old f then { y with fade := some (old, fade, 0) } else y.clear
      | none => y.clear
    raise 0x1701 n (le 8 s.now) (setFchain n z s)

/-- Output FADE_N of a fade has not been formed yet (R226, R227). -/
def FChain.fading (x : FChain) : Bool := match x.fade with | some (_, m, k) => decide (k < m) | none => false

/-- A fade ends early: the new set applies without fade (R227). -/
def chainAbort (n : Nat) (s : State) : State :=
  match Tbl.find n s.filt with
  | none => s
  | some x => if x.fading then raise 0x1702 (det n 1) [] (setFchain n x.emptyFast.clear s) else s

/-- A change of the converter's select, gain or pair mode or a TBASE restart reaches a chain: a fade ends early, and the fast
path empties (R223, R227). -/
def chainDisturb (n : Nat) (s : State) : State :=
  let s1 := chainAbort n s
  match Tbl.find n s1.filt with
  | none => s1
  | some x => setFchain n x.emptyFast s1

/-- Every chain after TBASE restarts. -/
def disturbAll (s : State) : State := (List.range 20).foldl (fun a n => chainDisturb n a) s

end Sys2Proof.Machine
end

