-- ==== Sys2Proof/Machine/AcqOps.lean ====
section
/-! DEFINITION. What other families use of the converters: their configuration in force, triggers and words
(08_acquisition.md R192 to R207). -/

namespace Sys2Proof.Machine

open Sys2Proof

/-- The mode of a converter's pair; 0 for auxiliary converters (Table 8.10). -/
def pairMode (s : State) (n : Nat) : Nat := if n < 16 then (pair s (n / 2)).mode else 0

/-- The converter whose timing and sequence govern a converter (R200). -/
def govern (s : State) (n : Nat) : Nat := if pairMode s n = 0 then n else 2 * (n / 2)

/-- Select and gain code of a sequence entry. -/
def selOf (e : Nat) : Nat := e % 16
def gainOf (e : Nat) : Nat := bits e 6 4

/-- The entries in use. -/
def ConvCfg.used (c : ConvCfg) : List Nat := c.seq.take c.seqLen

/-- The gain in force on an entry: internal selects always use ×1 (R193). -/
def gainEff (e : Nat) : Nat := if 8 ≤ selOf e then 0 else gainOf e

/-- The gain that a configuration gives a select, where an entry in use names it. -/
def ConvCfg.gainFor (c : ConvCfg) (sel : Nat) : Option Nat := (c.used.find? fun e => selOf e == sel).map gainEff

/-- The next sequence position (R199). -/
def stepSeq (c : ConvCfg) (x : Conv) : Conv :=
  if x.dwellN + 1 < c.dwell then { x with dwellN := x.dwellN + 1 }
  else { x with dwellN := 0, pos := if x.pos + 1 < c.seqLen then x.pos + 1 else 0 }

/-- A new cause marks words INV: the longest count of the causes that overlap runs from it (R206). -/
def invPut (t : Tbl (Nat × Nat)) (k m : Nat) : Tbl (Nat × Nat) :=
  let w := max m ((Tbl.find k t).getD (0, 0)).2
  t.put k (w, w)

/-- Words that the new configuration marks INV (Table 8.7): per select on a fast converter, per entry on an auxiliary
one. A converter whose TIMING was OFF had no gain in force (DEDUCED, notes/assumptions/41.md). -/
def invAfter (n : Nat) (old new : ConvCfg) (restart : Bool) : Tbl Nat :=
  (List.range new.seqLen).foldl
    (fun t i =>
      let e := new.seq.getD i 0
      let before := if old.timing = 0 then none else if n < 16 then old.gainFor (selOf e)
        else if i < old.seqLen then some (gainEff (old.seq.getD i 0)) else none
      let gain := match before with | some g => g != gainEff e | none => false
      let k := if n < 16 then selOf e else i
      if gain then t.put k 5 else if restart then t.put k 3 else t) []

/-- The entries that two configurations have in common differ in select or gain in force (09_filters.md R223, R227). -/
def inputsChange (old new : ConvCfg) : Bool :=
  (old.used.zip new.used).any fun x => selOf x.1 != selOf x.2 || gainEff x.1 != gainEff x.2

/-- The sequence of a converter restarts at entry 0 under a configuration: words are marked INV, and LAST keeps the entries
that stay in use (R199, R206, R213). -/
def restartSeq (n : Nat) (old new : ConvCfg) (x : Conv) : Conv :=
  { x with pos := 0, dwellN := 0, last := x.last.filter fun e => decide (e.1 < new.seqLen),
           inv := (invAfter n old new true).foldl (fun t e => invPut t e.1 e.2)
             (if n < 16 then x.inv else x.inv.filter fun e => decide (e.1 < new.seqLen)) }

/-- Chains that a converter's configuration feeds. -/
def chainsOf (s : State) (n : Nat) : List Nat :=
  if pairMode s n = 0 then [n] else if n % 2 = 0 then [n, n + 1] else []

/-- Conversions that triggers have scheduled are made under the configuration they were triggered under (R195). -/
def oweTrig (x : Conv) : Conv :=
  x.trig.foldl
    (fun y t => { stepSeq x.cfg y with owed := y.owed ++ [(t, y.pos, x.cfg.seq.getD y.pos 0, x.cfg.sparse)] }) { x with trig := [] }

/-- A configuration takes effect (R195, R199): a fast converter restarts its sequence where SEQ_LEN, DWELL, an entry in
use or the timing mode changes; an auxiliary one always does. FA2p governs both converters of a pair that is not INDEPENDENT,
and FA2p+1 keeps its own unused (R200). A change of select or gain reaches the filter chains, and TIMING OFF ends their fades
(09_filters.md R223, R227). -/
def takeConv (n : Nat) (new : ConvCfg) (s : State) : State :=
  let x := conv s n
  let old := x.cfg
  let governed := decide (govern s n ≠ n)
  let restart := decide (16 ≤ n) || old.timing != new.timing || old.seqLen != new.seqLen || old.dwell != new.dwell ||
    old.used != new.used
  let y := { (if restart then oweTrig x else x) with cfg := new, cfgPend := none }
  let s1 := setConv n (if governed then (if restart then { y with pos := 0, dwellN := 0 } else y) else if restart then restartSeq n old new y else y) s
  if governed then s1
  else
    let s2 := if restart ∧ pairMode s n ≠ 0 then setConv (n + 1) (restartSeq n old new (conv s1 (n + 1))) s1 else s1
    if inputsChange old new then (chainsOf s n).foldl (fun a k => chainDisturb k a) s2
    else if old.timing ≠ 0 ∧ new.timing = 0 then (chainsOf s n).foldl (fun a k => chainAbort k a) s2
    else s2

/-- Configurations whose ACQ instant has come take effect (R195; DESIGN CHOICE, notes/assumptions/20.md). -/
def settleConv (s : State) : State :=
  s.conv.foldl
    (fun a e => match e.2.cfgPend with
      | some (c, some t) => if t ≤ a.now then takeConv e.1 c a else a
      | _ => a) s

/-- Bring the tick counter to the tick of an event: converter configurations whose instant has come are in effect. -/
def advance (t : Nat) (s : State) : State := settleConv (tickTo t s)

/-- The first ACQ instant at or after a tick (R196). -/
def acqAt (t : Nat) : Nat := (t + 79) / 80 * 80

/-- A conversion trigger of a leg compare at a tick (R197, R198). -/
def convTrigger (c tick : Nat) (s : State) : State :=
  let g := govern s c
  let x := conv s g
  if x.cfg.timing ≠ 2 then bump 0x1607 c 36 s
  else
    let at_ := acqAt (if x.cfg.sparse then tick + 640 else tick)
    let starting := x.cfg.sparse && (x.trig.any (fun t => decide (tick < t)) || x.owed.any fun o => o.2.2.2 && decide (tick < o.1))
    let same := x.trig.contains at_ || x.owed.any (fun o => o.1 == at_) || (x.code.1 == at_ && x.count != 0)
    if starting || same then bump 0x1607 c 32 s else setConv g { x with trig := (x.trig.filter fun t => decide (tick ≤ t)) ++ [at_] } s

/-- The first 3 words of a converter carry INV; where words still owed INV for a longer cause overlap, that count runs anew
(R198, R206). -/
def Conv.inv3 (x : Conv) : Conv := { x with invAll := 3, inv := x.inv.map fun e => (e.1, e.2.2, e.2.2) }

def inv3 (n : Nat) (s : State) : State := setConv n (conv s n).inv3 s

/-- LAST of a converter keeps the entries of the sequence that governs it (R200, R213). -/
def trimLast (n : Nat) (s : State) : State :=
  let len := (conv s (govern s n)).cfg.seqLen
  setConv n { conv s n with last := (conv s n).last.filter fun e => decide (e.1 < len) } s

/-- What a change of a pair's mode does to its converters and chains (R200, R206, R213; 09_filters.md R223). -/
def pairChanged (k : Nat) (s : State) : State :=
  chainDisturb (2 * k + 1) (chainDisturb (2 * k) (inv3 (2 * k + 1) (inv3 (2 * k) (trimLast (2 * k + 1) s))))

/-- After TBASE restarts the first 3 words of every converter carry INV (R198), and the filter chains start their fast
paths anew (09_filters.md R223, R227). -/
def tbaseInv (s : State) : State := disturbAll ((List.range 20).foldl (fun a n => inv3 n a) s)

end Sys2Proof.Machine
end

