-- ==== Sys2Proof/Machine/Train.lean ====
section
/-! DEFINITION. Lanes: their blocks on the line, the hops of a strand and the start of a training attempt (10_hanel_lanes.md R235 to
R246, 12_partners_sessions.md R286). -/

namespace Sys2Proof.Machine

open Sys2Proof

def lane (s : State) (n : Nat) : Lane := s.lane.ln.getD n {}

def setLane (n : Nat) (x : Lane) (s : State) : State := { s with lane := { s.lane with ln := s.lane.ln.put n x } }

def bond (s : State) (k : Nat) : Bond := s.lane.bond.getD k {}

def setBond (k : Nat) (x : Bond) (s : State) : State := { s with lane := { s.lane with bond := s.lane.bond.put k x } }

def partner (s : State) (id : Nat) : Partner := s.part.entry.getD id {}

def setPartner (id : Nat) (x : Partner) (s : State) : State := { s with part := { s.part with entry := s.part.entry.put id x } }

/-- A role that pairs its lanes as one bonded link (Table 10.1). -/
def bonded (role : Nat) : Bool := role == 4 || role == 5

/-- Roles that use electrical idle in place of sleep (Table 10.1). -/
def privileged (role : Nat) : Bool := role == 2 || role == 5

/-- A LINK_DROP holds this lane (Table 21.3). -/
def laneDropped (s : State) (n : Nat) : Bool := s.test.slot.any fun e => e.2.type == 1 && e.2.target == n && e.2.kind == 1

/-- A control block of a type with its byte 1 (Table 10.2). -/
def ctlBlock (type b1 : Nat) : Bytes := fit 8 (le 1 type ++ le 1 b1)

/-- 64 bits, LSB first, through the self-synchronising scrambler x^58 + x^39 + 1: each bit sent is the bit given, plus the
bits sent 39 and 58 bits before (10_hanel_lanes.md R236). The register's state after reset is not given: zero (DESIGN
CHOICE, notes/assumptions/151.md). -/
def scramble (reg : Nat) (b : Bytes) : Bytes × Nat :=
  let w := uLE 8 b 0
  let r := (List.range 64).foldl
    (fun (a : Nat × Nat) i =>
      let bit := b2n ((w.testBit i != a.2.testBit 38) != a.2.testBit 57)
      (a.1 + bit * 2 ^ i, (2 * a.2 + bit) % 2 ^ 58)) (0, reg)
  (le 8 r.1, r.2)

/-- The 128-UI exit burst of R246: 64 UI of 0b10 repeated and the word, without sync headers. -/
def exitBurst : List (Nat × Bytes) := [(0, List.replicate 8 0xAA), (0, le 8 0x3C3C3C3CC3C3C3C3)]

/-- An IDLE block (Table 10.2). -/
def idleBlock : Bytes := ctlBlock 0x1E 0

/-- What a pair with its polarity inverted carries of a sync header and 64 bits (Table 10.5): every bit the other way round. -/
def inverted (w : Nat × Bytes) : Nat × Bytes := (if w.1 = 0 then 0 else 3 - w.1, w.2.map fun b => ~~~b)

/-- A lane with bits put on its transmitted pair, which TX_POL inverts (Table 10.5). -/
def Lane.sent (x : Lane) (l : List (Nat × Bytes)) : Lane := { x with line := x.line ++ if x.txPol then l.map inverted else l }

/-- Put a block on a lane's line: a transmitter that is OFF, asleep, runs a PRBS pattern or holds common mode under a
LINK_DROP sends none, and one in electrical idle sends its exit burst first (10_hanel_lanes.md R235, R236, R245, R246;
21_test_diagnostics.md Table 21.3). -/
def laneOut (n hdr : Nat) (b : Bytes) (s : State) : State :=
  let x := lane s n
  if x.role = 0 ∨ x.txSleep ∨ x.prbsOn ∨ laneDropped s n then s
  else
    let c := scramble x.scr b
    let burst := if x.eidle then exitBurst else []
    let y : Lane := { x with scr := c.2, eidle := false, idleRun := if b = idleBlock then x.idleRun + 1 else 0 }
    bump64 0x2007 n 12 1 (setLane n (y.sent (burst ++ [(hdr, c.1)])) s)

/-- The other lane of a pair. -/
def otherLane (n : Nat) : Nat := if n % 2 = 0 then n + 1 else n - 1

/-- The strand that a strand number stands for: the lower one of a loop. -/
def strandOf (s : State) (n : Nat) : Nat := if (lane s n).role = 2 then 2 * (n / 2) else n

/-- Hops of a strand: up to the last listed one, and at least one; every other role has one (12_partners_sessions.md R285). -/
def hopCount (s : State) (n : Nat) : Nat :=
  let r := (lane s n).role
  if r = 1 ∨ r = 2 then
    ((s.part.entry.filter fun e => e.2.type != 0 && e.2.path == 0 && strandOf s e.2.strand == strandOf s n).map
      fun e => e.2.hop).foldl max 0 + 1
  else 1

/-- A role that takes both lanes of a pair (Table 10.1). -/
def pairRole (r : Nat) : Bool := r == 2 || r == 4 || r == 5

/-- The entry that a hop of a lane names: on a loop that of either strand number, on a bonded pair of peers that of the
lower lane, and on a twin link none (12_partners_sessions.md R285, R286). -/
def listedAt (s : State) (n hop : Nat) : Option Nat :=
  let at_ (k : Nat) : Bool :=
    match (lane s n).role with
    | 2 => k / 2 == n / 2
    | 4 => k == 2 * (n / 2)
    | 5 => false
    | _ => k == n
  (s.part.entry.find? fun e => e.2.type != 0 && e.2.path == 0 && e.2.hop == hop && at_ e.2.strand).map Prod.fst

/-- This lane is the upper head of a loop, which counts its hops from the far end. -/
def upperHead (s : State) (n : Nat) : Bool := (lane s n).role == 2 && n % 2 == 1

/-- Position of the i-th hop from a head. -/
def hopAt (s : State) (n i : Nat) : Nat := if upperHead s n then hopCount s n - 1 - i else i

/-- Hops that this head may still train: on a loop it meets the other head. -/
def hopsLeft (s : State) (n : Nat) : Bool :=
  let x := lane s n
  if x.role = 2 then decide (x.reach + (lane s (otherLane n)).reach < hopCount s n) else decide (x.reach < hopCount s n)

/-- The entry fits the role of its lane (12_partners_sessions.md R286). -/
def roleFits (role type n hop : Nat) : Bool :=
  if type = 1 then role == 1 || role == 2
  else if type = 2 ∨ type = 3 then hop == 0 && (role == 3 || (role == 4 && n % 2 == 0))
  else false

/-- The entries of a lane that its role does not serve and that no hop in training names: beyond hop 0 of a peer, on the
upper lane of a bonded pair, and on a twin link (12_partners_sessions.md R286). -/
def strayEntries (s : State) (n : Nat) : List Nat :=
  let r := (lane s n).role
  (s.part.entry.filter fun e => e.2.type != 0 && e.2.path == 0 && e.2.strand == n &&
    (r == 5 || (r == 4 && n % 2 == 1) || ((r == 3 || r == 4) && e.2.hop != 0))).map Prod.fst

/-- A TRAIN block with its CHK, the CRC-16 of bytes 0 to 5. -/
def trainBlock (msg ver hop id : Nat) : Bytes :=
  let b := le 1 0x33 ++ le 1 msg ++ le 1 ver ++ le 1 hop ++ le 2 id
  b ++ le 2 (crc16 b)

/-- A control block on one lane's own line, past the striping of a bonded pair. -/
def ownBlock (n : Nat) (b : Bytes) (s : State) : State := laneOut n 2 b s

/-- The version in use with the node at a hop, which every TRAIN block to it carries in VER: what the node in training has just
agreed to, or what it agreed to with the head that has trained it (R240). -/
def hopVer (s : State) (n hop : Nat) : Nat :=
  let x := lane s n
  match x.heard with
  | some (v, _) => if x.hop = hop then v else x.vers.getD hop 0x23
  | none => x.vers.getD hop ((lane s (otherLane n)).vers.getD hop 0x23)

/-- A lane can start an attempt: it has a role, and no injection or PRBS test holds it. Without its quad PLL the attempt finds
no lock in SIGNAL. -/
def canTrain (s : State) (n : Nat) : Bool :=
  let x := lane s n
  x.role != 0 && !x.training && !x.prbsOn && !laneDropped s n

/-- EV_PART_ABSENT with cause TRAIN of an entry that is not trained (R286). -/
def notTrained (id : Nat) (s : State) : State := raise 0x2203 id (le 1 1 ++ le 3 0) s

/-- Start an attempt on the next hop of a lane, once its wait is over (R238, R241). An entry that does not fit the role is not
trained (R286; DEDUCED, notes/assumptions/91.md). PORT_TRAIN goes to the node before that hop, in the version in use there. -/
def startAttempt (n : Nat) (s : State) : State :=
  let x := lane s n
  if ¬ canTrain s n ∨ ¬ hopsLeft s n then s
  else
    let hop := hopAt s n x.reach
    let wait := x.waitTo.getD hop 0
    let misfit := (listedAt s n hop).filter fun id => !(roleFits x.role (partner s id).type (2 * (n / 2)) hop)
    if s.now < wait then setLane n { x with hop := hop, retryAt := some wait } s
    else match misfit with
    | some id => notTrained id (setLane n { x with retryAt := none } s)
    | none =>
      let y := { x with training := true, retryAt := none, st := 1, hop := hop, attemptAt := s.now, stateAt := s.now,
                        pos := 0, good := 0, heard := none, marks := [], deskew := false }
      let s1 := (strayEntries s n).foldl (fun a id => notTrained id a) (setLane n y s)
      if x.reach = 0 then s1 else ownBlock n (trainBlock 3 (hopVer s n (hopAt s n (x.reach - 1))) hop 0) s1

end Sys2Proof.Machine
end

