-- ==== Sys2Proof/Machine/Inject.lean ====
section
/-! DEFINITION. Fault injection as traffic crosses the device's own lane, port or session boundary
(21_test_diagnostics.md R459 to R461). -/

namespace Sys2Proof.Machine

open Sys2Proof

/-- Invert one bit. Which payload bit CORRUPT touches the spec leaves open: `n` is a free value
(DESIGN CHOICE, notes/assumptions/2.md). -/
def flipBit (n : Nat) (p : Bytes) : Bytes :=
  if p.length = 0 then p
  else
    let k := n % p.length
    p.set k (p.getD k 0 ^^^ BitVec.ofNat 8 (2 ^ (n / p.length % 8)))

/-- After a LINK_DROP a lane with AUTO_TRAIN starts an attempt at once, without the wait of 10_hanel_lanes.md R241 (R461). -/
def retryNow (n : Nat) (s : State) : State :=
  let x := lane s n
  if x.autoTrain ∧ ¬ x.up then startAttempt n (setLane n { x with waitTo := Tbl.del (hopAt s n x.reach) x.waitTo } s) else s

/-- End an injection: its slot is free again and EV_TEST_INJECT carries the cause (R461). What it holds is still
sent when due. -/
def endInjection (slot cause : Nat) (s : State) : State :=
  match Tbl.find slot s.test.slot with
  | none => s
  | some i =>
    let t := { s.test with slot := Tbl.del slot s.test.slot, late := s.test.late ++ i.held.map fun h => (i.type, i.target, h) }
    let s1 := raise 0x3101 (det slot cause) [] { s with test := t }
    if i.type = 1 ∧ i.kind = 1 then retryNow i.target s1 else s1

/-- The injection has affected COUNT items and holds none of them any more (R461; Table 21.5). -/
def Inject.spent (i : Inject) : Bool := i.count != 0 && decide (i.count ≤ i.affected) && i.held.isEmpty

/-- What one injection lets through when an item crosses its boundary, with the injection afterwards. A LINK_DROP discards
every segment in DIR, whatever FILTER and EVERY_N (Table 21.3). -/
def injectOne (now draws dir : Nat) (i : Inject) (item : Item) : Inject × List Item :=
  if i.kind != 1 && i.filter != 0xFFFF && i.filter != item.cls then (i, [item])
  else
    let mine (h : Held) : Bool := h.dir == dir && i.kind == 4
    let held := i.held.map (fun h => if mine h then { h with more := h.more - 1 } else h)
    let out := (held.filter (fun h => mine h && h.more == 0)).map Held.item
    let i2 := { i with passed := i.passed + 1, held := held.filter (fun h => !(mine h && h.more == 0)) }
    let i3 := { i2 with affected := i2.affected + 1 }
    if i.kind != 1 && (i2.passed % i.everyN != 0 || (i.count != 0 && decide (i.count ≤ i.affected))) then (i2, item :: out)
    else
      match i.kind with
      | 2 => (i3, { item with bytes := flipBit (Config.freeNat draws) item.bytes, msg := none, twin := none } :: out)
      | 4 => ({ i3 with held := i3.held ++ [{ at_ := now + msT 1, dir := dir, item := item, more := i.depth }] }, out)
      | 5 => ({ i3 with held := i3.held ++ [{ at_ := now + usT i.delay, dir := dir, item := item, more := 0 }] }, out)
      | _ => (i3, out)

/-- An active injection acts on an item of this boundary and direction: bit 0 TX, bit 1 RX. LINK_DROP acts on
items of a session only; while a lane runs PRBS its injections affect nothing (R460). -/
def injectHits (s : State) (type target dir : Nat) (i : Inject) : Bool :=
  i.type == type && i.target == target && i.dir.testBit dir && !(i.kind == 1 && type != 3) &&
    !(type == 1 && (s.lane.ln.getD target {}).prbsOn)

/-- Put an injection back: AFFECTED has counted, and a spent injection ends (R461, R462). -/
def putInject (slot : Nat) (old new : Inject) (s : State) : State :=
  let s1 := { s with test := { s.test with slot := s.test.slot.put slot new } }
  let s2 := bumpN 0x3104 0 (16 + 16 * slot) (new.affected - old.affected) s1
  if new.spent then endInjection slot 3 s2 else s2

/-- Pass an item through every injection at a boundary: what leaves, and the state afterwards (R459, R460; DEDUCED,
notes/assumptions/124.md). -/
def inject (type target dir : Nat) (item : Item) (s : State) : List Item × State :=
  s.test.slot.foldl
    (fun (acc : List Item × State) (e : Nat × Inject) =>
      if injectHits s type target dir e.2 then
        acc.1.foldl
          (fun (b : List Item × State) (it : Item) =>
            match Tbl.find e.1 b.2.test.slot with
            | none => (b.1 ++ [it], b.2)
            | some i =>
              let r := injectOne b.2.now b.2.draws dir i it
              (b.1 ++ r.2, putInject e.1 i r.1 { b.2 with draws := b.2.draws + 1 }))
          ([], acc.2)
      else acc)
    ([item], s)

/-- End every injection on a target, with cause TARGET_GONE (R461). -/
def endInjectionsOn (type target : Nat) (s : State) : State :=
  (s.test.slot.filter fun e => e.2.type == type && e.2.target == target).foldl (fun a e => endInjection e.1 7 a) s

end Sys2Proof.Machine
end

