-- ==== Sys2Proof/Machine/NetOps.lean ====
section
/-! DEFINITION. Network time, the Ethernet ports and the lane queues: what every sender uses
(13_plant_network_time.md, 11_strands_cells.md R253, R254). -/

namespace Sys2Proof.Machine

open Sys2Proof

/-! ### Network time (13_plant_network_time.md R309, R313) -/

/-- Nanoseconds of a number of ticks (625 ps each). -/
def tickNs (t : Nat) : Rat := (t : Rat) * 5 / 8

def domain (s : State) (d : Nat) : Dom := s.time.dom.getD d {}

def setDomain (d : Nat) (x : Dom) (s : State) : State := { s with time := { s.time with dom := s.time.dom.put d x } }

/-- Nanoseconds from tick `r` to an instant in ticks, negative before it. -/
def sinceNs (r : Nat) (t : Rat) : Rat := (t - r) * 5 / 8

/-- The phase a domain has slewed by an instant since its reference tick, before which no slew is in progress: at most SLEW
ppm of the time passed (R309, R313). -/
def slewed (x : Dom) (t : Rat) : Rat :=
  let most := max 0 (sinceNs x.refTick t) * x.cfg.slew / 1000000
  if 0 ≤ x.slewLeft then min most x.slewLeft else max (-most) x.slewLeft

/-- T_d at an instant in ticks. -/
def domT (x : Dom) (t : Rat) : Rat := x.refNs + sinceNs x.refTick t * (1 + x.y) + slewed x t

/-- The same function of time, taken from a new reference tick. -/
def rebase (x : Dom) (t : Nat) : Dom :=
  { x with refTick := t, refNs := domT x t, slewLeft := x.slewLeft - slewed x t }

/-- The residual r at an instant: it moves toward zero at SLEW of the active domain (R313). -/
def residual (s : State) (t : Rat) : Rat :=
  let most := max 0 (sinceNs s.time.residAt t) * (domain s s.time.active).cfg.slew / 1000000
  if 0 ≤ s.time.resid then max 0 (s.time.resid - most) else min 0 (s.time.resid + most)

/-- Network time in ns at an instant in ticks (R313). -/
def ntAt (s : State) (t : Rat) : Rat := domT (domain s s.time.active) t - residual s t

/-- The instant at which a phase of `left` ns moved at SLEW from tick `r` on is done. -/
def slewEnd (slew r : Nat) (left : Rat) : Rat := r + |left| * 8000000 / 5 / max 1 slew

/-- The instant of a network time on the line through two instants, and so on along a list of instants between which NT is
linear. -/
def ntOn (s : State) (x p : Rat) : List Rat → Rat
  | [] => let q := p + 1; p + (x - ntAt s p) * (q - p) / (ntAt s q - ntAt s p)
  | q :: r => if x ≤ ntAt s q ∧ p < q then p + (x - ntAt s p) * (q - p) / (ntAt s q - ntAt s p) else ntOn s x q r

/-- Insert into a rising list. -/
def insertRat (x : Rat) : List Rat → List Rat
  | [] => [x]
  | y :: r => if x ≤ y then x :: y :: r else y :: insertRat x r

/-- The instant in ticks of a network time, through the inverse of NT at this moment (R313): NT is linear between the begins
and ends of the two slews. -/
def ntTick (s : State) (x : Rat) : Rat :=
  let d := domain s s.time.active
  let l : List Rat := [(d.refTick : Rat), (s.time.residAt : Rat), slewEnd d.cfg.slew d.refTick d.slewLeft,
    slewEnd d.cfg.slew s.time.residAt s.time.resid].foldr insertRat []
  ntOn s x (l.headD 0 - 1) l

/-- Network time as a whole number of ns, rounded (00_scope.md R7); the format has no negative times (Table 0.2). -/
def ntNs (s : State) : Nat := (rnd (ntAt s s.now)).toNat

/-- A network time in the 10-byte format: seconds, then nanoseconds (00_scope.md Table 0.2). -/
def ntBytes (ns : Nat) : Bytes := le 6 (ns / 1000000000) ++ le 4 (ns % 1000000000)

/-- The network time that a 10-byte field carries, in ns. -/
def ntField (p : Bytes) (o : Nat) : Nat := uLE 6 p o * 1000000000 + u32 p (o + 6)

/-- The nanoseconds of a network time field are in their range (00_scope.md R6). -/
def ntOk (p : Bytes) (o : Nat) : Bool := decide (u32 p (o + 6) < 1000000000)

/-- The active domain is LOCKED or in HOLDOVER (12_partners_sessions.md R295). -/
def timeUsable (s : State) : Bool :=
  let x := (domain s s.time.active).state
  x == 3 || x == 4

/-! ### Ports (13_plant_network_time.md R303 to R307) -/

def port (s : State) (n : Nat) : Port := s.net.port.getD n {}

def setPort (n : Nat) (x : Port) (s : State) : State := { s with net := { s.net with port := s.net.port.put n x } }

def prpPair (s : State) (k : Nat) : Prp := s.net.prp.getD k {}

def setPrp (k : Nat) (x : Prp) (s : State) : State := { s with net := { s.net with prp := s.net.prp.put k x } }

/-- A PRP pair operates when both ports have PRP set with identical MODE, MAC and IPV4 (R307). -/
def prpOper (s : State) (k : Nat) : Bool :=
  let a := port s (2 * k)
  let b := port s (2 * k + 1)
  a.prp && b.prp && a.mode == b.mode && a.mac == b.mac && a.ipv4 == b.ipv4

/-- One frame or message leaves on one port: it is counted and recorded (Table 13.8, TX_FRAMES). -/
def lineOut (n : Nat) (x : TxItem) (s : State) : State :=
  let p := port s n
  if p.mode = 0 ∨ ¬ p.link then s
  else bump64 0x2308 n 16 1 (setPort n { p with line := p.line ++ [x] } s)

/-- The EtherType of an untagged or tagged frame in bytes. -/
def etherType (f : Bytes) : Nat := if uBE 2 f 12 = 0x8100 then uBE 2 f 16 else uBE 2 f 12

/-- Where the payload of a frame begins. -/
def etherBody (f : Bytes) : Nat := if uBE 2 f 12 = 0x8100 then 18 else 14

/-- One byte of the CRC-32 of an Ethernet frame (IEEE 802.3, reflected). -/
def fcsByte (c : Nat) (x : Byte) : Nat :=
  Nat.iterate (fun d => if d.testBit 0 then (d >>> 1) ^^^ 0xEDB88320 else d >>> 1) 8 (c ^^^ x.toNat)

/-- A frame with its FCS. -/
def withFcs (f : Bytes) : Bytes := f ++ le 4 (f.foldl fcsByte 0xFFFFFFFF ^^^ 0xFFFFFFFF)

/-- An item leaves a port: what no injection has changed as it is, else with the FCS it has. -/
def itemOut (n : Nat) (x : Item) (s : State) : State :=
  match x.msg with
  | some m => lineOut n m s
  | none =>
    let f := x.bytes.take (x.bytes.length - 4)
    lineOut n (if withFcs f = x.bytes then .raw f else .spoilt x.bytes) s

/-- A frame in bytes leaves through the injections of its port (21_test_diagnostics.md R459); one longer than MAX_FRAME is
never sent (R304). -/
def frameOut (n : Nat) (f : Bytes) (s : State) : State :=
  if (port s n).maxFrame < f.length + 4 then s
  else
  let r := inject 2 n 0 { bytes := withFcs f, cls := etherType f } s
  r.1.foldl (fun a x => itemOut n x a) r.2

/-- The redundancy control trailer of a frame (IEC 62439-3): sequence, LAN and size, suffix 0x88FB. -/
def withTrailer (seq lan : Nat) (f : Bytes) : Bytes :=
  f ++ be 2 seq ++ be 2 ((if lan = 0 then 0xA000 else 0xB000) + (f.length - etherBody f + 6) % 4096) ++ be 2 0x88FB

/-- Send a frame on a port; on an operating PRP pair on both ports with the trailer (R307). -/
def sendFrame (n : Nat) (f : Bytes) (s : State) : State :=
  let k := n / 2
  if prpOper s k then
    let x := prpPair s k
    let s1 := setPrp k { x with nextSeq := (x.nextSeq + 1) % 65536 } s
    frameOut (2 * k + 1) (withTrailer x.nextSeq 1 f) (frameOut (2 * k) (withTrailer x.nextSeq 0 f) s1)
  else frameOut n f s

/-- The 802.1Q tag of a VLAN field, where its TAGGED bit is set (Table 13.1). -/
def vlanTag (v : Nat) : Bytes := if v.testBit 15 then be 2 0x8100 ++ be 2 (bits v 14 12 * 8192 + bits v 11 0) else []

/-- Internet checksum: one's complement of the one's complement sum of 16-bit words. -/
def inetSum (p : Bytes) : Nat :=
  let rec go : Bytes → Nat
    | [] => 0
    | [a] => a.toNat * 256
    | a :: b :: r => a.toNat * 256 + b.toNat + go r
  let x := go p
  let y := x % 65536 + x / 65536
  65535 - (y % 65536 + y / 65536)

/-- An IPv4 datagram carrying UDP, with both checksums computed (R305). -/
def udpPacket (srcIp dstIp srcPort dstPort : Nat) (p : Bytes) : Bytes :=
  let ulen := 8 + p.length
  let pseudo := be 4 srcIp ++ be 4 dstIp ++ be 2 17 ++ be 2 ulen
  let u0 := be 2 srcPort ++ be 2 dstPort ++ be 2 ulen
  let c := inetSum (pseudo ++ u0 ++ be 2 0 ++ p)
  let udp := u0 ++ be 2 (if c = 0 then 65535 else c) ++ p
  let h := be 2 0x4500 ++ be 2 (20 + udp.length) ++ be 2 0 ++ be 2 0x4000 ++ be 2 0x4011
  let ips := be 4 srcIp ++ be 4 dstIp
  h ++ be 2 (inetSum (h ++ be 2 0 ++ ips)) ++ ips ++ udp

/-- Pad a frame to the 60 bytes Ethernet requires without FCS (PRESUMED, notes/assumptions/80.md). -/
def padFrame (f : Bytes) : Bytes := if f.length < 60 then fit 60 f else f

/-- The EtherType of a message of a standard (R318, R321; IEEE 1588 annex E, IEC 62439-3). -/
def stdEtype : StdMsg → Nat
  | .ptp _ => 0x88F7
  | .goose _ => 0x88B8
  | .sv _ _ => 0x88BA
  | .prpSupervision _ => 0x88FB

/-- The frame of a message: addresses, tag, EtherType or UDP, the message's bytes, padding and trailer. -/
def stdFrame (h : MsgHead) (m : StdMsg) : Bytes :=
  let l2 := h.dst ++ h.src ++ vlanTag h.vlan
  let f := padFrame
    (match h.udp with
      | none => l2 ++ be 2 (stdEtype m) ++ Config.stdBody m
      | some (a, b, p) => l2 ++ be 2 0x0800 ++ udpPacket a b p p (Config.stdBody m))
  match h.trailer with
  | some (q, lan) => withTrailer q lan f
  | none => f

/-- A message leaves one port through its injections; what they change leaves as the frame's bytes (R304,
21_test_diagnostics.md R459). -/
def msgOut (n : Nat) (h : MsgHead) (m : StdMsg) (s : State) : State :=
  let f := stdFrame h m
  if (port s n).maxFrame < f.length + 4 then s
  else
    let r := inject 2 n 0 { bytes := withFcs f, cls := etherType f, msg := some (.std h m) } s
    r.1.foldl (fun a c => itemOut n c a) r.2

/-- A message leaves from a port's MAC; on an operating PRP pair from both ports with the trailer (R303, R307). -/
def msgSend (n : Nat) (h : MsgHead) (m : StdMsg) (s : State) : State :=
  let k := n / 2
  let g := { h with src := (port s n).mac }
  if prpOper s k then
    let x := prpPair s k
    let s1 := setPrp k { x with nextSeq := (x.nextSeq + 1) % 65536 } s
    msgOut (2 * k + 1) { g with trailer := some (x.nextSeq, 1) } m (msgOut (2 * k) { g with trailer := some (x.nextSeq, 0) } m s1)
  else msgOut n g m s

/-- Send a message of a standard on the ports of a mask, once for each operating PRP pair. -/
def sendMsg (ports : Nat) (h : MsgHead) (m : StdMsg) (s : State) : State :=
  (bitsOf 4 ports).foldl
    (fun a n => if prpOper a (n / 2) ∧ n % 2 = 1 ∧ ports.testBit (n - 1) then a else msgSend n h m a) s

/-- The shim of R306 before session segments (2) and bare packets (1). -/
def shim (content : Nat) (p : Bytes) : Bytes := le 1 content ++ le 1 1 ++ le 2 p.length ++ p

/-- The frame that carries a shimmed content to a partner (R306): layer 2, or UDP where its IPV4 is not 0. -/
def partnerFrame (p : Port) (q : Partner) (content : Nat) (x : Bytes) : Bytes :=
  let l2 := q.mac ++ p.mac ++ vlanTag q.vlan
  padFrame
    (if q.ipv4 = 0 then l2 ++ be 2 p.etype ++ shim content x
     else l2 ++ be 2 0x0800 ++ udpPacket p.ipv4 q.ipv4 p.udpPort q.udpPort (shim content x))

/-- A mask of ports holds a port, or the other port of its operating PRP pair, which is one interface with it (R307). -/
def onPorts (s : State) (mask n : Nat) : Bool := mask.testBit n || (prpOper s (n / 2) && mask.testBit (4 * (n / 2) + 1 - n))

/-- The link of a port, or of the other port of its operating PRP pair (R307). -/
def linkThere (s : State) (n : Nat) : Bool := (port s n).link || (prpOper s (n / 2) && (port s (4 * (n / 2) + 1 - n)).link)

/-- The port on which a partner's frames leave: the lowest of its PORTS whose link is up, and for one with an IPV4 whose
port has one, too (R303, R306, R307). -/
def partnerPort (s : State) (q : Partner) : Option Nat :=
  (bitsOf 4 q.ports).find? fun n => linkThere s n && (q.ipv4 == 0 || (port s n).ipv4 != 0)

/-! ### Lanes and frame queues (10_hanel_lanes.md, 11_strands_cells.md R253, R254) -/

def strand (s : State) (n : Nat) : Strand := s.strand.getD n {}

def setStrand (n : Nat) (x : Strand) (s : State) : State := { s with strand := s.strand.put n x }

def cell (s : State) (id : Nat) : Cell := s.cell.getD id {}

def setCell (id : Nat) (x : Cell) (s : State) : State := { s with cell := s.cell.put id x }

/-- Priority of a frame class, 1 the highest (Table 11.1). -/
def clsPriority (c : Nat) : Nat :=
  match c with
  | 1 => 1 | 8 => 1 | 2 => 2 | 3 => 3 | 4 => 4 | 5 => 4 | 6 => 5 | _ => 6

/-- The lane whose queue a frame for lane `n` joins: the lower lane of a bonded pair. -/
def queueLane (s : State) (n : Nat) : Nat := if bonded (lane s n).role then 2 * (n / 2) else n

/-- The lanes on which a lane's frames leave: itself, both lanes of a bonded pair, or the one that remains of it (R243, R244). -/
def txLanes (s : State) (n : Nat) : List Nat :=
  let k := n / 2
  if bonded (lane s n).role then
    match (bond s k).lost with
    | some l => [4 * k + 1 - l]
    | none => [2 * k, 2 * k + 1]
  else [n]

/-- Put a frame into a lane's queue. A frame for a sleeping transmitter waits for the wake and is counted there (R245). -/
def laneQueue (n : Nat) (f : LFrame) (s : State) : State :=
  let m := queueLane s n
  let x := lane s m
  let s1 := setLane m { x with queue := x.queue ++ [f] } s
  match (txLanes s n).find? fun j => (lane s j).txSleep with
  | some j => bump 0x2007 j 56 s1
  | none => s1

/-- Queue the frame that an item stands for, with its own priority (21_test_diagnostics.md R459). -/
def laneItem (n : Nat) (it : Item) (s : State) : State :=
  match it.frame with
  | some f => laneQueue n { f with bytes := it.bytes } s
  | none => s

/-- Queue a frame through the injections of its lane (21_test_diagnostics.md R459). -/
def laneSend (n : Nat) (f : LFrame) (s : State) : State :=
  let r := inject 1 n 0 { bytes := f.bytes, cls := f.cls, frame := some f } s
  r.1.foldl (fun a it => laneItem n it a) r.2

/-- A message of the twin link that is no frame of Table 11.1 leaves, where the link is UP. -/
def twinOut (m : TwinMsg) (s : State) : State :=
  if s.twin.linkUp then { s with twin := { s.twin with sent := s.twin.sent ++ [m] } } else s

/-- Send over the twin link, through the injections of lane HL14 (21_test_diagnostics.md R459; DEDUCED,
notes/assumptions/124.md). -/
def twinSend (m : TwinMsg) (s : State) : State :=
  if s.twin.enable && s.twin.linkUp then
    let r := inject 1 14 0 { bytes := [], cls := 0, twin := some m } s
    r.1.foldl (fun a it => match it.twin with | some x => twinOut x a | none => a) r.2
  else s

/-- The blocks of a frame with their sync headers, 0b10 for control and 0b01 for data (R253, 10_hanel_lanes.md R236, Table 10.2):
START, data blocks and TERM. -/
def frameBlocks (f : LFrame) : List (Nat × Bytes) :=
  let body := f.bytes.drop 6
  let n := body.length / 8 * 8
  let rec cut (k : Nat) (p : Bytes) : List (Nat × Bytes) :=
    match k with
    | 0 => []
    | j + 1 => (1, p.take 8) :: cut j (p.drop 8)
  let rest := body.drop n
  (2, le 1 0x78 ++ le 1 f.cls ++ fit 6 f.bytes) :: cut (n / 8) body ++
    [(2, le 1 0xE1 ++ le 1 rest.length ++ fit 6 rest)]

/-- Put a block on the line of a lane or, in turn, of the lanes of its bonded pair (10_hanel_lanes.md R243, R244). -/
def blockOut (n hdr : Nat) (b : Bytes) (s : State) : State :=
  let k := n / 2
  let x := bond s k
  let viaPair := bonded (lane s n).role
  let m := if !viaPair then n
    else match x.lost with
      | some l => if l = 2 * k then 2 * k + 1 else 2 * k
      | none => if x.odd then 2 * k + 1 else 2 * k
  laneOut m hdr b (if viaPair && x.lost.isNone then setBond k { x with odd := !x.odd } s else s)

end Sys2Proof.Machine
end

