-- ==== Sys2Proof/Machine/ClkOps.lean ====
section
/-! DEFINITION. Wellspring sources and the transitions of the timebase that keep TBASE running
(18_timing.md R403 to R413). -/

namespace Sys2Proof.Machine

open Sys2Proof

/-- The source is READY (R403). -/
def srcReady (s : State) (src : Nat) : Bool := (Tbl.find src s.clk.ready).isSome

/-- The codes of Table 18.3, NONE apart. -/
def srcKnown (src : Nat) : Bool :=
  src == 1 || src == 2 || (decide (0x10 ≤ src) && decide (src ≤ 0x13)) || (decide (0x20 ≤ src) && decide (src ≤ 0x2F))

/-- Path up (R403): a SYNCE source's port link is up, a LANE source's lane is UP. -/
def srcPath (s : State) (src : Nat) : Bool :=
  if src / 16 = 1 then (port s (src % 16)).link else if src / 16 = 2 then (lane s (src % 16)).up else true

/-- The first entry of the list, in list order, that is READY (R406, R407). -/
def firstReady (s : State) : Option Nat := s.clk.list.find? fun x => x != 0 && srcReady s x

/-- The control word at −300 ppm, the lowest of the loop's range, as an offset in 10^-12 (R409). -/
def coastWord : Int := -300000000

/-- A change of timebase state: the time in LOCKED is added up, and with its end the held word is the mean of the last 60 s
of it, a free value (R411; DESIGN CHOICE, notes/assumptions/2.md); HOLDOVER fixes the control word at the held word,
COAST_LOW at the lowest (R409). -/
def setTb (x : TbState) (s : State) : State :=
  let c := s.clk
  let held := if c.tb = .locked ∧ x ≠ .locked then sgn 32 (Config.freeNat s.draws % 2 ^ 32) else c.held
  { s with draws := s.draws + 1, clk := { c with
      held := held
      word := match x with | .holdover => held | .coastLow => coastWord | _ => c.word
      tb := x
      lockedTicks := if c.tb = .locked then c.lockedTicks + (s.now - c.lockTick) else c.lockedTicks
      lockTick := if x = .locked then s.now else c.lockTick
      holdSince := if x = .holdover then s.now else c.holdSince } }

/-- The source of an output other than TBASE is there (R416, R417). -/
def refSource (s : State) (src : Nat) : Bool := if src = 2 then s.clk.tb != .off && srcReady s s.clk.source else srcReady s src

/-- Outputs whose source is absent are held low (R417). -/
def refoutsHeld (s : State) : State :=
  let low (x : Refout) : Refout := if x.src = 0 ∨ x.src = 1 ∨ refSource s x.src then x else { x with level := false }
  { s with clk := { s.clk with refout := s.clk.refout.map fun e => (e.1, low e.2) } }

/-- Start acquisition on the first READY entry, while OFF (R405, R406). -/
def acquire (s : State) : State :=
  if s.clk.tb ≠ .off then s
  else
    match firstReady s with
    | none => s
    | some x => setTb .acquiring { s with clk := { s.clk with source := x, lockedTicks := 0 } }

/-- Acquisition is abandoned: OFF, and restarted where an entry is READY (Table 18.6). -/
def reacquire (s : State) : State := acquire (setTb .off { s with clk := { s.clk with source := 0 } })

/-- On leaving HOLDOVER, EV_TB_HOLDOVER with LEFT (R412, 17_opcodes.md Table 17.12). -/
def sayLeft (s : State) : State := if s.clk.tb = .holdover then raise 0x0302 (det s.clk.source 0) [] s else s

/-- Enter RECOVERING on a source (R408, R412). -/
def enterRecovering (src : Nat) (s : State) : State :=
  let c := s.clk
  let s1 := sayLeft s
  let coast := c.tb == .coastLow || (c.tb == .recovering && c.fromCoast)
  let s2 := setTb .recovering s1
  { s2 with clk := { s2.clk with source := src, fromCoast := coast, tripAt := none, recSince := s2.now } }

/-- A switch of wellspring (R408). -/
def switchTo (src : Nat) (s : State) : State :=
  let old := s.clk.source
  bump 0x0305 0 48 (raise 0x0305 (det src old) [] (enterRecovering src s))

/-- Lock is lost: HOLDOVER with HOLD_VALID, else COAST_LOW with its one event (R409, R413). -/
def holdOver (trip : Bool) (s : State) : State :=
  let src := s.clk.source
  let s1 := { s with clk := { s.clk with tripAt := if trip then some s.now else none, fromCoast := false } }
  if s.clk.holdValid then raise 0x0302 (det src 1) [] (setTb .holdover s1)
  else if trip then raiseClass 12 0x0303 (det src 1) [] (setTb .coastLow s1)
  else raiseClass 12 0x0304 (det src 0) [] (setTb .coastLow s1)

/-- The wellspring has left READY (R407, R409). -/
def wellspringLost (s : State) : State :=
  match (if s.clk.auto then firstReady s else none) with
  | some x => switchTo x s
  | none => if s.clk.tb = .locked ∨ s.clk.tb = .recovering then holdOver false s
            else { s with clk := { s.clk with tripAt := none } }

/-- A source leaves READY (R403): cause 1 ABSENT, 2 TOLERANCE, 3 PATH. -/
def sourceLost (src cause : Nat) (s : State) : State :=
  if ¬ srcReady s src then s
  else
    let s1 := { s with clk := { s.clk with ready := Tbl.del src s.clk.ready } }
    let s2 := raise 0x0306 (det src cause) [] (bump 0x0305 0 52 s1)
    refoutsHeld
      (if s2.clk.source ≠ src then s2
       else
         match s2.clk.tb with
         | .off => s2
         | .acquiring => reacquire s2
         | _ => wellspringLost s2)

/-- A source becomes READY (R403, R405, R407, R412). -/
def sourceGained (src : Nat) (s : State) : State :=
  let s1 := { s with clk := { s.clk with ready := s.clk.ready.put src s.now } }
  match s1.clk.tb with
  | .off => acquire s1
  | .holdover | .coastLow =>
    if s1.clk.source = src then enterRecovering src s1
    else if s1.clk.auto ∧ s1.clk.tripAt.isNone ∧ s1.clk.list.contains src then switchTo src s1
    else s1
  | _ => s1

/-- SYNCE and LANE sources whose port link or lane has gone leave READY with cause PATH (R403; DEDUCED,
notes/assumptions/118.md). -/
def pathLosses (s : State) : State :=
  s.clk.ready.keys.foldl (fun a src => if srcPath a src then a else sourceLost src 3 a) s

end Sys2Proof.Machine
end

