-- ==== Sys2Proof/Machine/Flags.lean ====
section
/-! DEFINITION. The status words that the host window shows and the interrupt causes that follow from their changes
(16_command_transport.md R383, Tables 16.9 to 16.13). -/

namespace Sys2Proof.Machine

open Sys2Proof

/-! ### The device's registers that are read whole -/

/-- HW_CLKSTAT (18_timing.md Table 18.10). -/
def hwClkstat (s : State) : Nat :=
  let c := s.clk
  let rdy (p : Nat → Bool) : Bool := c.ready.keys.any p
  s.lane.qpllLock * 2 ^ 28 + b2n c.netLock * 2 ^ 27 + c.oscSet * 2 ^ 24 + c.source * 2 ^ 16 +
    b2n (c.list.any fun x => x / 16 == 2 && rdy (· == x)) * 2 ^ 11 +
    b2n (c.list.any fun x => x / 16 == 1 && rdy (· == x)) * 2 ^ 10 +
    b2n (rdy (· == 2)) * 2 ^ 9 + b2n (rdy (· == 1)) * 2 ^ 8 +
    b2n (c.tb == .coastLow || (c.tb == .recovering && c.fromCoast)) * 2 ^ 7 + b2n c.xoSettling * 2 ^ 6 +
    b2n c.auto * 2 ^ 5 + b2n c.holdValid * 2 ^ 4 + c.tb.code

/-- HW_SAG (19_supplies_reset.md Table 19.2). -/
def hwSag (s : State) : Nat :=
  if s.pwr.inReset then 2 * 16
  else s.pwr.warnSeen * 2 ^ 16 + maskOf s.pwr.warn * 2 ^ 12 + s.pwr.policy * 2 ^ 8 + s.pwr.vcoreWarn * 2 ^ 4

/-- HW_BOOTSTAT (20_security.md Table 20.5). -/
def hwBootstat (s : State) : Nat :=
  s.pwr.cause * 2 ^ 28 + s.pwr.sagSupply * 2 ^ 26 + b2n (s.sec.debug != 0) * 2 ^ 25 +
    b2n s.mram.ownerHash.isSome * 2 ^ 24 + s.sec.slotB.vr * 2 ^ 20 + s.sec.slotA.vr * 2 ^ 16 +
    s.sec.running * 2 ^ 14 + b2n s.sec.tryRun * 2 ^ 13 + b2n s.sec.verifying.isSome * 2 ^ 12 + s.mram.rollback

/-- INT_N is asserted (R383). -/
def intN (s : State) : Bool := (s.win.intCause &&& s.win.intMask) != 0

/-- Bytes of QSPI pushes in flight, which the push buffer holds (R377, Table 16.13). -/
def rxUsed (s : State) : Nat := ((s.pkt.inFlight.filter fun f => f.org == 0).map Flight.bytes).sum

/-- RXQ.FREE. -/
def rxFree (s : State) : Nat := 32768 - rxUsed s

/-- RX_SPACE (Table 16.9). -/
def rxSpace (s : State) : Bool := decide (4100 ≤ rxFree s) && decide (s.pkt.inFlight.length < 512)

/-- TX_AVAIL: a packet waits to be pulled (Table 16.9). -/
def txAvail (s : State) : Bool := !(orig s 0).outq.isEmpty

/-- The causes of HW_INT_CAUSE that follow from a change of what the window shows (Table 16.12; 18_timing.md R420;
20_security.md R444). A change of OSC_SET sets no cause. -/
def causes (a b : State) : Nat :=
  b2n (!txAvail a && txAvail b) + b2n (!rxSpace a && rxSpace b) * 2 +
    b2n (hwClkstat { a with clk := { a.clk with oscSet := 0 } } != hwClkstat { b with clk := { b.clk with oscSet := 0 } }) * 64 +
    b2n (hwBootstat a != hwBootstat b) * 128 + b2n (a.sys.state != b.sys.state) * 256 +
    b2n (a.sys.state != .tripped && b.sys.state == .tripped) * 512

/-! ### Readiness of a standby (14_twin.md R334, R343) -/

/-- The standby is following: twin operation is enabled and the cap is not held here. -/
def standby (s : State) : Bool := s.twin.enable && !s.twin.holder

/-- A CURRENT_LIMIT_MODE hold in BS pauses the program (03_grid_events.md R85); in a standby it stands where its holder has
it (14_twin.md R340). -/
def bsPaused (s : State) : Bool := (s.grid.clHold && s.sys.mode == .bs) || standby s

/-- TIME_ALIGNED (R334): the holder's LQ3 has TBASE as its reference, the standby runs from the recovered clock of HL14, and the
measurement is valid; each device knows its own part and the twin's from its reports (DEDUCED, notes/assumptions/173.md). -/
def timeAligned (s : State) : Bool :=
  s.twin.enable &&
    s.twin.farAligned && if s.twin.holder then s.lane.quadTbase.testBit 3 else s.clk.source == 0x2E && s.twin.ofsValid

/-- MIRROR_OK: an update no more than MIRROR_MAX steps old. -/
def mirrorOk (s : State) : Bool := s.twin.mirror.isSome && decide (s.twin.mirrorAge ≤ s.twin.mirrorMax)

/-- READY (R343). -/
def readyNow (s : State) : Bool :=
  standby s && mirrorOk s && s.twin.cfgMatch && s.test.fail == 0 && timeAligned s && !s.twin.checkOn

/-- Recompute READY; every change raises EV_TWIN_READY (R343). -/
def updReady (s : State) : State :=
  let r := readyNow s
  if r = s.twin.ready then s else raise 0x2406 (b2n r) [] { s with twin := { s.twin with ready := r } }

/-- Set the interrupt causes that the change from `a` to `b` raises. -/
def withCauses (a b : State) : State := { b with win := { b.win with intCause := b.win.intCause ||| causes a b } }

end Sys2Proof.Machine
end

