-- ==== Sys2Proof/Machine/SessOps.lean ====
section
/-! DEFINITION. Arrival of packets (16_command_transport.md R366 to R377), sessions and what every command does at
its end: the outbound queues of partners are sent and the interrupt causes are set. -/

namespace Sys2Proof.Machine

open Sys2Proof

/-! ### Arriving packets (16_command_transport.md Table 16.3) -/

/-- Signed 32-bit difference of two sequence numbers (R371, 12_partners_sessions.md R288). -/
def sdiff (a b : Nat) : Int := sgn 32 ((a + 2 ^ 32 - b % 2 ^ 32) % 2 ^ 32)

/-- A counter and the LAST_ERR condition that only the QSPI host's packets raise (Tables 16.9, 16.10). -/
def hostError (org off : Nat) (s : State) : State :=
  if org = 0 then
    let s1 := bump 0 0 off s
    { s1 with win := { s1.win with lastErr := true, intCause := s1.win.intCause ||| 8 } }
  else s

/-- A gap or duplicate, counted whatever its originator (Table 16.5; DEDUCED, notes/assumptions/172.md); one of the QSPI host sets
cause SEQ (Table 16.12). -/
def hostSeq (org off : Nat) (s : State) : State :=
  let s1 := bump 0 0 off s
  if org = 0 then { s1 with win := { s1.win with intCause := s1.win.intCause ||| 4 } } else s1

/-- Answer a packet that is not executed; it has consumed no SEQ (R366, R371). -/
def refuseArrival (org opcode tag : Nat) (st : Status) (data : Bytes) (s : State) : State :=
  let k := replyPkt { org := org, opcode := opcode, tag := tag, seq := 0, ackReq := true, abortOnErr := false } true
    (le 2 st.code ++ le 2 0 ++ data)
  enqueueOwn org k s

/-- The packets of the replay store that answer a request of an originator (R371). -/
def storedReplies (s : State) (org seq : Nat) : List OutPkt :=
  (s.pkt.store.filter fun k => k.org == org && k.reqSeq == some seq).map Stored.pkt

/-- A replayed packet follows what has been queued for its originator, the replies that wait for space included, and waits for
space itself (R371, R376, R379). -/
def replay (org : Nat) (k : OutPkt) (s : State) : State :=
  let o := orig s org
  if o.waitq.isEmpty && fits o k.size then requeue org k s
  else setOrig org { o with waitq := o.waitq ++ [({ k with flags := k.flags ||| flagReplay }, none)] } s

/-- An opcode that Tables 17.1 to 17.5 give a code and that is not the device's own (17_opcodes.md R384, R385). -/
def servedCode (c : Nat) : Bool :=
  let last := match c / 256 with
    | 0x00 => 0x0D | 0x01 => 0x0C | 0x02 => 0x06 | 0x03 => 0x05 | 0x10 => 0x07 | 0x11 => 0x0F | 0x12 => 0x03 | 0x13 => 0x0A
    | 0x14 => 0x08 | 0x15 => 0x0C | 0x16 => 0x07 | 0x17 => 0x04 | 0x18 => 0x09 | 0x20 => 0x07 | 0x21 => 0x04 | 0x22 => 0x0A
    | 0x23 => 0x08 | 0x24 => 0x03 | 0x30 => 0x04 | 0x31 => 0x04 | _ => 0
  decide (1 ≤ c % 256) && decide (c % 256 ≤ last) && c != 4

/-- A request of no served opcode at its turn: ST_BAD_OPCODE, under the rules of batch aborts and chains (R366, R368, R369,
17_opcodes.md R385). -/
def refuseCode (f : Flight) (s : State) : State :=
  let w : Owed := { org := f.org, opcode := f.opcode, tag := f.tag, seq := f.seq, ackReq := f.ackReq, abortOnErr := f.abortOnErr }
  let o := orig s f.org
  if o.aborting = some f.tag then answer w .aborted 0 [] s
  else
    let s1 := setOrig f.org { o with aborting := none, chain := none } s
    answer w (if o.chain.isSome then .aborted else .badOpcode) 0 [] s1

/-- The requests of no served opcode at the head of an originator's packets in flight are answered (R378). -/
def refuseUnknown (fuel org : Nat) (s : State) : State :=
  match fuel with
  | 0 => s
  | n + 1 =>
    match s.pkt.inFlight.find? fun f => f.org == org with
    | some f => if servedCode f.opcode ∨ s.pwr.inReset ∨ f.begun ∨ ¬ (orig s org).waitq.isEmpty then s else refuseUnknown n org (refuseCode f s)
    | none => s

/-- Checks 1 to 6 on an arriving packet; one that passes enters flight (R366, R371, R377). -/
def arrive (org : Nat) (path : Option Nat) (b : Bytes) (s : State) : State :=
  let op := u16 b 2
  let tag := u16 b 8
  let seq := u32 b 4
  let flags := u8 b 1
  if b.length < 16 ∨ crc16 (b.take 14) ≠ u16 b 14 then hostError org 0x40 s
  else if u16 b 10 > 4080 ∨ b.length ≠ 20 + u16 b 10 then refuseArrival org op tag .badLength [] (hostError org 0x44 s)
  else if crc32c (b.take (b.length - 4)) ≠ u32 b (b.length - 4) then
    refuseArrival org op tag .check [] (hostError org 0x48 s)
  else
    let bad (st : Status) : State :=
      refuseArrival org op tag st []
        (if org = 0 then { s with win := { s.win with lastErr := true, intCause := s.win.intCause ||| 8 } } else s)
    if u8 b 0 / 16 ≠ 2 ∧ u8 b 0 / 16 ≠ 3 then bad .version
    else if bits flags 7 5 ≠ 0 ∨ bits (u16 b 12) 15 12 ≠ 0 ∨ (flags.testBit 1 ∧ flags.testBit 4) then bad .badParam
    else if flags.testBit 1 then (if org = 0 then bump 0 0 0x54 s else s)
    else
      let o := orig s org
      let exempt := op == 1 || op == 2
      let enter (s : State) : State :=
        let o1 := orig s org
        let s1 := setOrig org { o1 with path := path } s
        if flags.testBit 4 then s1
        else
          let f : Flight := { org := org, seq := seq, opcode := op, tag := tag, bytes := b.length, ackReq := flags.testBit 0,
                              abortOnErr := flags.testBit 3, path := path, since := s.now }
          { s1 with pkt := { s1.pkt with inFlight := s1.pkt.inFlight ++ [f] } }
      let accept : State := enter (setOrig org { o with expected := some ((seq + 1) % 2 ^ 32), gapSaid := false } s)
      if exempt then enter s
      else
        match o.expected with
        | none => accept
        | some e =>
          let d := sdiff seq e
          if d = 0 then accept
          else if flags.testBit 4 then hostSeq org (if 0 < d then 0x4C else 0x50) s
          else if 0 < d then
            let s1 := hostSeq org 0x4C s
            if o.gapSaid then s1
            else refuseArrival org op tag .seqGap (le 4 e) (setOrig org { orig s1 org with gapSaid := true } s1)
          else
            let s1 := hostSeq org 0x50 s
            let rs := storedReplies s1 org seq
            let s2 := refuseArrival org op tag .seqDup
              (le 4 ((rs.head?.map OutPkt.seq).getD 0) ++ le 1 (b2n !rs.isEmpty) ++ le 3 0) s1
            rs.foldl (fun a k => replay org k a) s2

/-! ### Partner states (12_partners_sessions.md R283, R284) -/

/-- Bring a partner into UP, with its event (R284). -/
def partnerUp (id : Nat) (s : State) : State :=
  let p := partner s id
  if p.state = 2 then s
  else raise 0x2201 id [] (setPartner id { p with state := 2, upTick := s.now, reached := true } s)

/-- Bring a partner into ABSENT with its cause: 1 TRAIN, 2 SESSION, 3 VERSION (R284). -/
def partnerAbsent (id cause : Nat) (s : State) : State :=
  let q := partner s id
  -- VERSION of an entry whose FAULT is not a cell's (Table 12.1)
  let p := if cause = 3 ∧ q.type ≠ 1 then { q with fault := q.fault ||| 2 } else q
  if q.state = 0 then s
  else if q.state = 4 then setPartner id p s
  else
    raise 0x2203 id (le 1 cause ++ le 3 0) (bump 0x2203 id 52 (setPartner id { p with state := 4, reached := false } s))

/-- A valid frame from a partner that needs no session: STALE, LISTED and ABSENT end (Table 12.2; DEDUCED,
notes/assumptions/88.md). -/
def heardFrom (id : Nat) (s : State) : State :=
  let p := partner s id
  if p.state = 0 then s
  else
    let s1 := setPartner id { p with lastSeen := s.now } s
    if p.state = 3 ∨ p.session = 0xFFFF then partnerUp id s1 else s1

/-! ### Sessions: sending (R287 to R289, R291) -/

def sess (s : State) (c : Nat) : Sess := s.part.sess.getD c {}

def setSess (c : Nat) (x : Sess) (s : State) : State := { s with part := { s.part with sess := s.part.sess.put c x } }

/-- A request of a group command that runs rides on the transaction reserved for its member (R294, R295); what is sent after its
end is a transaction of its own. -/
def reserved (s : State) (p : Bytes) : Bool :=
  !(u8 p 1).testBit 4 && (u16 p 2 == 0x2207 || u16 p 2 == 0x2208 || u16 p 2 == 0x2209) &&
    s.pkt.sent.any fun x => x.2.1 == u16 p 2 && x.2.2.1 == u16 p 8 && s.part.group.any fun (g : Group) => g.txn == x.2.2.2

/-- Fabric transactions in flight (R294). -/
def txns (s : State) : Nat :=
  (s.part.sess.map fun e => (e.2.unacked.filter fun u => !reserved s u.packet).length).sum + (s.cell.filter fun e => e.2.setPend.isSome).length +
    (s.part.group.map fun g => g.members.length).sum

/-- Work waits for a transaction: counted, and the first wait after a step without one raises EV_PART_TXN_FULL (R294). -/
def waitTxn (who : Nat) (s : State) : State :=
  if s.part.waiting.contains who then s
  else
    let s1 := bump 0x220A 0 60 { s with part := { s.part with waiting := s.part.waiting ++ [who] } }
    if s1.part.waitedNow then s1
    else
      let s2 := { s1 with part := { s1.part with waitedNow := true } }
      if s2.part.waitedLast then s2 else raise 0x2208 0 [] s2

/-- SACK of a context: bit k for segment RCV_NEXT + 1 + k received (Table 12.3). -/
def sack (x : Sess) : Nat := maskOf ((List.range 64).filter fun k => (Tbl.find ((x.rcvNext + 1 + k) % 2 ^ 32) x.stored).isSome)

/-- The later of two sequences in the signed order (R288). -/
def seqMax (a b : Nat) : Nat := if sdiff a b < 0 then b else a

/-- Buffers that a session has granted or filled beyond the 4 of its own (R289). -/
def lentTo (x : Sess) : Nat := (sdiff x.limit x.rcvNext).toNat - 4

/-- The shared buffers that the other sessions leave of the 2,048 (R289). -/
def buffersFree (s : State) (c : Nat) : Nat := 2048 - ((s.part.sess.filter fun e => e.1 != c).map fun e => lentTo e.2).sum

/-- The shared buffers that a session is lent: its part of the 2,048 in proportion to the recent traffic of the open
sessions (R289). How much of what a session has received counts as recent is a free value (DESIGN CHOICE,
notes/assumptions/89.md). -/
def shareOf (s : State) (c : Nat) : Nat :=
  let recent (e : Nat × Sess) : Nat := min e.2.traffic (Config.recent s.draws e.1 e.2.traffic)
  let all := ((s.part.sess.filter fun e => e.2.state == 2 || e.2.state == 3).map recent).sum
  2048 * recent (c, sess s c) / all

/-- The weir credit edge: RCV_NEXT and the buffers held free, at most 64, never moved backward (R289): the 4 of its own and
its share of those that the other sessions leave. -/
def creditEdge (share pool : Nat) (x : Sess) : Nat :=
  let c := min 64 (4 + min share pool - x.stored.length)
  seqMax ((x.rcvNext + c) % 2 ^ 32) x.limit

/-- The bytes of a session segment (Table 12.3). -/
def segment (dst kind flags seq : Nat) (x : Sess) (limit : Nat) (p : Bytes) : Bytes :=
  let b := le 2 dst ++ le 2 0 ++ le 1 kind ++ le 1 flags ++ le 2 p.length ++ le 4 seq ++ le 4 x.rcvNext ++
    le 8 (sack x) ++ le 4 limit ++ le 4 x.ownInc ++ p
  b ++ le 4 (crc32c b)

/-- A Hanel entry is served where it stands: at hop 0 of a PEER lane or of the lower lane of a PEER_BOND pair, and a cell on
a strand (R286). -/
def hanelServed (s : State) (q : Partner) : Bool := q.path == 0 && roleFits (lane s q.strand).role q.type q.strand q.hop

/-- Send the bytes of a segment on the path of a partner (R287): a Hanel frame where its lane serves it (R286), or behind
the shim of R306. -/
def segmentOut (id : Nat) (b : Bytes) (s : State) : State :=
  let q := partner s id
  if q.path = 0 then (if hanelServed s q then laneSend q.strand { cls := 7, bytes := b } s else s)
  else
    match partnerPort s q with
    | some n => sendFrame n (partnerFrame (port s n) q 2 b) s
    | none => s

/-- Send a segment of a context: it carries the present ACK, SACK and LIMIT (R288, R289). -/
def sendSegment (c kind flags seq : Nat) (p : Bytes) (s : State) : State :=
  let x := sess s c
  let lim := creditEdge (shareOf s c) (buffersFree s c) x
  let s1 := setSess c { x with limit := lim, lastSent := s.now, ackDue := none } { s with draws := s.draws + 1 }
  let b := segment x.partner kind flags seq x lim p
  let r := inject 3 c 0 { bytes := b, cls := kind } s1
  r.1.foldl (fun a y => segmentOut x.partner y.bytes a) r.2

/-- The sender may send SEQ = SND_NEXT (R288). -/
def maySend (x : Sess) : Bool :=
  decide (sdiff x.sndNext x.sndUna < 64) && decide (sdiff x.sndNext x.peerLimit < 0)

/-- Send the DATA segments of a context that its window, credits and the transactions admit (R288, R294). -/
def sessPump (fuel c : Nat) (s : State) : State :=
  match fuel with
  | 0 => s
  | n + 1 =>
    let x := sess s c
    match x.sendq with
    | [] => s
    | (p, commit) :: r =>
      if (x.state = 2 ∨ x.state = 3) ∧ maySend x then
        if reserved s p ∨ (txns s < 1024 ∧ s.part.waiting.isEmpty) then
          let u : Unacked := { seq := x.sndNext, packet := p, times := 1, sentAt := s.now,
                               dueAt := s.now + usT (if x.rttKnown then x.rto else 1000), commit := commit }
          let s1 := setSess c { x with sendq := r, unacked := x.unacked ++ [u], sndNext := (x.sndNext + 1) % 2 ^ 32 } s
          let s2 := sendSegment c 0 0 x.sndNext p s1
          let q := partner s2 x.partner
          sessPump n c (bump64 0x220A c 32 1 (setPartner x.partner { q with seqTx := x.sndNext } s2))
        else waitTxn c s
      else s

/-- The lowest free context (R290). -/
def freeContext (s : State) : Option Nat := (List.range 256).find? fun c => (sess s c).state == 0

/-- Offsets of the packets of one record among packets in bytes (15_pond.md R362): OP_POND_DATA, REC_NO, OFFSET. -/
def streamOffsets (n : Nat) (l : List Bytes) : List Nat := (l.filter fun p => u16 p 2 == 0x180A && u64 p 16 == n).map fun p => u32 p 24

/-- Packets of streamed records that a session's partner has still to acknowledge: sent, or waiting in the session or the
queue. -/
def streamLeft (x : Sess) (o : Orig) : List Bytes := x.unacked.map Unacked.packet ++ x.sendq.map Prod.fst ++ o.outq.map OutPkt.bytes

/-- What a closing session has not acknowledged of the records streamed in it is sent again in the next one, from the first such
packet on (15_pond.md R362; DEDUCED, notes/assumptions/155.md). -/
def restream (x : Sess) (s : State) : State :=
  let o := orig s x.partner
  let left := streamLeft x o
  let again (r : PRec) : PRec :=
    let l := streamOffsets r.recNo left
    if r.streaming && r.dest == x.partner && !l.isEmpty then { r with sentTo := l.foldl min r.sentTo } else r
  let s1 := { s with pond := { s.pond with held := s.pond.held.map again } }
  if s.pond.held.any fun r => r.streaming && r.dest == x.partner then
    setOrig x.partner { o with outq := o.outq.filter fun k => k.opcode != 0x180A } s1
  else s1

/-- Free a context and report its closure (R293): cause 1 RETRY, 2 RESTART, 3 CLOSE, 4 RESET, 5 CONFIG, 6 PATH. -/
def sessClose (c cause : Nat) (s : State) : State :=
  let x := sess s c
  let q := partner s x.partner
  let fail := cause == 1 || cause == 4 || cause == 6
  let q1 := { q with session := 0xFFFF, fault := if cause = 1 then q.fault ||| 1 else q.fault,
                     autoAt := if q.autoSession && fail then some (s.now + msT (min 1000 (2 ^ (q.autoStep + 1)))) else none,
                     autoStep := if fail then q.autoStep + 1 else 0 }
  let s1 := setPartner x.partner q1 { s with part := { s.part with sess := Tbl.del c s.part.sess } }
  let s2 := restream x (endInjectionsOn 3 c s1)
  let s3 := if cause = 2 ∨ cause = 4 then
      (if (Tbl.find x.partner s2.pkt.orig).isSome then
        setOrig x.partner { orig s2 x.partner with expected := none, gapSaid := false } s2 else s2)
    else s2
  let s4 := raise 0x2206 x.partner (le 1 cause ++ le 3 0) s3
  if fail then partnerAbsent x.partner 2 s4
  else if cause = 3 ∨ cause = 5 then setPartner x.partner { partner s4 x.partner with state := 1 } s4
  else s4

/-- The closing end sends CLOSE once what its session and its queue still had to send has been sent; where the partner's
CLOSE has been received it is the answer to it, and the session closes (R292, R293). -/
def closePump (c : Nat) (s : State) : State :=
  let x := sess s c
  if x.state = 3 ∧ x.sendq.isEmpty ∧ (orig s x.partner).outq.isEmpty ∧ ¬ x.closeSent then
    let s1 := sendSegment c 4 0 x.sndNext [] (setSess c { x with closeSent := true, tries := 1, nextTry := s.now + usT x.rto } s)
    if x.peerClose then sessClose c 3 s1 else s1
  else s

/-- Start opening a session with a partner on a context: OPEN with SEQ = INC = the low 32 bits of the tick (R290). -/
def sessOpen (c id retryMax rtoMin rtoMax : Nat) (s : State) : State :=
  let inc := s.now % 2 ^ 32
  let x : Sess := { partner := id, state := 1, retryMax := retryMax, rtoMin := rtoMin, rtoMax := rtoMax, ownInc := inc,
                    sndUna := inc, sndNext := inc, peerLimit := inc, tries := 1, nextTry := s.now + msT 1 }
  let s1 := setSess c x s
  let q := partner s1 id
  sendSegment c 2 0 inc [] (setPartner id { q with session := c, autoAt := none } s1)

/-- A context whose own OPEN is acknowledged and whose partner's sequence is known is open (R290). -/
def sessCheckOpen (c : Nat) (s : State) : State :=
  let x := sess s c
  if x.state = 1 ∧ x.ownAcked ∧ x.peerInc.isSome then
    let s1 := setSess c { x with state := 2, tries := 0, lastSent := s.now } s
    let q := partner s1 x.partner
    let s2 := setPartner x.partner { q with session := c, autoStep := 0, fault := q.fault / 2 * 2 } s1
    sessPump 64 c (partnerUp x.partner (raise 0x2205 x.partner (le 2 c ++ le 2 0) s2))
  else s

/-! ### Sessions: receiving (R287 to R293) -/

/-- A lane serves as the path of a Hanel session partner: PEER, or the lower lane of PEER_BOND (R286). -/
def hanelPartner (s : State) (n : Nat) : Option Nat :=
  let l := queueLane s n
  (s.part.entry.find? fun e => (e.2.type == 2 || e.2.type == 3) && e.2.strand == l && hanelServed s e.2).map Prod.fst

/-- The Ethernet partner that a frame comes from: by port and MAC, and for UDP by IPv4 address and UDP port as well (R287).
A PRP pair is one interface (R307). Of several entries with the MAC of a layer-2 frame, one without IP goes first (DESIGN
CHOICE, notes/assumptions/195.md). -/
def etherPartner (s : State) (n : Nat) (mac : Bytes) (ip udp : Nat) : Option Nat :=
  let l := s.part.entry.filter fun e => e.2.type != 0 && e.2.path == 1 && onPorts s e.2.ports n && e.2.mac == mac
  let exact := (l.find? fun e => e.2.ipv4 == ip && e.2.udpPort == udp).map Prod.fst
  if ip = 0 then (exact.or ((l.find? fun e => e.2.ipv4 == 0).map Prod.fst)).or (l.head?.map Prod.fst) else exact

/-- The partner a segment is attributed to by its path. -/
def segPartner (s : State) : SegPath → Option Nat
  | .lane n => hanelPartner s n
  | .port n mac ip udp => etherPartner s n mac ip udp

/-- Smoothed round trip after a sample in microseconds, gains 1/8 and 1/4, and the RTO it gives (R291). -/
def rttSample (r : Rat) (x : Sess) : Sess :=
  let srtt := if x.rttKnown then x.srtt + (r - x.srtt) / 8 else r
  let var := if x.rttKnown then x.rttvar + (|r - x.srtt| - x.rttvar) / 4 else r / 2
  { x with srtt := srtt, rttvar := var, rttKnown := true,
           rto := (rnd (clampQ x.rtoMin x.rtoMax (srtt + 4 * var))).toNat }

/-- A member's commit segment has been acknowledged before t_x: it is COMMITTED (R297). -/
def markCommitted (id txn : Nat) (s : State) : State :=
  let f (g : Group) : Group :=
    if g.txn = txn ∧ ¬ g.abandoned then
      match g.members.findIdx? (· == id) with
      | some k => if g.committed.contains k then g else { g with committed := g.committed ++ [k] }
      | none => g
    else g
  { s with part := { s.part with group := s.part.group.map f } }

/-- Resend one DATA segment (R291). -/
def resend (c : Nat) (u : Unacked) (s : State) : State :=
  let x := sess s c
  let us := x.unacked.map fun v => if v.seq = u.seq then { v with times := v.times + 1, dueAt := s.now + usT x.rto } else v
  bump 0x2203 x.partner 56 (sendSegment c 0 0 u.seq u.packet (setSess c { x with unacked := us } s))

/-- The holes that an ACK shows below its highest SACK bit, by first sequence and length: bit k stands for ACK + 1 + k (R291). -/
def holes (ack sackF : Nat) : List (Nat × Nat) :=
  let got (i : Nat) : Bool := decide (0 < i) && sackF.testBit (i - 1)
  let r := (List.range 65).foldl
    (fun (a : List (Nat × Nat) × Nat) i =>
      if got i then (if 0 < a.2 then (a.1 ++ [((ack + i - a.2) % 2 ^ 32, a.2)], 0) else a) else (a.1, a.2 + 1)) ([], 0)
  r.1

/-- Take the ACK, SACK and LIMIT fields of a segment (R288, R289, R291). -/
def takeAck (c ack sackF limit : Nat) (s : State) : State :=
  let x := sess s c
  let moves := decide (0 ≤ sdiff ack x.sndUna) && decide (sdiff ack x.sndNext ≤ 0)
  let gone := x.unacked.filter fun u => moves && decide (sdiff u.seq ack < 0)
  let stay := x.unacked.filter fun u => !(moves && decide (sdiff u.seq ack < 0))
  let x1 := gone.foldl (fun a u => if u.times = 1 then rttSample ((s.now - u.sentAt : Nat) / 1600) a else a) x
  let x2 := { x1 with unacked := stay, sndUna := if moves then ack else x.sndUna, peerLimit := seqMax limit x.peerLimit }
  let now := holes ack sackF
  let again := now.filter fun h => x.lastHoles.contains h && !x.holesSent.contains h
  let s1 := setSess c { x2 with lastHoles := now, holesSent := (x.holesSent.filter fun h => now.contains h) ++ again } s
  let s2 := gone.foldl (fun a u => match u.commit with | some t => markCommitted x.partner t a | none => a) s1
  let missed (u : Unacked) : Bool := again.any fun h => decide (0 ≤ sdiff u.seq h.1) && decide (sdiff u.seq h.1 < h.2)
  let s3 := (stay.filter missed).foldl (fun a u => resend c u a) s2
  closePump c (sessPump 64 c s3)

/-- Deliver the in-order segments of a context, while packets in flight leave a place (R288, R377); they are acknowledged within
20 µs (R291). -/
def deliver (fuel c : Nat) (s : State) : State :=
  match fuel with
  | 0 => s
  | n + 1 =>
    let x := sess s c
    match Tbl.find x.rcvNext x.stored with
    | none => s
    | some p =>
      if s.pkt.inFlight.length < 512 then
        let due := some (x.ackDue.getD (s.now + usT 20))
        let s1 := setSess c { x with rcvNext := (x.rcvNext + 1) % 2 ^ 32, stored := Tbl.del x.rcvNext x.stored, ackDue := due } s
        let q := partner s1 x.partner
        let s2 := setPartner x.partner { q with seqRx := x.rcvNext } s1
        deliver n c (arrive x.partner (some c) p (bump64 0x220A c 40 1 s2))
      else s

/-- A DATA segment (R288, R291). -/
def takeData (c seq : Nat) (p : Bytes) (s : State) : State :=
  let x := sess s c
  let d := sdiff seq x.rcvNext
  if d < 0 then sendSegment c 1 0 x.sndNext [] (bump 0x220A c 48 s)
  else if d < 64 ∧ sdiff seq x.limit < 0 then
    let s1 := deliver 64 c (setSess c { x with stored := x.stored.put seq p, traffic := x.traffic + 1 } s)
    let y := sess s1 c
    if y.stored.isEmpty then s1 else sendSegment c 1 0 y.sndNext [] s1
  else bump 0x220A c 52 s

/-- A discarded segment is counted in BAD_SEG of the partner's context, or of context 0 where it has none. -/
def badSegment (id : Option Nat) (s : State) : State :=
  let c := match id with | some i => (partner s i).session | none => 0xFFFF
  bump 0x220A (if c = 0xFFFF then 0 else c) 56 s

/-- An OPEN of a partner with no context, or one that restarts: the device takes a context, answers and opens its own
direction (R290, R293). -/
def passiveOpen (id inc seq : Nat) (s : State) : State :=
  match freeContext s with
  | none => s
  | some c =>
    let s1 := sessOpen c id 8 50 100000 s
    let x := sess s1 c
    sendSegment c 3 0 x.ownInc [] (setSess c { x with peerInc := some inc, rcvNext := seq, limit := seq } s1)

/-- Handle one session segment (R287 to R293; DEDUCED, notes/assumptions/154.md). -/
def segmentIn (path : SegPath) (b : Bytes) (s : State) : State :=
  let who := segPartner s path
  let len := u16 b 6
  let kind := u8 b 4
  if b.length < 36 ∨ b.length ≠ 36 + len ∨ crc32c (b.take (b.length - 4)) ≠ u32 b (b.length - 4) ∨
      u16 b 0 % 4096 = 0xFFF ∨ (kind = 0 ∧ (len = 0 ∨ 4100 < len)) ∨ (0 < kind ∧ kind ≤ 5 ∧ 0 < len) then badSegment who s
  else if 5 < kind then s
  else
    match who with
    | none => badSegment none s
    | some id =>
      let s0 := setPartner id { partner s id with lastSeen := s.now } s
      let c := (partner s0 id).session
      -- a session that has outlived the loss of its path is reached again, and so is a partner without a session (R283, Table 12.2)
      let st := (partner s0 id).state
      let s1 := if st = 3 ∨ (st = 4 ∧ (sess s0 c).state = 2) ∨ (c = 0xFFFF ∧ st ≠ 0 ∧ (partner s0 id).type ≠ 1) then partnerUp id s0 else s0
      let seq := u32 b 8
      let ack := u32 b 12
      let limit := u32 b 24
      let inc := u32 b 28
      if (partner s1 id).type = 1 then badSegment none s1
      else if c = 0xFFFF then
        if kind = 2 then passiveOpen id inc seq s1
        else if kind = 5 then s1
        else
          -- CLOSE is answered with CLOSE, and what belongs to no session with RESET
          let x : Sess := { partner := id, ownInc := ack, rcvNext := seq }
          segmentOut id (segment id (if kind = 4 then 4 else 5) 0 ack x seq []) s1
      else
        let x := sess s1 c
        let known := x.peerInc.isSome
        if kind = 5 then sessClose c 4 s1
        else if kind = 2 ∧ known ∧ x.peerInc ≠ some inc then passiveOpen id inc seq (sessClose c 2 s1)
        else if kind = 2 ∨ kind = 3 then
          if known ∧ x.peerInc ≠ some inc then sessClose c 4 (sendSegment c 5 0 x.sndNext [] s1)
          else
            let x1 := { x with peerInc := some inc, rcvNext := if known then x.rcvNext else seq,
                               limit := if known then x.limit else seq, ownAcked := x.ownAcked || ack == x.ownInc,
                               -- an edge counts only from an end that knows the sequence it bounds
                               peerLimit := if ack = x.ownInc ∨ x.ownAcked then seqMax limit x.peerLimit else x.peerLimit }
            let s2 := setSess c x1 s1
            let s3 := if kind = 2 ∧ x.state ≠ 3 then sendSegment c 3 0 x.ownInc [] s2 else s2
            sessCheckOpen c s3
        else if ¬ known ∨ x.peerInc ≠ some inc then sessClose c 4 (sendSegment c 5 0 x.sndNext [] s1)
        else
          let s2 := if x.state = 1 ∧ ack = x.ownInc then sessCheckOpen c (setSess c { x with ownAcked := true } s1) else s1
          let s3 := takeAck c ack (u64 b 16) limit s2
          if kind = 0 then takeData c seq ((b.drop 32).take len) s3
          else if kind = 4 then
            let y := sess s3 c
            if y.closeSent then sessClose c 3 s3
            else
              closePump c (setSess c { y with state := 3, peerClose := true, closeBy := if y.state = 3 then y.closeBy else s3.now + msT 100 } s3)
          else if (u8 b 5).testBit 0 then sendSegment c 1 0 (sess s3 c).sndNext [] s3
          else s3

/-! ### The end of every command -/

/-- Send one queued packet to a partner: in its open session, or as a bare packet behind the shim; a reply goes the way its
latest accepted packet came (R380). A packet enters its session when the segment window, the credits and the packets before
it let it go; until then it waits in the queue of 65,536 bytes, as it does for a path that is not there (R379;
12_partners_sessions.md R288, R289). A closing session still sends what was queued before its CLOSE (12_partners_sessions.md
R292). Answers whether it has been sent. -/
def sendPacket (id : Nat) (k : OutPkt) (s : State) : Option State :=
  let q := partner s id
  let o := orig s id
  let x := sess s q.session
  let isOpen := q.session != 0xFFFF && (x.state == 2 || (x.state == 3 && !x.closeSent))
  let viaSession := isOpen && !(k.flags.testBit 4 && o.path.isNone)
  if viaSession then
    let commit := if k.opcode = 0x2208 ∧ ¬ k.flags.testBit 4 then some (u16 k.payload 0) else none
    if x.sendq.isEmpty ∧ maySend x then
      some (sessPump 64 q.session (setSess q.session { x with sendq := [(k.bytes, commit)] } s))
    else none
  else if q.path = 1 ∧ (q.type = 3 ∨ q.type = 4 ∨ q.type = 5) then
    match partnerPort s q with
    | some n => some (sendFrame n (partnerFrame (port s n) q 1 k.bytes) s)
    | none => none
  else none

/-- Send what an originator other than the QSPI host has queued, as far as its path is there. -/
def pumpOne (fuel id : Nat) (s : State) : State :=
  match fuel with
  | 0 => s
  | n + 1 =>
    let o := orig s id
    match o.outq with
    | [] => s
    | k :: r =>
      match sendPacket id k s with
      | none => s
      | some s1 => pumpOne n id (admitWaiting 8 id (setOrig id { orig s1 id with outq := r } s1))

/-- Send what every partner's queue holds, as far as it goes. -/
def pumpAll (s : State) : State := s.pkt.orig.foldl (fun a e => if e.1 = 0 then a else pumpOne 512 e.1 a) s

/-- Send the outbound queues of all partners, once the session buffers have been emptied into the places that packets in flight
leave and the requests of no served opcode have been answered; a closing session that has sent all then closes
(16_command_transport.md R366, R377; R292). -/
def pump (s : State) : State :=
  let s1 := s.part.sess.foldl (fun a e => deliver 64 e.1 a) s
  let s2 := s1.pkt.orig.foldl (fun a e => refuseUnknown 512 e.1 a) s1
  let s3 := pumpAll s2
  s3.part.sess.foldl (fun a e => closePump e.1 a) s3

end Sys2Proof.Machine
end

