-- ==== Sys2Proof/Machine/LegOps.lean ====
section
/-! DEFINITION. Gates, mitten and the interlock of the legs, and the choppers' balls: what the control path, the
reactions and the state transitions use (06_legs_pwm.md R152 to R165, 07_gauntlet.md R171, R186). -/

namespace Sys2Proof.Machine

open Sys2Proof

def leg (s : State) (n : Nat) : Leg := s.leg.getD n {}

def setLeg (n : Nat) (x : Leg) (s : State) : State := { s with leg := s.leg.put n x }

def chan (s : State) (n : Nat) : Chan := s.chan.getD n {}

def setChan (n : Nat) (x : Chan) (s : State) : State := { s with chan := s.chan.put n x }

def arm (s : State) (n : Nat) : Arm := s.arm.getD n {}

def setArm (n : Nat) (x : Arm) (s : State) : State := { s with arm := s.arm.put n x }

def chop (s : State) (n : Nat) : Chop := s.gnt.chop.getD n {}

def setChop (n : Nat) (x : Chop) (s : State) : State := { s with gnt := { s.gnt with chop := s.gnt.chop.put n x } }

def finput (s : State) (n : Nat) : FInput := s.gnt.input.getD n {}

def setFinput (n : Nat) (x : FInput) (s : State) : State := { s with gnt := { s.gnt with input := s.gnt.input.put n x } }

/-! ### Bits of a leg's CTRL (Table 6.2) -/

def LegCfg.enAtRun (c : LegCfg) : Bool := c.ctrl.testBit 0
def LegCfg.sine (c : LegCfg) : Bool := c.ctrl.testBit 1
def LegCfg.indep (c : LegCfg) : Bool := c.ctrl.testBit 2
def LegCfg.tri (c : LegCfg) : Bool := c.ctrl.testBit 3
def LegCfg.adapt (c : LegCfg) : Bool := c.ctrl.testBit 4
def LegCfg.update (c : LegCfg) : Nat := bits c.ctrl 6 5
def LegCfg.mitLate (c : LegCfg) : Bool := c.ctrl.testBit 7
def LegCfg.refreshEn (c : LegCfg) : Bool := c.ctrl.testBit 8
def LegCfg.nodePol (c : LegCfg) : Bool := c.ctrl.testBit 9
def LegCfg.sineSrc (c : LegCfg) : Nat := bits c.ctrl 10 10

/-- The legs a channel's configuration binds (04_brim_engine.md R94, R95). -/
def ChanCfg.legs (c : ChanCfg) : List Nat :=
  match c.outType with
  | 1 => [c.legA]
  | 2 => [c.legA, c.legB]
  | 3 => [c.legA, c.legB]
  | 4 => [c.legA, c.legB, c.legC]
  | _ => []

/-- A three-level level map. -/
def ChanCfg.isMap (c : ChanCfg) : Bool := decide (2 ≤ c.outType) && decide (c.outType ≤ 4)

/-- The channel that a leg is bound to (R95, R142). -/
def chanOfLeg (s : State) (n : Nat) : Option Nat := (s.chan.find? fun e => e.2.cfg.legs.contains n).map Prod.fst

/-- The leg is in Brim mode (R142). -/
def brimMode (s : State) (n : Nat) : Bool := (chanOfLeg s n).isSome

/-- The leg generates the two independent intervals of R146. -/
def independent (s : State) (n : Nat) : Bool := (leg s n).cfg.indep && !brimMode s n

/-! ### What Pond sees of the balls (15_pond.md Table 15.2) -/

/-- GATES of a group of 16 legs. -/
def gateBits (s : State) (g : Nat) : Nat :=
  maskOf ((List.range 16).flatMap fun j =>
    let l := leg s (16 * g + j)
    (if l.gh then [2 * j] else []) ++ (if l.gl then [2 * j + 1] else []))

/-- Note the gates of a leg from an instant on: what stands in the log after it takes the two bits as well (15_pond.md R350). -/
def noteGates (n inst : Nat) (h l : Bool) (s : State) : State :=
  let k := 256 * 6 + n / 16
  let m := 4 ^ (n % 16)
  let put (v : Nat) : Nat := v - v / m % 4 * m + (b2n h + 2 * b2n l) * m
  let old := s.pond.log.getD k []
  let base := match old.find? fun e => decide (e.1 ≤ inst) with | some e => e.2 | none => gateBits s (n / 16)
  let s1 := pondNote 6 (n / 16) inst (put base) s
  if s1.pond.log = s.pond.log then s
  else
    let new := ((old.filter fun e => decide (inst < e.1)).map fun e => (e.1, put e.2)) ++
      (inst, put base) :: old.filter fun e => decide (e.1 ≤ inst)
    { s1 with pond := { s1.pond with log := s1.pond.log.put k (pruneLog s.now new) } }

/-- What EXTEST drives on a ball by its cell of the boundary-scan register: 2n and 2n + 1 LEGn_GH and LEGn_GL, 96 and 97
CHOP0 and CHOP1, 98 CAP_OUT, 99 FAULT_OUT_N, 100 RESET_OUT_N, 101 and 102 TRIG_OUT, 103 PPS_OUT, 104 INT_N, 105 XTRIG, 106
to 137 PIO, 138 to 141 REFOUT (20_security.md R451; DEDUCED, notes/assumptions/115.md). -/
def extestCell (s : State) (i : Nat) (l : Bool) : Bool :=
  match s.balls.extest with
  | some v => v.getD i false
  | none => l

/-- PINS of a group as they stand, with CAP_IN and CAP_OUT as they will at a tick from now on (Table 15.2). -/
def pinBits (s : State) (sel at_ : Nat) : Nat :=
  let fi (n : Nat) : Bool := (finput s n).asserted
  if sel = 0 then maskOf ((List.range 32).filter fi)
  else
    maskOf (((List.range 18).filter fun i => fi (32 + i)) ++
      (if s.gnt.mitLow.isSome then [18] else []) ++ (if extestCell s 96 (chop s 0).on then [19] else []) ++
      (if extestCell s 97 (chop s 1).on then [20] else []) ++ (if !extestCell s 99 (!s.gnt.faultOut) then [21] else []) ++
      (if at_ < s.twin.inTo then [22] else []) ++ (if extestCell s 98 (decide (at_ < s.twin.pulseTo)) then [23] else []))

/-- Note the PINS as they stand, and as they will when a pulse on CAP_IN or CAP_OUT ends (15_pond.md R350). -/
def notePins (s : State) : State :=
  let ends := if s.twin.inTo ≤ s.twin.pulseTo then [s.twin.inTo, s.twin.pulseTo] else [s.twin.pulseTo, s.twin.inTo]
  let past (l : List (Nat × Nat)) : List (Nat × Nat) := l.filter fun e => decide (e.1 ≤ s.now)
  let k := 256 * 7 + 1
  let s1 := { s with pond := { s.pond with log := s.pond.log.map fun e => if e.1 = k then (e.1, past e.2) else e } }
  let s2 := pondNote 7 1 s.now (pinBits s 1 s.now) (pondNote 7 0 s.now (pinBits s 0 s.now) s1)
  (ends.filter fun e => decide (s.now < e)).foldl (fun a e => pondNote 7 1 e (pinBits s 1 e) a) s2

/-! ### Balls, blanking and interlock -/

/-- The width in ticks of a blanking timer (07_gauntlet.md R170). -/
def blankWidth (s : State) (sel : Nat) : Nat := s.gnt.bt.getD sel 1600

/-- A gate or chopper ball changes: the blanking window of its fault input opens or restarts; an assertion that has outlived
its window keeps that window's end (07_gauntlet.md R171). -/
def openBlank (input sel tick : Nat) (s : State) : State :=
  let x := finput s input
  let past := x.asserted && !x.recognised && x.inWindow && decide (x.blankTo ≤ tick)
  setFinput input { x with blankTo := tick + blankWidth s sel,
                           outlived := if past && x.outlived.isNone then some x.blankTo else x.outlived } s

/-- Drive the gate balls of a leg at a fine tick; they are never asserted together (R158). -/
def setBalls (n fine : Nat) (h l : Bool) (s : State) : State :=
  let x := leg s n
  let h1 := h && !(h && l)
  let l1 := l && !(h && l)
  if h1 = x.gh ∧ l1 = x.gl then s
  else
    let y := { x with gh := h1, gl := l1, hOff := if x.gh && !h1 then fine else x.hOff,
                      lOff := if x.gl && !l1 then fine else x.lOff,
                      offSince := if l1 then none else if x.gl then some (fine / 8) else x.offSince }
    let s1 := openBlank n x.cfg.blankSel (fine / 8) (setLeg n y s)
    noteGates n ((fine + 7) / 8) h1 l1 s1

/-- Count an overlap request (R158). -/
def overlap (n : Nat) (s : State) : State :=
  let x := leg s n
  let w := usT x.cfg.ovlWin
  let ts := (x.ovl.filter fun t => decide (s.now < t + 2 * w)) ++ [s.now]
  let isOver := decide (x.cfg.ovlLimit < (ts.filter fun t => decide (s.now < t + w)).length)
  let s1 := raiseStep 0x1402 n n [] (bump 0x1408 n 36 (setLeg n { x with ovl := ts, ovlOn := x.ovlOn || isOver } s))
  if isOver ∧ ¬ x.ovlOn then raiseClass 9 0x1403 n [] s1 else s1

/-- What the generator requests of the two gates goes through the interlock (R158; DEDUCED, notes/assumptions/58.md). -/
def request (n fine : Nat) (h l : Bool) (s : State) : State :=
  let x := leg s n
  let was := x.reqH && x.reqL
  let s0 := setLeg n { x with reqH := h, reqL := l } s
  if h && l then
    let s1 := setBalls n fine false false (setLeg n { leg s0 n with blankTo := none } s0)
    if was then s1 else overlap n s1
  else if was then setBalls n fine false false (setLeg n { leg s0 n with blankTo := some (fine + 8 * x.cfg.dtMax) } s0)
  else if x.blankTo.isSome then setBalls n fine false false s0
  else setBalls n fine h l s0

/-- The watched commutation of an edge, rising or falling (R153). -/
def Leg.commut (x : Leg) (rise : Bool) : Option Commut := if rise then x.commutR else x.commutF

def Leg.setCommut (x : Leg) (rise : Bool) (c : Option Commut) : Leg :=
  if rise then { x with commutR := c } else { x with commutF := c }

/-- dt_e after a commutation, clamped to DT_MIN and DT_MAX; its watch is over (R153). -/
def setDt (n : Nat) (rise : Bool) (dt : Int) (miss : Nat) (s : State) : State :=
  let x := leg s n
  let d := (clampI x.cfg.dtMin x.cfg.dtMax dt).toNat
  setLeg n (if rise then { x with dtR := d, missR := miss, commutR := none } else { x with dtF := d, missF := miss, commutF := none }) s

/-- A commutation without a node transition; the sixteenth in a row on an edge sets its dead time to DT_MAX (R153, R167). -/
def nodeMiss (n : Nat) (rise : Bool) (s : State) : State :=
  let x := leg s n
  let miss := (if rise then x.missR else x.missF) + 1
  let dt : Nat := if miss = 16 then x.cfg.dtMax else if rise then x.dtR else x.dtF
  let s1 := setDt n rise dt miss (bump 0x1408 n 44 s)
  if miss = 16 then raiseFirst 0x1404 n n [] s1 else s1

/-- A commutation of an edge begins. One of the same edge whose watch is still open has had no transition; one of the other
edge whose gate was never asserted is called off (DEDUCED, notes/assumptions/146.md). -/
def beginCommut (n fine : Nat) (rise : Bool) (s : State) : State :=
  let x := leg s n
  let open_ := match x.commut rise with | some c => c.onAt.isSome && x.cfg.adapt | none => false
  let s1 := if open_ then nodeMiss n rise s else s
  let y := leg s1 n
  let other := (y.commut (!rise)).filter fun c => c.onAt.isSome
  setLeg n ((y.setCommut (!rise) other).setCommut rise (some { tOff := fine })) s1

/-- A change of the commanded output of a complementary leg: the outgoing gate goes off, the incoming one follows
after the effective dead time (R152). -/
def setOut (n fine : Nat) (high : Bool) (s : State) : State :=
  if (leg s n).mitten ∨ (leg s n).out = high then s
  else
    let s1 := beginCommut n fine high s
    let x := leg s1 n
    let dt := if high then x.dtR else x.dtF
    request n fine false false
      (setLeg n { x with out := high, outAt := some (fine / 8), assertAt := some (high, fine + 8 * dt) } s1)

/-! ### Mitten (R163) -/

/-- Bring the gates of a leg in mitten to its pattern, as far as DT_MAX allows at a fine tick. -/
def applyPattern (n fine : Nat) (s : State) : State :=
  let x := leg s n
  let h := x.cfg.mitten.testBit 1
  let l := x.cfg.mitten.testBit 0
  let s1 := request n fine (x.gh && h) (x.gl && l) s
  let y := leg s1 n
  let want := (h && !y.gh) || (l && !y.gl)
  if ¬ want then setLeg n { y with wait := none } s1
  else
    let off := if h then y.lOff else y.hOff
    let due := off + 8 * y.cfg.dtMax
    if due ≤ fine then request n fine h l (setLeg n { y with wait := none } s1)
    else setLeg n { y with wait := some (x.cfg.mitten % 4, due) } s1

/-- The leg stops following its mode at a tick: the entry instant (R163). -/
def enterMitten (n tick : Nat) (s : State) : State :=
  let x := leg s n
  if x.mitten then s
  else
    let y := { x with mitten := true, leaving := none, carry := 0, out := false, outAt := none, assertAt := none, commutR := none,
                      commutF := none, refreshTo := none, refreshDue := false, hi := none, lo := none, overTo := none }
    let sel := bits x.cfg.mitten 3 2
    let chosen := if sel = 0 then 3 else sel
    let held := (b2n x.gl + 2 * b2n x.gh) &&& chosen
    if x.cfg.mitLate ∧ 0 < x.cfg.mitDelay ∧ held ≠ 0 then
      request n (8 * tick) (held.testBit 1) (held.testBit 0)
        (setLeg n { y with hold := some (held, tick + x.cfg.mitDelay) } s)
    else applyPattern n (8 * tick) (setLeg n y s)

/-- What is pending on a channel whose output stops being live is discarded; the notional output of NONE is never stopped
(04_brim_engine.md R94, R103). The state that legs resume from after mitten is a new one, which no earlier change bounds (R105;
06_legs_pwm.md R161). -/
def Chan.dropped (x : Chan) : Chan :=
  if x.cfg.outType = 0 then x
  else { x with pend := none, release := none, taken := false, lastAt := if x.cfg.legs.isEmpty then x.lastAt else none }

/-- A channel's output stops being live (04_brim_engine.md R103). -/
def dropPending (ch : Nat) (s : State) : State := setChan ch (chan s ch).dropped s

/-- Every channel with legs of its own has lost its output (04_brim_engine.md R103). -/
def dropLegPending (s : State) : State :=
  { s with chan := s.chan.map fun e => (e.1, if e.2.cfg.legs.isEmpty then e.2 else e.2.dropped) }

/-- Disable one leg and put it into mitten, with the cause of Table 6.9. -/
def disableOne (n cause tick : Nat) (s : State) : State :=
  raise 0x1406 (det n cause) [] (enterMitten n tick (setLeg n { leg s n with enabled := false, leaving := none } s))

/-- A leg is disabled; one that was not enabled is so without an event, unless `said`. A reaction is noted on either, since
it overrules an enable at the same tick (R161). -/
def disableIf (n cause tick : Nat) (said : Bool) (s : State) : State :=
  let s1 := if cause = 2 then setLeg n { leg s n with reactAt := some s.now } s else s
  if (leg s1 n).enabled ∨ said then disableOne n cause tick s1 else enterMitten n tick s1

/-- What the disabling of legs does at their channel: the level map's other legs follow at the same instant, with cause MAP,
and what is pending is discarded (04_brim_engine.md R103, R110). -/
def disableMap (ls : List Nat) (tick : Nat) (s : State) (c : Nat) : State :=
  let cfg := (chan s c).cfg
  let others := if cfg.isMap then cfg.legs.filter fun k => !ls.contains k else []
  dropPending c (others.foldl (fun a k => disableIf k 3 tick false a) s)

/-- Disable legs for one cause; a level map is disabled as a whole (R160, 04_brim_engine.md R110). `said` raises the event of
a leg that was disabled before. -/
def disableLegs (ls : List Nat) (cause tick : Nat) (said : Bool) (s : State) : State :=
  (ls.filterMap (chanOfLeg s)).dedup.foldl (disableMap ls tick) (ls.foldl (fun a n => disableIf n cause tick said a) s)

/-- EXTEST no longer drives the balls: the legs, all of them in mitten, show their patterns again (R163). -/
def endExtest (s : State) : State :=
  if s.balls.extest.isNone then s
  else
    (List.range 48).foldl (fun a n => applyPattern n (8 * a.now) a) { s with balls := { s.balls with extest := none } }

/-- Disable every leg, with one cause (R162, R165). -/
def disableAll (cause : Nat) (s : State) : State :=
  (List.range 48).foldl
    (fun a n => if (leg a n).enabled then disableOne n cause a.now a else enterMitten n a.now a) s

/-! ### Choppers (07_gauntlet.md R183, R186) -/

/-- Drive a chopper ball. -/
def chopBall (n : Nat) (on : Bool) (s : State) : State :=
  let c := chop s n
  if c.on = on then s
  else notePins (openBlank (48 + n) c.blankSel s.now (setChop n { c with on := on, changed := s.now } s))

/-- A chopper enters mitten: it is off (R186). -/
def chopMitten (n : Nat) (s : State) : State :=
  let s1 := chopBall n false s
  setChop n { chop s1 n with inMitten := true, edge := none } s1

/-- A chopper regulates: in RUN with AUTO_RUN, or from ARMED onward once a CHOPPER_ON has named it (R183). -/
def chopRegulates (s : State) (n : Nat) : Bool :=
  let c := chop s n
  let st := s.sys.state
  !c.inMitten && ((st == .run && c.autoRun) || (c.forced && (st == .armed || st == .run || st == .tripped)))

/-- A chopper that does not regulate is off (R183; DEDUCED, notes/assumptions/63.md). -/
def chopSettle (s : State) : State :=
  (List.range 2).foldl
    (fun a n => if chopRegulates a n then a else
      let b := chopBall n false a
      if (chop b n).edge.isSome then setChop n { chop b n with edge := none } b else b) s

/-! ### MITTEN_N and the fault inputs as conditions (01_architecture.md Table 1.5) -/

/-- An enabled fault input is asserted (07_gauntlet.md R168). -/
def faultAsserted (s : State) : Bool :=
  s.gnt.input.any fun e => e.2.asserted && s.gnt.enable.testBit e.1

/-- MITTEN_N is asserted at the ball. -/
def mittenAsserted (s : State) : Bool := s.gnt.mitLow.isSome

end Sys2Proof.Machine
end

