-- ==== Sys2Proof/Machine/CellOps.lean ====
section
/-! DEFINITION. The device's side of strands and cells: command frames, delays, usable cells and the ranker
(11_strands_cells.md R258 to R274, 04_brim_engine.md R111 to R118). -/

namespace Sys2Proof.Machine

open Sys2Proof

/-! ### Heads and cells (R252, R270) -/

/-- The lanes of this device that serve a strand. -/
def heads (s : State) (n : Nat) : List Nat :=
  if (lane s n).role = 1 then [n] else if (lane s n).role = 2 then [2 * (n / 2), 2 * (n / 2) + 1] else []

/-- The cell partners listed on a strand. -/
def cellsOn (s : State) (n : Nat) : List Nat :=
  (s.part.entry.filter fun e => e.2.type == 1 && strandOf s e.2.strand == strandOf s n).map Prod.fst

/-- The strand of a cell. -/
def cellStrand (s : State) (id : Nat) : Nat := strandOf s (partner s id).strand

/-- The arm that lists a cell (04_brim_engine.md R111). -/
def armOf (s : State) (id : Nat) : Option Nat := (s.arm.find? fun e => e.2.cells.contains id).map Prod.fst

/-- The written channels of OUT_TYPE ARM that name an arm. -/
def armChans (s : State) (a : Nat) : List Nat :=
  (s.chan.filter fun e => e.2.written && e.2.cfg.outType == 5 && e.2.cfg.arm == a).map Prod.fst

/-- The strands that carry cells of an arm. -/
def armStrands (s : State) (a : Nat) : List Nat := ((arm s a).cells.map (cellStrand s)).dedup

/-- The arm is configured. -/
def armDefined (s : State) (a : Nat) : Bool := !(arm s a).cells.isEmpty

/-- This device holds the cap, or acts as its own holder (14_twin.md R326). -/
def holds (s : State) : Bool := !s.twin.enable || s.twin.holder

/-- Twin time of a tick (14_twin.md R334). -/
def twinTime (s : State) (t : Nat) : Nat := ((t : Int) + s.twin.ofs).toNat

/-- Own tick of a twin time. -/
def ownTime (s : State) (t : Int) : Nat := (t - s.twin.ofs).toNat

/-! ### Delays (R271, R272) -/

/-- One block time in ns: 66 UI of 80 ps. -/
def tB : Rat := 528 / 100

/-- Nanoseconds of fine ticks. -/
def fineNs (f : Nat) : Rat := (f : Rat) * 5 / 64

/-- Arms with cells on a strand. -/
def armsOn (s : State) (n : Nat) : Nat := ((cellsOn s n).filterMap (armOf s)).dedup.length

/-- L_c of a cell from one head whose offset is held, with the nodes between (R271); through the head of a standby it includes
TWIN_LAT (14_twin.md R335). -/
def latencyFrom (s : State) (id ofs ins : Nat) : Rat :=
  (if s.twin.enable && !s.twin.holder then s.twin.lat else 0) +
  1340 + 2 * tB + ((armsOn s (cellStrand s id) : Rat) - 1) * 7 * tB + 5 * tB + fineNs ofs + (ins : Rat) * 2 * tB + 100

/-- L_c of a cell: the larger over the heads that reach it; 0 where none does (R271). -/
def latency (s : State) (id : Nat) : Rat :=
  let c := cell s id
  let n := cellStrand s id
  let loop := (lane s n).role == 2
  let hop := (partner s id).hop
  let l := match c.ofsL with
    | some f => if c.heads.testBit 0 then latencyFrom s id f (if loop then hop else 0) else 0
    | none => 0
  let u := match c.ofsU with
    | some f => if c.heads.testBit 1 then latencyFrom s id f (hopCount s n - 1 - hop) else 0
    | none => 0
  max l u

/-- L_s: the largest L_c over the cells of a strand (R271). -/
def strandLatency (s : State) (n : Nat) : Rat := ((cellsOn s n).map (latency s)).foldl max 0

/-- D with D_AUTO: the smallest multiple of 160 ticks of at least 3,200 ticks and L_s + D_MARGIN, at most 32,000 (R272). -/
def autoDelay (ls : Rat) (margin : Nat) : Nat :=
  let need := (ls * 8 / 5 + margin).ceil.toNat
  min 32000 (max 3200 ((need + 159) / 160 * 160))

/-- Twins exchange D of a strand outside RUN. What the twin computes is its own: a free value of D's range (14_twin.md R335;
DESIGN CHOICE, notes/assumptions/2.md). -/
def exchangeD (m own : Nat) (s : State) : State :=
  if s.twin.enable && s.twin.linkUp && s.sys.state != .run then
    setStrand m { strand s m with dPeer := 3200 + Config.freeNat s.draws % 28801 }
      (twinSend (.delay m own) { s with draws := s.draws + 1 })
  else s

/-- Recompute D of a strand and mark the cells it is too short for (R272); in twin operation the larger of the two devices'
values is used (14_twin.md R335). -/
def recomputeD (n : Nat) (s : State) : State :=
  let m := strandOf s n
  let ls := strandLatency s m
  let own := if (strand s m).dAuto then autoDelay ls (strand s m).dMargin else (strand s m).d
  let s := exchangeD m own s
  let x := strand s m
  let d := if s.sys.state = .run then x.dNow else if s.twin.enable then max own x.dPeer else own
  let ids := cellsOn s m
  let short (s : State) (id : Nat) : Bool := decide ((d : Rat) * 5 / 8 < latency s id + (x.dMargin : Rat) * 5 / 8)
  let changed := ids.any fun id => (cell s id).dShort != short s id
  let s1 := setStrand m { x with dNow := d, ls := ls } s
  let s2 := ids.foldl (fun a id => setCell id { cell a id with dShort := short s id } a) s1
  if changed then raise 0x2106 m [] s2 else s2

/-- The strands that have a head, by their numbers. -/
def strandsServed (s : State) : List Nat := (List.range 16).filter fun n => !(heads s n).isEmpty && strandOf s n == n

/-- Outside RUN, D of every strand is computed and exchanged between the twins anew (14_twin.md R335). -/
def exchangeAll (s : State) : State :=
  if s.twin.enable && s.sys.state != .run then (strandsServed s).foldl (fun a n => recomputeD n a) s else s

/-- D of an arm: the largest D of its strands; fixed in RUN (R272, 04_brim_engine.md R111). -/
def armD (s : State) (a : Nat) : Nat :=
  if s.sys.state = .run then (arm s a).d else ((armStrands s a).map fun n => (strand s n).dNow).foldl max 0

/-! ### Usable cells (04_brim_engine.md R117) -/

/-- Telemetry of a cell is no older than STALE_N cycles. -/
def tlmFresh (s : State) (id : Nat) : Bool :=
  let c := cell s id
  let n := match armOf s id with | some a => (arm s a).staleN | none => 4
  c.tlmSeen && decide (s.now / 32000 - c.tlmTick / 32000 ≤ n)

/-- State byte of the last telemetry frame. -/
def tlmState (s : State) (id : Nat) : Nat := u8 (cell s id).tlm 4

/-- A STATE byte of a node that has reached SAFE through LINK_LOST: no plan is running any more (R269). -/
def linkSafe (b : Nat) : Bool := b.testBit 4 && !b.testBit 5

/-- The cell stands in OFF or BYPASS by its own decision: SAFE_OWN, or SAFE through LINK_LOST (R269). -/
def ownSafe (s : State) (id : Nat) : Bool := (tlmState s id).testBit 3 || linkSafe (tlmState s id)

/-- The cell may be picked and counts in n. -/
def usable (s : State) (id : Nat) : Bool :=
  let c := cell s id
  (partner s id).state != 4 && c.acked && !c.faulted && !ownSafe s id && tlmFresh s id && !c.dShort && !c.mismatch &&
    !c.cfgFail && decide (c.listFrom ≤ s.now)

/-- Usable cells of an arm. -/
def usableCells (s : State) (a : Nat) : List Nat := (arm s a).cells.filter (usable s)

/-- Commanded state of a cell: 0 where it has had none. -/
def cmdOf (s : State) (id : Nat) : Nat := match (cell s id).cmdState with | some (st, _) => st | none => 0

/-- Execute-at of the cell's last commanded change. -/
def cmdAt (s : State) (id : Nat) : Nat := match (cell s id).cmdState with | some (_, t) => t | none => 0

/-- The level of an arm in the ranker's books (R113, R117). -/
def armLevel (s : State) (a : Nat) : Int :=
  let l := usableCells s a
  ((l.filter fun id => cmdOf s id == 1).length : Int) - (l.filter fun id => cmdOf s id == 4).length

/-! ### Strand state (11_strands_cells.md R277, R278) -/

/-- Cells of configured arms on a strand. -/
def configuredOn (s : State) (n : Nat) : List Nat := (cellsOn s n).filter fun id => (armOf s id).isSome

/-- READY: every configured cell UP and acknowledged. -/
def strandReady (s : State) (n : Nat) : Bool :=
  let l := configuredOn s n
  !l.isEmpty && l.all fun id => (partner s id).state == 2 && (cell s id).acked && (cell s id).heads != 0

/-- Report what has become of a strand's cells: a cell of a configured arm that a head has reached is reached by none, once until
all such cells are reached again (R278). -/
def updStrand (n : Nat) (s : State) : State :=
  let m := strandOf s n
  let x := strand s m
  let l := configuredOn s m
  let down := l.any fun id => (cell s id).gone
  let s1 := if down ∧ ¬ x.downSaid then raiseClass 24 0x2102 m [] (setStrand m { x with downSaid := true } s)
    else if ¬ down ∧ x.downSaid then setStrand m { x with downSaid := false } s
    else s
  let r := strandReady s1 m
  let s2 := if r = x.ready then s1 else setStrand m { strand s1 m with ready := r } s1
  if r ∧ ¬ x.ready then raise 0x2101 m [] s2 else s2

/-! ### Command frames (R260, R264, R265, R274) -/

/-- A frame with its CHK, the CRC-32C of all bytes before it (R253). -/
def withChk (b : Bytes) : Bytes := b ++ le 4 (crc32c b)

/-- A COMMAND frame (Table 11.5); plans are (ticks after the previous event, state code). -/
def commandFrame (dest seq epoch st : Nat) (plans : List (Nat × Nat)) (relay : Bool) (execAt armNo : Nat) : Bytes :=
  withChk (le 2 dest ++ le 2 seq ++ le 1 epoch ++ le 1 (st + 8 * plans.length + 32 * b2n relay) ++ le 6 execAt ++
    fit 12 (plans.flatMap fun p => le 4 (p.1 + p.2 * 2 ^ 24)) ++ le 1 armNo ++ le 3 0)

/-- A COMMAND_12 frame (Table 11.12). -/
def commandFrame12 (dest seq st execAt : Nat) : Bytes :=
  withChk (le 2 dest ++ le 2 seq ++ le 1 st ++ le 1 0 ++ le 6 execAt)

/-- Queue a command frame on the heads of a strand that are UP, and toward the standby (R270, 14_twin.md R335). -/
def commandOut (n : Nat) (f : LFrame) (s : State) : State :=
  let s1 := ((heads s n).filter fun h => (lane s h).up).foldl (fun a h => laneSend h f a) s
  if s.twin.enable && s.twin.holder && s.twin.linkUp then laneSend 14 { f with execAt := none } s1 else s1

/-- A NODE_SET is due to a node that a head reaches, with CLEAR or not (R258). -/
def dueSet (id : Nat) (clear : Bool) (s : State) : State :=
  if (cell s id).heads ≠ 0 then setCell id { cell s id with setDue := some (clear || (cell s id).setDue == some true) } s
  else s

/-- Send a unicast command to a cell (R264, R274): it takes the next SEQ of the cell. -/
def sendUnicast (id st execAt : Nat) (plans : List (Nat × Nat)) (s : State) : State :=
  let c := cell s id
  let seq := (c.seq + 1) % 65536
  let at_ := twinTime s execAt
  let a := (armOf s id).getD 0
  let f : LFrame :=
    if c.ver = 0x12 then { cls := 8, bytes := commandFrame12 id seq st at_, execAt := some execAt, cell := id }
    else { cls := 1, bytes := commandFrame id seq s.twin.epoch st plans false at_ a, execAt := some execAt, cell := id }
  let q := partner s id
  commandOut (cellStrand s id) f
    (setPartner id { q with seqTx := seq + s.twin.epoch * 65536 }
      (setCell id { c with seq := seq, epoch := s.twin.epoch } s))

/-- Command a change of state of a cell: the books take it at once (04_brim_engine.md R113). -/
def commandCell (id st execAt : Nat) (plans : List (Nat × Nat)) (s : State) : State :=
  sendUnicast id st execAt plans (setCell id { cell s id with cmdState := some (st, execAt) } s)

/-- Send an arm broadcast on one strand, and its unicast copies to version 1.2 cells (R265, R274). -/
def broadcastOn (a st execAt n : Nat) (s : State) : State :=
  let x := strand s n
  let b := (x.bseq.getD a 0 + 1) % 65536
  let f : LFrame := { cls := 1, bytes := commandFrame 0xFFF b s.twin.epoch st [] false (twinTime s execAt) a,
                      execAt := some execAt }
  let s1 := commandOut n f (setStrand n { x with bseq := x.bseq.put a b } s)
  ((arm s a).cells.filter fun id => cellStrand s id == n && (cell s id).ver == 0x12).foldl
    (fun t id => sendUnicast id st execAt [] t) s1

/-- Broadcast a state to every cell of an arm with one execute-at. -/
def broadcastArm (a st execAt : Nat) (s : State) : State :=
  let s1 := (arm s a).cells.foldl (fun t id => setCell id { cell t id with cmdState := some (st, execAt) } t) s
  (armStrands s a).foldl (fun t n => broadcastOn a st execAt n t) s1

/-- The state code of SAFE (Table 4.6). -/
def safeCode (x : Arm) : Nat := if x.safe = 1 then 5 else 0

/-- Bring an arm's cells to its SAFE state; its channel's decisions are sent no more (07_gauntlet.md R178,
11_strands_cells.md R259). -/
def armSafe (a : Nat) (s : State) : State :=
  if armDefined s a && holds s then
    broadcastArm a (safeCode (arm s a)) (s.now + armD s a) (setArm a { arm s a with liveFrom := none } s)
  else setArm a { arm s a with liveFrom := none } s

/-- Every configured arm to SAFE. -/
def allSafe (s : State) : State := (s.arm.keys.filter (armDefined s)).foldl (fun t a => armSafe a t) s

/-- Start of RUN: every usable cell from SAFE to 0-via-low with one execute-at (04_brim_engine.md R118). -/
def armStart (a : Nat) (s : State) : State :=
  let d := ((armStrands s a).map fun n => (strand s n).dNow).foldl max 0
  let s1 := setArm a { arm s a with d := d, liveFrom := some (s.now + d) } s
  if holds s then broadcastArm a 2 (s.now + d) s1 else s1

/-! ### The ranker (R113 to R116) -/

def socOf (s : State) (id : Nat) : Nat := u16 (cell s id).tlm 10
def vcellOf (s : State) (id : Nat) : Nat := u16 (cell s id).tlm 8
def tempOf (s : State) (id : Nat) : Int := max (i16 (cell s id).tlm 12) (i16 (cell s id).tlm 14)

/-- Insert a cell into a list ordered by state of charge, least first. -/
def insertSoc (c : Nat × Nat) : List (Nat × Nat) → List (Nat × Nat)
  | [] => [c]
  | x :: r => if c.2 < x.2 then c :: x :: r else x :: insertSoc c r

/-- Rebuild the ordered list of an arm (R113). -/
def rebuildArm (s : State) (a : Nat) : List (Nat × Nat) := (usableCells s a).foldr (fun id l => insertSoc (id, socOf s id) l) []

/-- SoC of 0.01 % steps as a pu32 code, for SOC_HYST. -/
def socCode (n : Nat) : Rat := (n : Rat) / 10000 * 2 ^ 27

/-- Excluded from an insertion by its voltage (R115). -/
def excluded (s : State) (x : Arm) (charging : Bool) (id : Nat) : Bool :=
  if charging then decide (x.vHi < vcellOf s id * 8192) else decide (vcellOf s id * 8192 < x.vLo)

/-- A cell has rested for 1 / (2 · F_CELL_MAX) since its last state change, between execute-at times (R116). -/
def rested (s : State) (x : Arm) (execAt id : Nat) : Bool :=
  decide (800000000 ≤ (execAt - cmdAt s id) * max 1 x.fCellMax)

/-- What the ranker picks: the cell, its new state and whether a resting cell had to be taken (R114 to R116; DEDUCED,
notes/assumptions/52.md). States of charge are those the list was made from; a hot cell goes to the end of the order and
stays a candidate. At a current of exactly zero an insertion counts as discharging for the exclusion (DESIGN CHOICE,
notes/assumptions/166.md). -/
def pick (s : State) (a : Nat) (up : Bool) (i : Rat) (execAt : Nat) : Option (Nat × Nat × Bool) :=
  let x := arm s a
  let lvl := armLevel s a
  let fresh := if up then decide (0 ≤ lvl) else decide (lvl ≤ 0)
  let zero (id : Nat) : Bool := cmdOf s id == 2 || cmdOf s id == 3
  let src (id : Nat) : Bool := if fresh then zero id else cmdOf s id == (if up then 4 else 1)
  -- an insertion goes to +1 or −1; a removal to a zero state: both change one half-bridge only
  -- a cell inserted in the direction `up` charges at i > 0, and one removed leaves a discharging insertion there
  let charging := if up then decide (0 < i) else decide (i < 0)
  let cand := x.order.filter fun c => usable s c.1 && src c.1 && !(fresh && excluded s x charging c.1)
  let awake := cand.filter fun c => rested s x execAt c.1
  let ordered := if charging then awake else awake.reverse
  let hot (c : Nat × Nat) : Bool := decide (x.tHot < tempOf s c.1)
  let pool := (ordered.filter fun c => !hot c) ++ ordered.filter hot
  let oldest (l : List (Nat × Nat)) : Option Nat :=
    l.foldl (fun b c => match b with | none => some c.1 | some y => if cmdAt s c.1 < cmdAt s y then some c.1 else b) none
  let zeroCode := 2 + Config.freeNat s.draws % 2
  let new := if fresh then (if up then 1 else 4) else zeroCode
  match pool with
  | [] => (oldest cand).map fun id => (id, new, true)
  | y :: _ =>
    let near := pool.filter fun c => decide (|socCode c.2 - socCode y.2| ≤ x.socHyst)
    (oldest near).map fun id => (id, new, false)

end Sys2Proof.Machine
end

