-- ==== Sys2Proof/Machine/GroupOps.lean ====
section
/-! DEFINITION. Group commands: what the lead sends and answers, and what cancels transactions
(12_partners_sessions.md R294 to R299, 03_grid_events.md R91). -/

namespace Sys2Proof.Machine

open Sys2Proof

/-- Send a request of the device's own to a partner as a chain where it is longer than one payload, with ACKREQ
and LAST on the final packet (16_command_transport.md Table 16.1, R369). -/
def askPartner (id opcode txn : Nat) (payload : Bytes) (s : State) : State :=
  let tag := s.pkt.nextTag
  let s1 := { s with pkt := { s.pkt with nextTag := (tag + 1) % 65536, sent := s.pkt.sent ++ [(id, opcode, tag, txn)] } }
  let ps := pieces 4080 (payload.length + 1) payload
  ((List.range ps.length).zip ps).foldl
    (fun a x =>
      let flags := if x.1 + 1 = ps.length then 0x05 else 0
      enqueueOwn id { flags := flags, opcode := opcode, seq := 0, tag := tag, target := id, payload := x.2 } a) s1

/-- OP_PART_CANCEL to members of a group. -/
def cancelTo (ids : List Nat) (txn : Nat) (s : State) : State :=
  ids.foldl (fun a id => askPartner id 0x2209 txn (le 2 txn ++ le 2 0) a) s

/-- Members of a list of indexes. -/
def Group.ids (g : Group) (l : List Nat) : List Nat := l.map fun k => g.members.getD k 0

/-- The rest of the lead's reply after STATUS and DETAIL (R297). -/
def Group.reply (g : Group) (aborted : Bool) : Bytes :=
  le 2 g.txn ++ le 2 g.members.length ++ ntBytes (if aborted then 0 else g.execAt.getD 0) ++ le 2 0 ++
    le 32 (maskOf g.prepared) ++ le 32 (maskOf g.committed) ++ le 32 (maskOf g.executed)

/-- End a group command with its reply and event; its transactions are free again (R294, R296). -/
def groupEnd (g : Group) (st : Status) (detail : Nat) (s : State) : State :=
  let s1 := { s with part := { s.part with group := s.part.group.filter (fun h => h.txn != g.txn) } }
  let s2 := match g.owed with
    | some w => answer w st detail (g.reply (st == .aborted)) s1
    | none => s1
  let s3 := if g.forBs then
      match s2.grid.bs with
      | some b =>
        if b.txn = some g.txn then
          { s2 with grid := { s2.grid with bs := some { b with result := some (st.code, if st = .aborted then g.prepared else g.executed) } } }
        else s2
      | none => s2
    else s2
  raise 0x2207 g.txn (le 2 st.code ++ le 2 0) s3

/-- Store a changed group. -/
def setGroup (g : Group) (s : State) : State :=
  { s with part := { s.part with group := s.part.group.map fun h => if h.txn = g.txn then g else h } }

/-- No commit is sent: members that prepared are cancelled and the lead answers ST_ABORTED (R296). -/
def groupAbort (g : Group) (s : State) : State :=
  let bad := g.failed.getD (((List.range g.members.length).find? fun k => !g.prepared.contains k).getD 0)
  groupEnd g .aborted bad (cancelTo (g.ids g.prepared) g.txn s)

/-- Start a group command: one OP_PART_PREPARE per member (R296). -/
def groupStart (owed : Option Owed) (forBs : Bool) (members : List Nat) (inner : Bytes) (innerN prepTo lead : Nat)
    (s : State) : State :=
  let txn := s.part.nextTxn
  let g : Group := { txn := txn, owed := owed, forBs := forBs, members := members, inner := inner, innerN := innerN,
                     lead := lead, deadline := s.now + usT prepTo }
  let texp := ntNs s + (prepTo + lead) * 1000
  let p := le 2 txn ++ le 2 0 ++ ntBytes texp ++ le 1 innerN ++ le 1 0 ++ le 2 inner.length ++ inner
  members.foldl (fun a id => askPartner id 0x2207 txn p a)
    { s with part := { s.part with group := s.part.group ++ [g], nextTxn := if txn = 0xFFFF then 1 else txn + 1 } }

/-- Every member has prepared, and none has failed. -/
def Group.allPrepared (g : Group) : Bool := g.failed.isNone && g.prepared.length == g.members.length

/-- The step that sends this group command is paused, and its commit waits (03_grid_events.md R85). -/
def groupHeld (s : State) (g : Group) : Bool := g.forBs && (s.grid.bs.bind BsRun.txn) == some g.txn && bsPaused s

/-- Every member has prepared: the commit with its execute-at (R296). -/
def groupCommit (g : Group) (s : State) : State :=
  let x := ntNs s + g.lead * 1000
  let s1 := setGroup { g with execAt := some x } s
  g.members.foldl (fun a id => askPartner id 0x2208 g.txn (le 2 g.txn ++ le 2 0 ++ ntBytes x ++ le 2 0) a) s1

/-- A device request's reply leaves the list of requests outstanding. -/
def dropSent (id opcode tag : Nat) (s : State) : State :=
  { s with pkt := { s.pkt with sent := s.pkt.sent.filter fun x => (x.1, x.2.1, x.2.2.1) != (id, opcode, tag) } }

/-- The hand-over that a HANDOVER step began is given up: the law of BS goes on (03_grid_events.md R89). -/
def Run.dropBsHandOver (r : Run) : Run := { r with ho := r.ho.filter fun h => !h.forBs }

/-- The black-start program ends as under OP_GRID_BS_ABORT; a group step in progress is wound up (03_grid_events.md R91). -/
def bsEnd (s : State) : State :=
  match s.grid.bs with
  | none => s
  | some b =>
    let s1 := match b.txn with
      | none => s
      | some t =>
        match s.part.group.find? (fun (g : Group) => g.txn == t) with
        | none => s
        | some g =>
          if g.execAt.isNone then groupAbort g s
          else if ntAt s s.now < (g.execAt.getD 0 : Nat) then cancelTo g.members t s
          else s
    -- after a failure the lead stays at its present e_bs (R89)
    let stop (r : Run) : Run := if b.halted then { r.dropBsHandOver with bsRun := false } else r.dropBsHandOver
    { s1 with grid := { s1.grid with bs := none }, gfm := { s1.gfm with run := stop s1.gfm.run, work := s1.gfm.work.map stop } }

/-- Entry into TRIPPED cancels every held transaction; a commit that waits is answered ST_ABORTED (R299). -/
def cancelHeld (s : State) : State :=
  let s1 := s.part.held.foldl
    (fun a p => match p.commit with
      | some (_, w) => answer w .aborted 0 [] a
      | none => { a with part := { a.part with aborted := a.part.aborted ++ [(p.from_, p.txn)] } }) s
  { s1 with part := { s1.part with held := [] } }

end Sys2Proof.Machine
end

