-- ==== Sys2Proof/Machine/PondOps.lean ====
section
/-! DEFINITION. What every command does for Pond: event matches, streaming, closing and suspending a record
(15_pond.md R355 to R362). -/

namespace Sys2Proof.Machine

open Sys2Proof

/-! ### The configuration in force (Table 15.1) -/

def pondCfg (s : State) : Bytes := s.pond.cfg.getD []
def pondDiv (c : Bytes) : Nat := u16 c 2
def pondSegs (c : Bytes) : Nat := u16 c 4
def pondLen (c : Bytes) : Nat := u32 c 8
def pondPre (c : Bytes) : Nat := u32 c 12
/-- Ticks between capture instants (R350). -/
def pondPeriod (c : Bytes) : Nat := 80 * pondDiv c
/-- FRAME_BYTES (R350). -/
def frameBytes (c : Bytes) : Nat := ((pondChans c).map fun x => x.2.2 / 8).sum

/-- The first capture instant at or after a tick. -/
def capAt (c : Bytes) (t : Nat) : Nat := (t + pondPeriod c - 1) / pondPeriod c * pondPeriod c

/-- The 64-byte header (Table 15.5). -/
def PRec.header (r : PRec) : Bytes :=
  let src := ((List.range 16).find? fun k => r.mask.testBit k).getD 0
  let b := le 1 1 ++ le 1 r.flags ++ le 1 src ++ le 1 r.nCh ++ le 2 r.mask ++ le 2 r.extra ++ le 8 r.recNo ++ le 8 r.trigTick ++
    le 4 r.preAct ++ le 4 (r.frames.length - r.preAct) ++ le 2 r.capDiv ++ le 2 r.frameBytes ++ le 4 r.cfgCrc ++ le 8 r.gntRec ++
    le 2 r.detail ++ le 2 0 ++ le 4 r.missedAt ++ le 4 0
  b ++ le 4 (crc32c b)

/-- The bytes of a record (R360). -/
def PRec.bytes (r : PRec) : Bytes := r.header ++ r.frames.flatten

/-- The size of a record (R351). -/
def PRec.size (r : PRec) : Nat := 64 + r.frames.length * r.frameBytes

/-! ### Streaming (R362) -/

/-- STREAM and the partner it names. -/
def streamTo (s : State) : Option Nat :=
  match s.pond.cfg with
  | some c => if (u8 c 1).testBit 2 then some (u16 c 16 % 4096) else none
  | none => none

/-- The session with a partner is open. -/
def sessOpenWith (s : State) (id : Nat) : Bool :=
  let q := partner s id
  q.session != 0xFFFF && (sess s q.session).state == 2

def updHeld (n : Nat) (f : PRec → PRec) (s : State) : State :=
  { s with pond := { s.pond with held := s.pond.held.map fun r => if r.recNo = n then f r else r } }

/-- Queue the next piece of the oldest record that is not wholly queued, while the session is open and the queue has
space (R362). -/
def streamFill (fuel : Nat) (s : State) : State :=
  match fuel with
  | 0 => s
  | k + 1 =>
    match streamTo s with
    | none => s
    | some id =>
      match s.pond.held.find? fun r => r.closed && decide (r.sentTo < r.size) with
      | none => s
      | some r =>
        if ¬ sessOpenWith s id then s
        else
          -- another partner than the one before gets the record from its start
          let from_ := if r.streaming && r.dest != id then 0 else r.sentTo
          let piece := (r.bytes.drop from_).take 4000
          let p := le 8 r.recNo ++ le 4 from_ ++ le 4 0 ++ piece
          if ¬ fits (orig s id) (20 + p.length) then s
          else
            let s1 := enqueue id none false { flags := 0x06, opcode := 0x180A, seq := 0, tag := 0, target := id, payload := p } s
            streamFill k (updHeld r.recNo (fun r => { r with streaming := true, dest := id, sentTo := from_ + piece.length }) s1)

/-! ### Event matches (R358, R359) -/

/-- EVENT_i of the trigger configuration names a code. -/
def eventListed (s : State) (code : Nat) : Bool :=
  code != 0 && s.pond.trig.length != 0 && (List.range 4).any fun i => u16 s.pond.trig (24 + 2 * i) == code

/-- Give Pond a trigger for each listed event raised since the last time. -/
def matchEvents (s : State) : State :=
  let l := s.pond.evSeen
  let s1 := { s with pond := { s.pond with evSeen := [] } }
  l.foldl (fun a c => if eventListed a c then pondTrig 9 a.now c 0 a else a) s1

/-- Pond's part at the end of every command. -/
def pondFinish (s : State) : State := streamFill 16 (matchEvents (matchEvents s))

/-! ### Closing, suspending (R352, R355, R357) -/

/-- A record closes: its header's MISSED_AT, its event and TRUNC_CNT (R355, R360). -/
def closePond (trunc : Bool) (r : PRec) (s : State) : State :=
  let flags := if trunc then r.flags ||| 4 else r.flags
  let r1 := { r with flags := flags, missedAt := c32 s 0x1809 0 24, closed := true }
  let s1 := { s with pond := { s.pond with cur := none, held := s.pond.held ++ [r1] } }
  raise 0x1801 0 (le 8 r.recNo) (if trunc then bump 0x1809 0 32 s1 else s1)

/-- The record in its post-trigger phase is complete. -/
def pondFull (s : State) (r : PRec) : Bool :=
  let c := pondCfg s
  decide (pondLen c - pondPre c ≤ r.frames.length - r.preAct)

/-- Capture stops: an open record closes with TRUNC, a pre-trigger segment is freed; the phase that follows (R352, R357). -/
def pondStop (phase : Nat) (s : State) : State :=
  let s1 := match s.pond.cur with
    | some r => closePond (!pondFull s r) r s
    | none => s
  { s1 with pond := { s1.pond with phase := phase, pre := [] } }

/-- Capture suspends on a warning under SHED or on a stop of TBASE; triggers that wait are missed (R357). -/
def pondSuspend (s : State) : State :=
  if ¬ s.pond.armed ∨ s.pond.phase = 5 then s
  else
    let s1 := pondStop 5 s
    s1.pond.trigs.foldl (fun a _ => pondMissed a) { s1 with pond := { s1.pond with trigs := [] } }

/-- Pond re-arms when the warning clears or TBASE restarts (R357). -/
def pondResume (s : State) : State :=
  if s.pond.phase = 5 ∧ tbRuns s ∧ ¬ s.pwr.shedding then { s with pond := { s.pond with phase := 3, rearmAt := s.now } } else s

/-- The free segments: those that no held record and no open one takes. -/
def pondFree (s : State) : Bool := decide (s.pond.held.length < pondSegs (pondCfg s))

end Sys2Proof.Machine
end

