-- ==== Sys2Proof/Machine/React.lean ====
section
/-! DEFINITION. The reaction table, fault records, the state transitions they cause, and what ends every command
(07_gauntlet.md R172 to R188, 01_architecture.md R25 to R31). -/

namespace Sys2Proof.Machine

open Sys2Proof

/-! ### The reaction table (Tables 7.2 to 7.4) -/

/-- Factory-recommended ACTIONS of a class (Table 7.2). -/
def factoryActions (c : Nat) : Nat :=
  -- bits: 0 REPORT, 1 LEG_MITTEN, 2 GROUP, 3 ALL_MITTEN, 4 CELLS_SAFE, 5 CURRENT_LIMIT, 6 CHOPPER_ON, 7 OPEN_BREAKER, 8 POND
  let trip := 0x118
  match c with
  | 0 => 0x103 | 1 => trip | 2 => 0x103 | 3 => trip | 4 => 0x158 | 5 => 1 | 6 => 0x121 | 7 => trip | 8 => trip
  | 9 => trip | 10 => 1 | 11 => 0x18 | 12 => 0x18 | 13 => 1 | 14 => 0x101 | 15 => trip | 16 => trip | 17 => trip
  | 18 => trip | 19 => 1 | 20 => 1 | 21 => 1 | 22 => 1 | 23 => 0x101 | 24 => 0x101 | 25 => 1 | 26 => 1
  | 27 => trip | 28 => trip | _ => 0

/-- The factory table's entry of a class (R174, R177): ARM_MASK and CHOP_MASK name every arm and chopper. -/
def factoryEntry (c : Nat) : Entry :=
  let a := factoryActions c
  { actions := a, armMask := if a.testBit 4 then 0xFF else 0, chopMask := if a.testBit 6 then 3 else 0 }

/-- The factory table. -/
def factoryTable : List Entry := (List.range 64).map factoryEntry

/-- The active table: a confirmed one from the tick after its confirmation on (R177); none: the factory table. -/
def tableAt (s : State) : Option (List Entry) :=
  match s.gnt.tableNext with
  | some (t, at_) => if at_ ≤ s.now then some t else s.gnt.table
  | none => s.gnt.table

/-- The active table's entry of a class. -/
def entryOf (s : State) (c : Nat) : Entry :=
  match tableAt s with
  | none => factoryEntry c
  | some t => t.getD c {}

/-- The 8 bytes of an entry (Table 7.3). -/
def Entry.bytes (e : Entry) : Bytes :=
  le 2 e.actions ++ le 1 e.group ++ le 1 e.armMask ++ le 1 e.brkPio ++ le 1 e.chopMask ++ le 2 0

/-- The active table in id order. -/
def activeTable (s : State) : List Entry := (List.range 64).map (entryOf s)

/-- The 512 bytes of a table. -/
def tableBytes (t : List Entry) : Bytes := t.flatMap Entry.bytes

/-- PIO balls that an output use names (22_balls.md R469). -/
def pioUses (s : State) : List Nat :=
  let brk := (activeTable s).filterMap fun e => if e.actions.testBit 7 then some (e.brkPio % 32) else none
  let sync := ((s.grid.par.target.getD 0x1A 0xFF).toNat)
  let close := s.grid.bsProg.filterMap fun b => if b.action = 3 then some (b.arg0 % 32) else none
  (brk ++ (if sync < 32 then [sync] else []) ++ close).dedup

/-- The inactive level of an output ball: the opposite of the active level of the lowest class that names it; low
otherwise (22_balls.md R469). -/
def pioIdle (s : State) (n : Nat) : Bool :=
  match (activeTable s).find? fun e => e.actions.testBit 7 && e.brkPio % 32 == n with
  | some e => e.brkPio.testBit 7
  | none => false

/-- The level of a PIO ball: an OPEN_BREAKER level first, then CLOSE and the permissive, then the inactive level;
an input reads what the board applies (22_balls.md R469; DEDUCED, notes/assumptions/65.md). -/
def pioLevel (s : State) (n : Nat) : Bool :=
  match Tbl.find n s.gnt.brk with
  | some l => l
  | none =>
    if (pioUses s).contains n then
      let sync := (s.grid.par.target.getD 0x1A 0xFF).toNat == n && s.gfm.run.syncPerm
      if (Tbl.find n s.balls.close).isSome || sync then true else pioIdle s n
    else s.balls.pioIn.testBit n

/-! ### Fault records (Table 7.1, R172, R173) -/

/-- The 48 bytes of a record. -/
def FRec.bytes (r : FRec) : Bytes :=
  le 8 r.recNo ++ le 8 r.tick ++ le 1 r.cls ++
    le 1 (b2n r.late + 2 * b2n r.multi + 4 * b2n r.disarmed + 8 * b2n r.pinned) ++
    le 2 r.actions ++ le 2 r.event ++ le 2 r.detail ++ le 8 r.legMap ++ le 8 r.actTick ++ le 1 r.state ++ le 1 r.mode ++
    le 6 0

/-- Write a record into the ring: when it is full, the oldest record that is not pinned goes (R173). -/
def putRecord (r : FRec) (s : State) : State :=
  let s1 :=
    if s.gnt.ring.length < 256 then s
    else
      let ring := s.gnt.ring.eraseP fun x => !x.pinned
      raise 0x1506 0 [] (bump 0x150C 0 28 { s with gnt := { s.gnt with ring := ring } })
  { s1 with gnt := { s1.gnt with ring := s1.gnt.ring ++ [r], nextRec := r.recNo + 1 } }

/-- Change a record in the ring. -/
def updRecord (n : Nat) (f : FRec → FRec) (s : State) : State :=
  { s with gnt := { s.gnt with ring := s.gnt.ring.map fun r => if r.recNo = n then f r else r } }

/-- A record closes: its event, and its copy into the journal (R173, Table 7.8). -/
def closeRecord (n : Nat) (s : State) : State :=
  match s.gnt.ring.find? fun r => r.recNo == n with
  | none => s
  | some r => raise 0x1501 r.cls (le 8 n) (journal 1 r.bytes s)

/-! ### Abort of an injection (05_angle_tables_injection.md R135) -/

/-- The fade factor g at a tick: a fade-out takes T_FADE from the g that it began at (R132). -/
def injG (s : State) (i : InjRun) (t : Nat) : Rat :=
  match s.angle.injCfg with
  | none => 0
  | some c =>
    let fade := usT (u32 c 20)
    let dt := t - i.at_
    match i.phase with
    | 1 => min 1 ((dt : Rat) / fade)
    | 2 => 1
    | 3 => i.g0 * max 0 (1 - (dt : Rat) / fade)
    | _ => 0

/-- Abort a running injection with a cause bit of Table 5.7, the first cause only; STATE and CAP set g to 0 at once in any
fade-out (DEDUCED, notes/assumptions/46.md). -/
def injAbort (bit : Nat) (s : State) : State :=
  match s.angle.inj with
  | none => s
  | some i =>
    let stop := bit == 6 || bit == 7
    if i.abort ≠ 0 then
      if stop then { s with angle := { s.angle with inj := some { i with g0 := 0, at_ := s.now } } } else s
    else
      let g := if stop then 0 else injG s i s.now
      let j := { i with abort := 2 ^ bit, phase := 3, g0 := g, at_ := s.now }
      raise 0x1303 (2 ^ bit) [] { s with angle := { s.angle with inj := some j } }

/-- The open correlation window is discarded (R136). -/
def injSpoil (s : State) : State :=
  match s.angle.inj with
  | some i => if i.phase = 2 then { s with angle := { s.angle with inj := some { i with spoilt := true } } } else s
  | none => s

/-! ### State transitions (01_architecture.md Tables 1.4, 1.5) -/

/-- End every injection of the tests with a cause (21_test_diagnostics.md R461). -/
def endInjections (cause : Nat) (s : State) : State := s.test.slot.keys.foldl (fun a k => endInjection k cause a) s

/-- Stop the grid observer (02_grid_forming.md R49). -/
def stopObserver (s : State) : State :=
  let was := s.gfm.obs.lock
  let s1 := { s with gfm := { s.gfm with obs := {}, far := {}, hist := [], vPos := 0, vLineMin := 0, vLineMax := 0 } }
  if was then raise 0x1008 0 [] s1 else s1

/-- The test functions of SERVICE stop: injections, PRBS on lanes, which stay down until they are trained again
(10_hanel_lanes.md R249), and EXTEST (R25, R27). -/
def stopTests (s : State) : State :=
  let s1 := endInjections 5 s
  let off (x : Lane) : Lane := { x with prbsGen := 0, prbsChk := 0, prbsLoop := 0, prbsInj := 0, prbsLock := false }
  endExtest { s1 with lane := { s1.lane with ln := s1.lane.ln.map fun e => (e.1, off e.2) } }

/-- Enter a device state: EV_SYS_STATE, FAULT_OUT_N (22_balls.md R468) and what the state starts or stops (DEDUCED,
notes/assumptions/102.md). -/
def enterState (new : DevState) (s : State) : State :=
  let old := s.sys.state
  let s := if old = .service then stopTests s else endExtest s
  let mode := if new = .run then s.sys.mode else .none
  let s1 := { s with sys := { s.sys with state := new, mode := mode, trans := none },
                     gnt := { s.gnt with faultOut := !(new == .armed || new == .run) } }
  let s1 := if old = .run then (strandsServed s1).foldl (fun a n => recomputeD n a) s1 else s1
  let s2 := chopSettle (notePins (raise 0x0001 (det new.code old.code) (le 1 mode.code ++ le 3 0) s1))
  match new with
  | .idle =>
    let s3 := stopObserver (endInjections 5 s2)
    { s3 with twin := { s3.twin with holder := false, releasing := false, leaseFrom := none, relTold := none,
                                     quietFrom := s3.now, leaseOut := false },
              grid := { s3.grid with island := false, fHist := [], rocof := 0, rocofHi := false, envV := false, envF := false,
                                     jumpLast := 0, seen := {}, seenWork := {}, timer := s3.grid.timer.map fun e => (e.1, { e.2 with okSince := none }) } }
  | .service => stopObserver s2
  | .armed =>
    -- device B counts its quiet from here (14_twin.md R330)
    let s2 := if s2.twin.idB then { s2 with twin := { s2.twin with quietFrom := s2.now } } else s2
    let s3 := if s2.gfm.obs.on then s2 else { s2 with gfm := { s2.gfm with obs := { on := true, at_ := s2.now } } }
    allSafe s3
  | .tripped => allSafe (endInjections 5 s2)
  | .run => s2
  | .boot => s2

/-- A hand-over in progress ends; a deferred reply carries ST_ABORTED (R31). -/
def dropHandOver (s : State) : State :=
  let s1 := match s.gfm.run.ho with
    | some h =>
      match h.owed with
      | some w => answer w .aborted 0 [] s
      | none => s
    | none => s
  { s1 with gfm := { s1.gfm with run := { s1.gfm.run with ho := none } } }

/-- What leaving RUN does to the control path: legs disabled, pending transitions discarded, laws, synchroniser,
injection and black-start program ended (06_legs_pwm.md R162, 04_brim_engine.md R103, R120; 03_grid_events.md R91). -/
def leaveRun (s : State) : State :=
  let s1 := disableAll 6 s
  let s2 := { s1 with chan := s1.chan.map fun e => (e.1, { e.2.dropped with pathB := none, issued := [] }),
                      arm := s1.arm.map fun e => (e.1, { e.2 with liveFrom := none }) }
  let s3 := dropHandOver (injAbort 6 s2)
  let s4 := { s3 with gfm := { s3.gfm with run := {}, work := none, ready := none, inForce := {} },
                      grid := { s3.grid with seen := s3.grid.seen.outside, seenWork := s3.grid.seenWork.outside },
                      gnt := { s3.gnt with clmPend := false } }
  bsEnd s4

/-- Entry into TRIPPED from ARMED or RUN (R30, R31): a transition in progress ends with ST_ABORTED. -/
def enterTripped (s : State) : State :=
  let s1 := match s.sys.trans with
    | some (.toRun _ _ (some w)) => answer w .aborted 0 [] s
    | _ => s
  let s2 := if s.sys.state = .run then leaveRun s1 else s1
  let s3 := disableAll 6 s2
  let s4 := { s3 with gnt := { s3.gnt with tripAt := s3.now, ring := s3.gnt.ring.map fun r => { r with pinned := false } } }
  enterState .tripped (cancelHeld s4)

/-- Pin the record of a reaction that leads to TRIPPED, up to 16 of them (R173). -/
def pinRecord (n : Nat) (s : State) : State :=
  if (s.gnt.ring.filter FRec.pinned).length < 16 then updRecord n (fun r => { r with pinned := true }) s else s

/-! ### Actions (R178, R179) -/

/-- The reaction table is armed (R175). -/
def tableArmed (s : State) : Bool := s.sys.state == .armed || s.sys.state == .run || s.sys.state == .tripped

/-- Legs that LEG_MITTEN affects for a class. -/
def affectedLegs (s : State) (cls detail legMap : Nat) : List Nat :=
  if cls ≤ 2 then bitsOf 48 legMap
  else if cls = 6 then (chan s (detail % 256)).cfg.legs
  else if cls = 7 then (chan s (detail % 256)).cfg.legs
  else if cls = 9 then [detail % 256]
  else []

/-- Choppers that LEG_MITTEN affects for a class. -/
def affectedChops (cls legMap : Nat) : List Nat :=
  if cls ≤ 2 then (List.range 2).filter fun k => legMap.testBit (48 + k) else []

def legsMitten (l : List Nat) (s : State) : State := disableLegs l 2 s.now false s

def chopsMitten (l : List Nat) (s : State) : State := l.foldl (fun a n => chopMitten n a) s

/-- A class occurrence that is still to be answered in this command puts a chopper into mitten by its group (R179). -/
def groupMittenNext (s : State) (n : Nat) : Bool :=
  tableArmed s && s.occ.any fun o => let e := entryOf s o.cls; e.actions.testBit 2 && e.group == (chop s n).group

/-- CHOPPER_ON: at once, ignoring MIN_OFF; a chopper in mitten, or one that another class of the same command puts there, stays
off (R179, R183). -/
def chopperOn (mask : Nat) (s : State) : State :=
  (bitsOf 2 mask).foldl
    (fun a n =>
      let c := chop a n
      let a1 := setChop n { c with forced := true, edge := none } a
      if c.inMitten || groupMittenNext a n then a1 else chopBall n true a1) s

/-- A CURRENT_LIMIT_MODE hold starts, and the exit conditions of GF/CL hold no longer (03_grid_events.md R70). -/
def startHold (s : State) : State :=
  let f (r : Run) : Run := { r with exitSince := none }
  { s with gnt := { s.gnt with clmPend := true }, grid := { s.grid with clHold := true },
           gfm := { s.gfm with run := f s.gfm.run, work := s.gfm.work.map f } }

/-- The mitten actions of one entry for a class (R178). -/
def applyMitten (e : Entry) (acts cls detail legMap : Nat) (s : State) : State :=
  let on (k : Nat) : Bool := acts.testBit k
  let s1 := if on 1 then chopsMitten (affectedChops cls legMap) (legsMitten (affectedLegs s cls detail legMap) s) else s
  let s2 := if on 2 then
      chopsMitten ((List.range 2).filter fun k => (chop s1 k).group == e.group)
        (legsMitten ((List.range 48).filter fun k => (leg s1 k).cfg.group == e.group) s1)
    else s1
  if on 3 then legsMitten (List.range 48) s2 else s2

/-- The other actions of one entry; `recNo` is the record's number and `ref` the reference of R180. A record that comes at
the tick of an entry into TRIPPED, while TBASE runs, has part in it (R173, R179). -/
def applyRest (e : Entry) (acts recNo ref : Nat) (s : State) : State :=
  let on (k : Nat) : Bool := acts.testBit k
  let s4 := if on 6 then chopperOn e.chopMask s else s
  let s5 := if on 4 then (bitsOf 8 e.armMask).foldl (fun a k => if armDefined a k then armSafe k a else a) s4 else s4
  let s6 := if on 5 ∧ s5.sys.state = .run then startHold s5 else s5
  let s7 := if on 7 then
      { s6 with gnt := { s6.gnt with brk := s6.gnt.brk.put (e.brkPio % 32) (!pioIdle s6 (e.brkPio % 32)) } } else s6
  let s8 := if on 8 then pondTrig 0 ref 0 recNo s7 else s7
  let s9 := if bits acts 7 1 ≠ 0 then injAbort 3 s8 else s8
  if bits acts 4 3 ≠ 0 ∨ on 7 then
    if s9.sys.state = .armed ∨ s9.sys.state = .run then pinRecord recNo (enterTripped s9)
    else if s9.sys.state = .tripped ∧ s9.gnt.tripAt = s9.now ∧ tbRuns s9 then pinRecord recNo s9
    else s9
  else s9

/-- Apply the actions of one entry for a class: mitten first, which overrides CHOPPER_ON (R179). -/
def applyActions (e : Entry) (acts cls detail legMap recNo ref : Nat) (s : State) : State :=
  applyRest e acts recNo ref (applyMitten e acts cls detail legMap s)

/-- Some action of an entry changes a ball: a leg or chopper that is not in mitten yet enters it, a chopper turns on, a breaker
is driven, or FAULT_OUT_N is asserted on the way to TRIPPED (R178 to R180). -/
def ballAction (s : State) (e : Entry) (acts cls detail legMap : Nat) : Bool :=
  let on (k : Nat) : Bool := acts.testBit k
  let legs (l : List Nat) : Bool := l.any fun k => !(leg s k).mitten
  let chops (l : List Nat) : Bool := l.any fun k => !(chop s k).inMitten
  (on 1 && (legs (affectedLegs s cls detail legMap) || chops (affectedChops cls legMap))) ||
    (on 2 && (legs ((List.range 48).filter fun k => (leg s k).cfg.group == e.group) ||
      chops ((List.range 2).filter fun k => (chop s k).group == e.group))) ||
    (on 3 && legs (List.range 48)) || (on 6 && (bitsOf 2 e.chopMask).any fun k => !(chop s k).inMitten && !(chop s k).on) || on 7 ||
    ((bits acts 4 3 != 0 || on 7) && (s.sys.state == .armed || s.sys.state == .run))

/-- A holder notes for its twin that it has applied the reaction of a class (14_twin.md R341). -/
def noteApplied (recNo cls legMap : Nat) (s : State) : State :=
  if s.twin.enable && s.twin.holder && (entryOf s cls).actions != 0 then
    { s with twin := { s.twin with applied := s.twin.applied ++ [(recNo, cls, legMap)] } }
  else s

/-- One class occurrence that is no fault input: its record, its actions, and the record's close (R173, R175). The reference of
MITTEN_IN is the assertion of MITTEN_N (R180). -/
def react (o : Occ) (s : State) : State :=
  let e := entryOf s o.cls
  if e.actions = 0 then s
  else
    let armed := tableArmed s
    let n := s.gnt.nextRec
    let ref := if o.cls = 3 ∧ o.holder.isNone then s.gnt.mitLow.getD o.tick else o.tick
    -- a reaction of the holder takes the legs that the holder's record names (14_twin.md R341)
    let cls := if o.holder.isSome then 0 else o.cls
    let r : FRec := { recNo := n, tick := o.tick, cls := o.cls, disarmed := !armed, actions := if armed then e.actions else 0,
                      event := o.event, detail := match o.holder with | some k => k % 65536 | none => o.detail, actTick := if armed && ballAction s e e.actions cls o.detail o.legs then s.now else 0,
                      legMap := maskOf (affectedLegs s cls o.detail o.legs),
                      state := s.sys.state.code, mode := s.sys.mode.code }
    let s1 := putRecord r s
    let s1 := if armed then noteApplied n o.cls r.legMap s1 else s1
    closeRecord n (if armed then applyActions e e.actions cls o.detail o.legs n ref s1 else s1)

/-- Answer the class occurrences of a command; a reaction may raise further ones (R179; DESIGN CHOICE,
notes/assumptions/13.md). -/
def drain (fuel : Nat) (s : State) : State :=
  match fuel with
  | 0 => s
  | n + 1 =>
    match s.occ with
    | [] => s
    | o :: r => drain n (react o { s with occ := r })

/-- A fault input is recognised: it opens a record or joins the open one (R172). `ref` is the reference of R180 (DEDUCED,
notes/assumptions/64.md). -/
def recognise (i ref : Nat) (late : Bool) (s : State) : State :=
  let x := finput s i
  let cls := if i < 48 then 0 else 2
  let e := entryOf s cls
  let armed := tableArmed s
  let s0 := setFinput i { x with recognised := true } s
  let s1 := bump 0x150C i 8 (if late then bump 0x150C i 12 s0 else s0)
  match s1.gnt.openRec with
  | some (n, _) =>
    match s1.gnt.ring.find? fun r => r.recNo == n with
    | none => s1
    | some r =>
      if r.legMap.testBit i then s1
      else
        let map := r.legMap ||| 2 ^ i
        let m := entryOf s1 1
        let acts := if armed then e.actions ||| (if r.multi then 0 else m.actions) else 0
        let ball := armed && (ballAction s1 e e.actions cls i (2 ^ i) || (!r.multi && ballAction s1 m m.actions 1 i map))
        let s2 := updRecord n (fun r => { r with legMap := map, multi := true, cls := 1, late := r.late || late,
                                                 actions := r.actions ||| acts,
                                                 actTick := if r.actTick = 0 ∧ ball then s1.now else r.actTick }) s1
        if ¬ armed then s2
        else
          let s2 := noteApplied n cls (2 ^ i) s2
          let s2 := if r.multi then s2 else noteApplied n 1 map s2
          let pondDone := r.actions.testBit 8
          let noPond (a : Nat) : Nat := if pondDone then a - a / 256 % 2 * 256 else a
          if r.multi then applyActions e (noPond e.actions) cls i (2 ^ i) n ref s2
          else
            let both := pondDone || e.actions.testBit 8
            let mActs := if both then m.actions - m.actions / 256 % 2 * 256 else m.actions
            let s3 := applyMitten m mActs 1 i map (applyMitten e (noPond e.actions) cls i (2 ^ i) s2)
            applyRest m mActs n ref (applyRest e (noPond e.actions) n ref s3)
  | none =>
    if e.actions = 0 then s1
    else
      let n := s1.gnt.nextRec
      let r : FRec := { recNo := n, tick := x.since, cls := cls, late := late, disarmed := !armed,
                        actions := if armed then e.actions else 0, detail := if i < 48 then i else i - 48,
                        legMap := 2 ^ i, actTick := if armed && ballAction s1 e e.actions cls i (2 ^ i) then s1.now else 0,
                        state := s1.sys.state.code, mode := s1.sys.mode.code }
      let s2 := putRecord r s1
      let s3 := { s2 with gnt := { s2.gnt with openRec := some (n, s2.now + 160) } }
      if armed then applyActions e e.actions cls i (2 ^ i) n ref (noteApplied n cls (2 ^ i) s3) else s3

/-! ### What ends every command -/

/-- The interlock stands last before the gate balls: GH and GL of a leg are never asserted together (06_legs_pwm.md R158). -/
def Leg.interlocked (x : Leg) : Leg := if x.gh && x.gl then { x with gh := false, gl := false } else x

/-- What follows from the device state whatever led there: a grid mode only in RUN (01_architecture.md Table 1.4),
FAULT_OUT_N (22_balls.md R468) and the interlock of every leg (06_legs_pwm.md R158). -/
def settle (s : State) : State :=
  { s with sys := { s.sys with mode := if s.sys.state = .run then s.sys.mode else .none }
           gnt := { s.gnt with faultOut := !(s.sys.state == .armed || s.sys.state == .run) }
           leg := s.leg.map fun e => (e.1, e.2.interlocked) }

/-- The end of a command: Wellspring sources whose path has gone leave READY; the class occurrences are answered; a
standby's READY follows (14_twin.md R343); Pond has its event triggers; what partners' queues hold is sent, and an event
raised there is a trigger of this command too; the outputs are settled and the interrupt causes are set. No command reaches
the queue of waiting commands. -/
def finish (a b : State) : State :=
  { withCauses a (settle (matchEvents (matchEvents (pump (pondFinish (updReady (drain 64 (pathLosses b)))))))) with pending := a.pending }

end Sys2Proof.Machine
end

