-- ==== Sys2Proof/Machine/Run.lean ====
section
/-! DEFINITION. How a command runs: an event at its tick, and a request packet under check 7 of Table 16.3
(16_command_transport.md R366 to R369, 17_opcodes.md R385 to R389). -/

namespace Sys2Proof.Machine

open Sys2Proof

/-- The outcome of every command of this model. -/
abbrev Out := Host.Outcome State Fault Refusal

/-- An event at tick `t`: the tick counter comes to `t`, the effect follows, and the command ends (DESIGN CHOICE,
notes/assumptions/7.md). A device held in reset is not reached by it (19_supplies_reset.md R433). -/
def ev (t : Nat) (s : State) (f : State → State) : Out := .next (finish s (if s.pwr.inReset then s else f (advance t s)))

/-- An event that acts on a device held in reset too: on its supplies, its reset sources, its input balls, what holds a gate
through a reset, or the nodes at the other end of a link. -/
def evAny (t : Nat) (s : State) (f : State → State) : Out := .next (finish s (f (advance t s)))

/-- An event with no tick of its own; its effect says what it does to a device held in reset. -/
def ev0 (s : State) (f : State → State) : Out := .next (finish s (f s))

/-- What the owning chapter answers to a request. -/
inductive Ans where
  /-- Refused: nothing changes (17_opcodes.md R394). -/
  | no (st : Status) (detail : Nat)
  /-- Executed, with status, detail and the rest of the reply. -/
  | yes (s : State) (st : Status) (detail : Nat) (data : Bytes)
  /-- Executed, with a chained reply (R388). -/
  | chain (s : State) (data : Bytes)
  /-- The reply is deferred; the state holds what it is owed to (R367). -/
  | later (s : State)

/-- Executed with ST_OK and nothing more to say. -/
def Ans.done (s : State) : Ans := .yes s .ok 0 []

/-- Executed with ST_OK and data. -/
def Ans.give (s : State) (data : Bytes) : Ans := .yes s .ok 0 data

/-- The first check that fails refuses the request; else it is executed (17_opcodes.md R387). -/
def chk (l : List (Bool × Status × Nat)) (k : Unit → Ans) : Ans :=
  match l.find? (fun c => c.1) with
  | some (_, st, d) => .no st d
  | none => k ()

/-- An opcode of Tables 17.1 to 17.5. -/
structure Op where
  code : Nat
  /-- The states of its row. -/
  states : List DevState
  /-- Chained in requests (R388). -/
  chained : Bool := false
  /-- Served to an originator that negotiated 2.x (R389). -/
  v2 : Bool := true

/-- State letters of Tables 17.1 to 17.5. -/
def stBIARTS : List DevState := [.boot, .idle, .armed, .run, .tripped, .service]
def stIARTS : List DevState := [.idle, .armed, .run, .tripped, .service]
def stIAS : List DevState := [.idle, .armed, .service]
def stIA : List DevState := [.idle, .armed]
def stI : List DevState := [.idle]
def stA : List DevState := [.armed]
def stR : List DevState := [.run]
def stT : List DevState := [.tripped]
def stS : List DevState := [.service]
def stIS : List DevState := [.idle, .service]
def stBIS : List DevState := [.boot, .idle, .service]
def stIAT : List DevState := [.idle, .armed, .tripped]
def stIAR : List DevState := [.idle, .armed, .run]
def stIATS : List DevState := [.idle, .armed, .tripped, .service]
def stIART : List DevState := [.idle, .armed, .run, .tripped]
def stARS : List DevState := [.armed, .run, .service]

/-- The opcode lies in the version negotiated (16_command_transport.md R374, 17_opcodes.md R389). -/
def served (o : Orig) (op : Op) : Bool :=
  o.ver / 16 == 3 || (op.v2 && op.code / 256 != 0x13 && op.code / 256 != 0x24 && op.code / 256 != 0x31)

/-- HELLO and RESYNC stand outside batch aborts and chains (R368, R374, R375). -/
def outside (op : Op) : Bool := op.code == 1 || op.code == 2

/-- Size of the push buffer in bytes (R377). -/
def room (org bytes : Nat) (s : State) : Bool := decide (s.pkt.inFlight.length < 512) && (org != 0 || decide (bytes ≤ rxFree s))

/-- A request that comes as a command of its own enters flight as a packet that passed check 6 does, unless it is in flight
already; without a place for it, it is not taken (R377; DEDUCED, notes/assumptions/8.md). -/
def entered (code : Nat) (r : Req) (s : State) : State :=
  if s.pkt.inFlight.any (Flight.is r.org r.seq code) || !room r.org (20 + r.payload.length) s then s
  else
    let f : Flight := { org := r.org, seq := r.seq, opcode := code, tag := r.tag, bytes := 20 + r.payload.length, ackReq := r.ackReq,
                        abortOnErr := r.abortOnErr, path := (orig s r.org).path, since := s.now }
    { s with pkt := { s.pkt with inFlight := s.pkt.inFlight ++ [f] } }

/-- A packet in flight may start: it is the oldest of its originator, it has not started, none of its originator's replies waits
for space, and it does not wait for a verification (R378, R379, 20_security.md R440). -/
def mayStart (s : State) (f : Flight) : Bool :=
  !f.begun && (orig s f.org).waitq.isEmpty && (s.pkt.inFlight.find? fun g => g.org == f.org) == some f &&
    !s.sec.loadWait.any fun q => q.org == f.org && q.seq == f.seq

/-- A request is the one to execute: the first of the packets in flight that may start (R378, R379; DEDUCED,
notes/assumptions/8.md). -/
def turn (code : Nat) (r : Req) (s : State) : Bool :=
  match s.pkt.inFlight.find? (mayStart s) with
  | some f => f.is r.org r.seq code
  | none => false

/-- Answer a request with what its chapter gave. A failing chain packet discards its chain (R369); RESYNC stands outside
aborts and chains and leaves both as they are (R375; DEDUCED, notes/assumptions/22.md). Of a HELLO, one that is refused for its
version changes nothing, and any other ends the abort and the chain (R368, R374; DEDUCED, notes/assumptions/22.md). -/
def conclude (o : Owed) (a : Ans) (s : State) : State :=
  let drop (s : State) : State := if o.opcode = 2 then s else setOrig o.org { orig s o.org with chain := none } s
  match a with
  | .no st d =>
    if o.opcode = 1 then
      answer o st d [] (if st = .version then s else setOrig o.org { orig s o.org with chain := none, aborting := none } s)
    else answer o st d [] (drop s)
  | .yes s1 st d data => answer o st d data (drop s1)
  | .chain s1 data => answerChain o data (drop s1)
  | .later s1 => drop (beginFlight o.org o.seq o.opcode s1)

/-- Arrival of a request's packet. -/
def arrivedAt (code : Nat) (r : Req) (s : State) : Nat :=
  ((s.pkt.inFlight.find? (Flight.is r.org r.seq code)).map Flight.since).getD s.now

/-- What a request that is not chained is answered with LAST clear: ST_BAD_PARAM (R369), after the state conditions of its
own that depend on its fields (17_opcodes.md R387). -/
def notLast : Ans → Ans
  | .no .badState d => .no .badState d
  | _ => .no .badParam 0

/-- Take a request packet into its chain: the payload so far. -/
def chainPayload (o : Orig) : Bytes := match o.chain with | some c => c.payload | none => []

/-- A packet of another opcode or tag arrives while a chain is open (R369). -/
def otherChain (o : Orig) (op : Op) (r : Req) : Bool :=
  match o.chain with
  | some c => c.opcode != op.code || c.tag != r.tag
  | none => false

/-- Run one request packet: abort and chain rules (R368, R369), then check 7 in the order of 17_opcodes.md R387. `part` is
what an earlier packet of a chain does on arrival; `body` gets the whole payload. A device held in reset executes nothing
(19_supplies_reset.md R433), and a packet whose turn has not come waits in flight (R378; DEDUCED, notes/assumptions/8.md;
DEDUCED, notes/assumptions/9.md). A failure inside the device answers ST_INTERNAL, and what had been begun is rolled back
(17_opcodes.md R385; DESIGN CHOICE, notes/assumptions/180.md). -/
def runReq (op : Op) (r : Req) (s : State) (part : Bytes → State → Ans) (body : Bytes → State → Ans) : State :=
  let w := owedTo r op.code
  if s.pwr.inReset then s
  else
  let s := entered op.code r s
  let o := orig s r.org
  if ¬ turn op.code r s then s
  else if ¬ outside op ∧ o.aborting = some r.tag then answer w .aborted 0 [] s
  else
    let s1 := if outside op then s else setOrig r.org { o with aborting := none } s
    let o1 := orig s1 r.org
    if ¬ outside op ∧ o1.deadChain = some (op.code, r.tag) then
      answer w .aborted 0 [] (setOrig r.org { o1 with deadChain := none } s1)
    else if ¬ outside op ∧ otherChain o1 op r then
      answer w .aborted 0 [] (setOrig r.org { o1 with chain := none } s1)
    else if ¬ served o1 op then conclude w (.no .badOpcode 0) s1
    else if ¬ op.states.contains s1.sys.state then conclude w (.no .badState 0) s1
    else if s1.pkt.failing then conclude w (.no .internal 0) { s1 with pkt := { s1.pkt with failing := false } }
    else if ¬ r.last ∧ ¬ op.chained then conclude w (notLast (body r.payload s1)) s1
    else
      let p := if op.chained then chainPayload o1 ++ r.payload else r.payload
      if ¬ r.last then
        match part p s1 with
        | .yes s2 _ _ _ =>
          answer w .ok 0 []
            (setOrig r.org { orig s2 r.org with
              chain := some { opcode := op.code, tag := r.tag, payload := p, since := arrivedAt op.code r s1 } } s2)
        | a => conclude w a s1
      else conclude w (body p s1) s1

/-- A request whose opcode is not chained in requests. -/
def runOp (op : Op) (r : Req) (s : State) (body : Bytes → State → Ans) : Out :=
  .next (finish s (runReq op r s (fun _ s => .done s) body))

/-- Length check of a fixed-length payload. -/
def lenIs (p : Bytes) (n : Nat) : Bool × Status × Nat := (p.length != n, .badLength, 0)

/-- A reserved field must be zero (00_scope.md R8). -/
def rsv (p : Bytes) (o n : Nat) : Bool × Status × Nat := (!zeroAt p o n, .badParam, o)

/-- Reserved bits of a one-byte field must be zero. -/
def rsvBits (p : Bytes) (o lo : Nat) : Bool × Status × Nat := (u8 p o / 2 ^ lo != 0, .badParam, o)

/-- A field outside its closed range (00_scope.md R3). -/
def outOf (v lo hi : Nat) (o : Nat) : Bool × Status × Nat := (decide (v < lo) || decide (hi < v), .range, o)

/-- A signed field outside its closed range. -/
def outOfI (v lo hi : Int) (o : Nat) : Bool × Status × Nat := (decide (v < lo) || decide (hi < v), .range, o)

/-- "4 reserved": four zero bytes (17_opcodes.md R384). -/
def fourReserved (p : Bytes) (k : Unit → Ans) : Ans := chk [lenIs p 4, rsv p 0 4] k

/-- A one-byte number followed by zero bytes up to 4 (17_opcodes.md R386). -/
def oneByte (p : Bytes) (hi : Nat) (k : Nat → Ans) : Ans :=
  chk [lenIs p 4, rsv p 1 3, outOf (u8 p 0) 0 hi 0] fun _ => k (u8 p 0)

/-- One access to a clock-gated block (18_timing.md R419). -/
def gatedAcc (s : State) : State := bump 0x0305 0 60 s

/-- The reply of a read of one object: of a gated block zero fields, counted in GATED_ACC (18_timing.md R419). -/
def giveOf (op obj : Nat) (s : State) (data : Bytes) : Ans :=
  if gated s op obj then .give (gatedAcc s) (List.replicate data.length 0) else .give s data

/-- A write to one block: ignored while it is gated (18_timing.md R419). -/
def writeOf (bit : Nat) (s : State) (k : Ans) : Ans := if s.clk.gateMask.testBit bit then .done (gatedAcc s) else k

/-- Draw `n` free bytes (DESIGN CHOICE, notes/assumptions/2.md). -/
def drawBytes (n : Nat) (s : State) : Bytes × State :=
  ((List.range n).map (Config.freeByte s.draws), { s with draws := s.draws + 1 })

/-- Draw a free number. -/
def drawNat (s : State) : Nat × State := (Config.freeNat s.draws, { s with draws := s.draws + 1 })

/-- Draw a free real. -/
def drawRat (s : State) : Rat × State := (Config.freeRat s.draws, { s with draws := s.draws + 1 })

end Sys2Proof.Machine
end

