-- ==== Sys2Proof/Machine/GfmOps.lean ====
section
/-! DEFINITION. Parameter sets with staging and commit, and the electrical angles that other blocks read
(02_grid_forming.md R36 to R49, 05_angle_tables_injection.md R125). -/

namespace Sys2Proof.Machine

open Sys2Proof

/-! ### Parameter tables -/

/-- Classes of parameters (R36). -/
inductive PClass where
  | s | i | b | r
  deriving DecidableEq, Repr

/-- One row of Table 2.1 or 3.1, in codes. -/
structure Par where
  id : Nat
  signed : Bool := false
  lo : Int
  hi : Int
  dflt : Int
  cls : PClass

/-- A pu32 code (00_scope.md R7). -/
def cPu (q : Rat) : Int := rnd (q * 2 ^ 27)
/-- An hz32 code. -/
def cHz (q : Rat) : Int := rnd (q * 2 ^ 20)
/-- A g32 code. -/
def cG (q : Rat) : Int := rnd (q * 2 ^ 16)
/-- A turn32 code of an angle in degrees. -/
def cDeg (q : Rat) : Int := rnd (q / 360 * 2 ^ 32)

/-- Table 2.1, first half. -/
def gfmTableA : List Par :=
  [⟨0x01, false, 100, 20000, 1000, .s⟩, ⟨0x02, false, 100, 40500, 690, .s⟩, ⟨0x03, false, cHz 45, cHz 65, cHz 50, .s⟩,
   ⟨0x04, false, 0, 1, 0, .s⟩, ⟨0x05, true, 0, cPu (1 / 2), cPu (5 / 100), .s⟩,
   ⟨0x06, false, 100000, 20000000, 4000000, .i⟩, ⟨0x07, false, 0, cG 400, cG 40, .i⟩, ⟨0x08, false, 0, 1, 0, .i⟩,
   ⟨0x09, true, cPu (5 / 1000), cPu (1 / 10), cPu (3 / 100), .b⟩, ⟨0x0A, false, 0, cHz (1 / 2), 0, .b⟩,
   ⟨0x0B, true, cPu (-3 / 2), cPu (3 / 2), 0, .r⟩, ⟨0x0C, true, 0, cPu (3 / 2), cPu 1, .b⟩,
   ⟨0x0D, true, cPu (-3 / 2), 0, cPu (-1), .b⟩, ⟨0x0E, false, cHz (1 / 2), cHz 5, cHz 3, .i⟩,
   ⟨0x0F, false, 0, 10000, 1000, .i⟩, ⟨0x10, false, cHz 5, cHz 100, cHz 20, .i⟩,
   ⟨0x11, true, 0, cPu (1 / 5), cPu (4 / 100), .b⟩, ⟨0x12, true, cPu (8 / 10), cPu (12 / 10), cPu 1, .r⟩,
   ⟨0x13, true, cPu (-1), cPu 1, 0, .r⟩, ⟨0x14, false, 1000, 1000000, 20000, .i⟩]

/-- Table 2.1, second half. -/
def gfmTableB : List Par :=
  [⟨0x15, true, cPu (8 / 10), cPu 1, cPu (9 / 10), .b⟩, ⟨0x16, true, cPu 1, cPu (12 / 10), cPu (11 / 10), .b⟩,
   ⟨0x17, true, 0, cPu (1 / 2), cPu (2 / 100), .b⟩, ⟨0x18, true, 0, cPu (1 / 2), cPu (1 / 10), .b⟩,
   ⟨0x19, false, 0, cG 50, cG 2, .i⟩, ⟨0x1A, false, 500, 1000000, 10000, .i⟩,
   ⟨0x1B, true, cPu (1 / 2), cPu (3 / 2), cPu (11 / 10), .i⟩, ⟨0x1C, false, 0, 2, 0, .i⟩,
   ⟨0x1D, true, cPu (1 / 1000), cPu 10, cPu 1, .i⟩, ⟨0x1E, true, cPu (1 / 1000), cPu 10, cPu 1, .i⟩,
   ⟨0x1F, true, cPu (1 / 1000), cPu 1, cPu (1 / 10), .i⟩, ⟨0x20, false, 0, 500000, 50000, .i⟩,
   ⟨0x21, false, 0, 3, 0, .i⟩, ⟨0x22, false, cHz (1 / 100), cHz 1, cHz (1 / 10), .i⟩,
   ⟨0x23, false, 0, cHz 1, cHz (1 / 2), .i⟩, ⟨0x24, false, 10000, 60000000, 1000000, .i⟩,
   ⟨0x25, true, 0, cPu (1 / 10), cPu (5 / 100), .i⟩, ⟨0x26, true, 0, cPu (3 / 10), cPu (1 / 10), .i⟩,
   ⟨0x27, false, 0, cG 10, cG 1, .i⟩]

/-- Table 2.1. P_SET and V_SET stand at the widest range their bounds allow (R37). -/
def gfmTable : List Par := gfmTableA ++ gfmTableB

/-- Table 3.1, first half. -/
def gridTableA : List Par :=
  [⟨0x01, false, cDeg 5, cDeg 90, cDeg 30, .i⟩, ⟨0x02, false, cDeg 1, cDeg 30, cDeg 5, .i⟩,
   ⟨0x03, false, cHz (5 / 100), cHz 2, cHz (1 / 2), .i⟩, ⟨0x04, true, cPu (1 / 2), cPu (95 / 100), cPu (85 / 100), .i⟩,
   ⟨0x05, true, cPu (52 / 100), cPu 1, cPu (9 / 10), .i⟩, ⟨0x06, false, 1, 1000, 10, .i⟩,
   ⟨0x07, false, 0, 1000000, 20000, .i⟩, ⟨0x08, false, 100000, 60000000, 10000000, .i⟩, ⟨0x09, false, 0, 2, 1, .i⟩,
   ⟨0x0A, false, 0, cG 10, cG 2, .i⟩, ⟨0x0B, false, 0, 500000, 100000, .i⟩, ⟨0x0C, false, cDeg 1, cDeg 90, cDeg 10, .i⟩,
   ⟨0x0D, true, cPu (5 / 100), cPu (3 / 2), cPu (1 / 5), .i⟩, ⟨0x0E, false, 0, 10000000, 1000000, .i⟩,
   ⟨0x0F, false, cHz (1 / 2), cHz 10, cHz 2, .i⟩, ⟨0x10, false, 20000, 500000, 100000, .i⟩]

/-- Table 3.1, second half. -/
def gridTableB : List Par :=
  [⟨0x11, true, 0, cPu (5 / 100), cPu (1 / 100), .i⟩, ⟨0x12, false, 0, cHz (1 / 2), cHz (5 / 100), .i⟩,
   ⟨0x13, false, 0, 10000000, 1000000, .i⟩, ⟨0x14, false, 0, 0x0F, 4, .i⟩, ⟨0x15, false, 0, 31, 0, .s⟩,
   ⟨0x16, false, cDeg 1, cDeg 30, cDeg 10, .i⟩, ⟨0x17, false, cHz (1 / 100), cHz (1 / 2), cHz (1 / 10), .i⟩,
   ⟨0x18, true, cPu (1 / 100), cPu (1 / 10), cPu (5 / 100), .i⟩, ⟨0x19, false, 0, 5000000, 200000, .i⟩,
   ⟨0x1A, false, 0, 0xFF, 0xFF, .s⟩, ⟨0x1B, false, 20000, 10000000, 100000, .i⟩, ⟨0x1C, false, 0, 1, 0, .i⟩,
   ⟨0x1D, false, 0, 1, 0, .s⟩, ⟨0x1E, true, 0, cPu (1 / 5), cPu (5 / 100), .i⟩, ⟨0x1F, true, 0, cPu (1 / 2), 0, .i⟩,
   ⟨0x20, false, 100000, 60000000, 5000000, .i⟩, ⟨0x21, false, 1000, 1000000, 10000, .i⟩]

/-- Table 3.1. SYNC_PIO also excludes 32 to 0xFE. -/
def gridTable : List Par := gridTableA ++ gridTableB

def parOf (t : List Par) (id : Nat) : Option Par := t.find? fun p => p.id == id

def parDflt (t : List Par) (id : Nat) : Int := match parOf t id with | some p => p.dflt | none => 0

/-- A value lies in its range. -/
def parOk (grid : Bool) (p : Par) (v : Int) : Bool :=
  decide (p.lo ≤ v) && decide (v ≤ p.hi) && !(grid && p.id == 0x1A && decide (31 < v) && v != 0xFF)

/-- Staged value, active target and present value of a set. -/
def PSet.st (x : PSet) (t : List Par) (id : Nat) : Int := x.staged.getD id (parDflt t id)
def PSet.tg (x : PSet) (t : List Par) (id : Nat) : Int := x.target.getD id (parDflt t id)
def PSet.pr (x : PSet) (t : List Par) (id : Nat) : Rat := x.present.getD id (parDflt t id)

/-- Value of entry k of an OP_*_SET_PARAM payload (Table 2.2). -/
def parVal (p : Par) (b : Bytes) (k : Nat) : Int := if p.signed then i32 b (8 + 8 * k) else (u32 b (8 + 8 * k) : Int)

/-- The first entry that a test refuses. -/
def firstBad (n : Nat) (f : Nat → Bool) : Option Nat := (List.range n).find? f

/-- The device is in IDLE or ARMED, where class S is accepted. -/
def structOk (s : State) : Bool := s.sys.state == .idle || s.sys.state == .armed

/-- Why an entry is refused: its status. -/
def entryBad (grid : Bool) (t : List Par) (b : Bytes) (k : Nat) : Option Status :=
  match parOf t (u16 b (4 + 8 * k)) with
  | none => some .badParam
  | some p =>
    if ¬ zeroAt b (6 + 8 * k) 2 then some .badParam
    else if parOk grid p (parVal p b k) then none else some .range

/-- OP_GFM_SET_PARAM and OP_GRID_SET_PARAM (R37): the set afterwards, or the refusal. -/
def setParams (grid : Bool) (t : List Par) (x : PSet) (b : Bytes) (s : State) : Except (Status × Nat) PSet :=
  let n := u16 b 0
  let held := min n ((b.length - 4) / 8)
  let sBad := firstBad held fun k =>
    !structOk s && (match parOf t (u16 b (4 + 8 * k)) with | some p => p.cls == .s | none => false)
  match sBad with
  | some k => .error (.badState, k)
  | none =>
    if b.length ≠ 4 + 8 * n then .error (.badLength, 0)
    else if n = 0 ∨ 64 < n then .error (.badParam, 0)
    else if ¬ zeroAt b 2 2 then .error (.badParam, 2)
    else
      match firstBad n fun k => (entryBad grid t b k).isSome with
      | some k => .error ((entryBad grid t b k).getD .badParam, k)
      | none =>
        .ok ((List.range n).foldl
          (fun y k => match parOf t (u16 b (4 + 8 * k)) with
            | some p => { y with staged := y.staged.put p.id (parVal p b k), touched := y.touched ++ [p.id] }
            | none => y) x)

/-- The first class S parameter whose staged value differs from its target (R38). -/
def structDiffers (t : List Par) (x : PSet) : Option Nat :=
  (t.find? fun p => p.cls == .s && x.st t p.id != x.tg t p.id).map Par.id

/-- A validated commit: the staging copy is the target; the named parameters wait for the boundary (R38, R40). -/
def commitSet (x : PSet) : PSet :=
  { x with target := x.staged, pend := some ((x.pend.getD []) ++ x.touched), touched := [] }

/-- OP_*_DISCARD: staging equals the active target (R38). -/
def discardSet (x : PSet) : PSet := { x with staged := x.target, touched := [] }

/-- Apply a commit at a boundary, and move blends; class R in RUN is moved by the law (R39, R40). `n` is
ceil(T_PBLEND / T_step); the applying boundary is the first of the n steps (DEDUCED, notes/assumptions/25.md). T_PBLEND = 0
begins no blend, so none ends; a blend of one step ends where it begins (DESIGN CHOICE, notes/assumptions/133.md). -/
def stepSet (t : List Par) (run : Bool) (n : Nat) (x : PSet) : PSet :=
  let ids := (x.pend.getD []).dedup
  -- a blend that the commit does not name goes on; one that it names restarts from its present value
  let free := x.blend.filter fun e => !ids.contains e.1
  let moved := free.foldl
    (fun (y : PSet) (e : Nat × Rat × Nat) =>
      if ¬ run ∨ e.2.2 ≤ 1 then { y with present := y.present.put e.1 (x.tg t e.1 : Rat), blend := Tbl.del e.1 y.blend }
      else { y with present := y.present.put e.1 (y.pr t e.1 + e.2.1), blend := y.blend.put e.1 (e.2.1, e.2.2 - 1) }) x
  let still (y : PSet) : PSet :=
    if run then y else
      { y with ramp := [], present := t.foldl (fun z p => if p.cls == .r then z.put p.id (x.tg t p.id : Rat) else z) y.present }
  let isB (id : Nat) : Bool := match parOf t id with | some p => p.cls == .b | none => false
  -- a blend ends: its last step, a blend of one step, or a restart that applies at once
  let ended := free.any (fun e => !run || decide (e.2.2 ≤ 1)) ||
    ids.any fun id => isB id && !(run && decide (1 < n)) && ((run && n == 1) || x.blend.any fun e => e.1 == id)
  let close (y : PSet) : PSet := { y with blendDue := y.blendDue || (ended && y.blend.isEmpty) }
  match x.pend with
  | none => close (still moved)
  | some _ =>
    let y := ids.foldl
      (fun (y : PSet) id =>
        let tgt : Rat := x.tg t id
        match (parOf t id).map Par.cls with
        | some .b =>
          if run ∧ 1 < n then
            let inc := (tgt - y.pr t id) / n
            { y with present := y.present.put id (y.pr t id + inc), blend := y.blend.put id (inc, n - 1) }
          else { y with present := y.present.put id tgt, blend := Tbl.del id y.blend }
        | some .r => if run then { y with ramp := (y.ramp ++ [id]).dedup } else { y with present := y.present.put id tgt }
        | _ => { y with present := y.present.put id tgt }) moved
    close (still { y with pend := none })

/-! ### Present values in their units -/

/-- Present code of a grid-forming parameter. -/
def gp (s : State) (id : Nat) : Rat := s.gfm.par.pr gfmTable id
def gpPu (s : State) (id : Nat) : Rat := gp s id / 2 ^ 27
def gpHz (s : State) (id : Nat) : Rat := gp s id / 2 ^ 20
def gpG (s : State) (id : Nat) : Rat := gp s id / 2 ^ 16
/-- A time constant in seconds. -/
def gpSec (s : State) (id : Nat) : Rat := gp s id / 1000000

/-- Present code of a grid-event parameter. -/
def ep (s : State) (id : Nat) : Rat := s.grid.par.pr gridTable id
def epPu (s : State) (id : Nat) : Rat := ep s id / 2 ^ 27
def epHz (s : State) (id : Nat) : Rat := ep s id / 2 ^ 20
def epG (s : State) (id : Nat) : Rat := ep s id / 2 ^ 16
def epSec (s : State) (id : Nat) : Rat := ep s id / 1000000
/-- An angle in turns. -/
def epTurn (s : State) (id : Nat) : Rat := ep s id / 2 ^ 32
/-- A time constant in ticks. -/
def epTicks (s : State) (id : Nat) : Nat := (ep s id * 1600).floor.toNat

def fNom (s : State) : Rat := gpHz s 0x03

/-- Seconds of a number of ticks. -/
def tickSec (t : Nat) : Rat := (t : Rat) / 1600000000

/-! ### Angles (R47, 05_angle_tables_injection.md R125), in turns -/

/-- THETA_G at a tick. -/
def thetaG (s : State) (t : Nat) : Rat :=
  let o := s.gfm.obs
  let w := if o.lock then o.w else if o.everLock then o.lastW else 1
  o.theta + w * fNom s * (tickSec t - tickSec o.at_)

/-- THETA at a tick: the published angle and its slope; outside RUN, and before the first publish tick, THETA_G. -/
def thetaAt (s : State) (t : Nat) : Rat :=
  let p := s.gfm.inForce
  if s.sys.state = .run ∧ p.ok then
    let dt := fNom s * (tickSec t - tickSec p.tick)
    let a := p.thetaPub + p.w * dt
    if p.mixL = 0 then a else a + p.mixL * wrapHalf (p.mixTheta + p.mixW * dt - a)
  else thetaG s t

/-- THETA_I at a tick. -/
def thetaIAt (s : State) (t : Nat) : Rat :=
  let w := if s.sys.state = .run then s.gfm.run.law.w else s.gfm.obs.w
  s.gfm.thetaI + w * fNom s * (tickSec t - tickSec s.gfm.thetaIAt)

/-- The angle of a source code: 0 THETA, 1 THETA_G, 2 THETA_I. -/
def thetaSrc (s : State) (src t : Nat) : Rat :=
  match src with
  | 0 => thetaAt s t
  | 1 => thetaG s t
  | _ => thetaIAt s t

/-! ### Angle tables (05_angle_tables_injection.md R124 to R130) -/

def angTab (s : State) (n : Nat) : AngTab := s.angle.tab.getD n {}

def setAngTab (n : Nat) (x : AngTab) (s : State) : State := { s with angle := { s.angle with tab := s.angle.tab.put n x } }

/-- The index angle α of a user with its phase (R125). -/
def angIndex (s : State) (n t phi : Nat) : Nat :=
  let x := angTab s n
  let th := turnCode (thetaSrc s x.src t)
  (x.mult * ((th + 2 ^ 32 - phi % 2 ^ 32) % 2 ^ 32) + x.offset) % 2 ^ 32

/-- The interpolated value of a table at α, a pu32 code (R126). -/
def angValue (x : AngTab) (alpha : Nat) : Int :=
  let k : Nat := alpha / 2 ^ 22
  let frac : Nat := alpha % 2 ^ 22
  let a : Int := Tbl.getD x.act k 0
  let d : Int := Tbl.getD x.act ((k + 1) % 1024) 0 - a
  a + rnd ((d : Rat) * (frac : Rat) / 2 ^ 22)

/-- The value of a table for a user at a tick. -/
def angAt (s : State) (n t phi : Nat) : Int := angValue (angTab s n) (angIndex s n t phi)

/-- The sum of the bindings of a kind on a target, in pu (R129, R130). -/
def angSum (s : State) (kind target t : Nat) : Rat :=
  (s.angle.bind.filter fun b => b.kind == kind && b.target == target).foldl
    (fun a b => a + puOf b.gain * puOf (angAt s b.table t b.phase)) 0

/-! ### The injected signal (R132) -/

/-- Feedback taps of a PRBS of an order (Table 5.6). -/
def prbsTaps (n : Nat) : List Nat :=
  match n with
  | 7 => [7, 6] | 8 => [8, 6, 5, 4] | 9 => [9, 5] | 10 => [10, 7] | 11 => [11, 9] | 12 => [12, 6, 4, 1]
  | 13 => [13, 4, 3, 1] | 14 => [14, 5, 3, 1] | 15 => [15, 14] | _ => [16, 15, 13, 4]

/-- One step of the shift register; bit n − 1 is the output. -/
def prbsStep (n x : Nat) : Nat :=
  let fb := (prbsTaps n).foldl (fun b t => b != x.testBit (t - 1)) false
  (2 * x + b2n fb) % 2 ^ n

/-- Chip k of the sequence, +1 or −1. -/
def prbsChip (n k : Nat) : Rat :=
  let m := (k + Config.prbsPhase n) % (2 ^ n - 1)
  if (Nat.iterate (prbsStep n) m (2 ^ n - 1)).testBit (n - 1) then 1 else -1

/-- T_W of a configuration in ticks. -/
def injWindow (c : Bytes) : Nat := if u8 c 0 = 2 then (2 ^ u8 c 3 - 1) * u32 c 40 else usT (u32 c 12)

/-- The unscaled signal at time τ ticks after the start of fade-in. -/
def injWave (c : Bytes) (tau : Nat) : Rat :=
  let tw := injWindow c
  match u8 c 0 with
  | 2 => puOf (i32 c 24) * prbsChip (u8 c 3) (tau / u32 c 40)
  | 3 =>
    let ks := u16 c 36
    let ke := u16 c 38
    let x : Int := (tau : Int) - usT (u32 c 20)
    let win := x / tw
    let u : Rat := ((x % tw : Int) : Rat) / tw
    puOf (i32 c 24) * sinT ((win : Rat) * ((ks + ke : Nat) : Rat) / 2 + ks * u + ((ke : Rat) - ks) * u * u / 2)
  | _ =>
    let n := u8 c 2
    (List.range n).foldl
      (fun a i => a + puOf (i32 c (48 + 8 * i)) *
        sinT ((u16 c (44 + 8 * i) : Rat) * tau / tw - ((i * (i - 1) : Nat) : Rat) / (2 * n))) 0

/-- The point that the run injects at: SCAN = DQ takes D_AXIS, then Q_AXIS (R134). -/
def injPoint (c : Bytes) (i : InjRun) : Nat := if u8 c 18 = 2 then (if i.pass = 0 then 2 else 3) else u8 c 1

/-- The scaled signal at a tick for a point; zero where no injection acts there. -/
def injAt (s : State) (point t : Nat) : Rat :=
  match s.angle.inj, s.angle.injCfg with
  | some i, some c => if i.phase ≠ 0 ∧ injPoint c i = point then injG s i t * injWave c (t - i.start) else 0
  | _, _ => 0

end Sys2Proof.Machine
end

