-- ==== Sys2Proof/Machine/Legs.lean ====
section
/-! DEFINITION. The local legs: configuration, carrier and duty, dead time, carry, refresh guard, compares, enable and
mitten (06_legs_pwm.md). -/

namespace Sys2Proof.Machine

open Sys2Proof

/-! ### Masks -/

/-- A leg mask whose reserved bits 48 to 63 are zero. -/
def maskOk (p : Bytes) : Bool × Status × Nat := (u64 p 0 / 2 ^ 48 != 0, .badParam, 0)

/-- The legs of a mask. -/
def legsOf (p : Bytes) : List Nat := bitsOf 48 (u64 p 0)

/-! ### Configuration (R141, R142) -/

/-- The configuration of an OP_LEG_SET_CONFIG payload (Table 6.1). -/
def legCfgOf (p : Bytes) : LegCfg :=
  { group := u8 p 1, ctrl := u16 p 2, phase := u32 p 4, dtRise := u16 p 8, dtFall := u16 p 10, dtMin := u16 p 12,
    dtMax := u16 p 14, dtMargin := u16 p 16, dtShift := u8 p 18, blankSel := u8 p 19, minPulse := u16 p 20,
    refreshOn := u16 p 22, refreshMax := u32 p 24, mitten := u8 p 28, mitDelay := u16 p 30, ovlLimit := u16 p 32,
    ovlWin := u32 p 36 }

/-- Checks of Table 6.1 to 6.3 and R141, R142, in their order. -/
def legCfgChecks (p : Bytes) (s : State) : List (Bool × Status × Nat) :=
  let c := legCfgOf p
  let boundMap := match chanOfLeg s (u8 p 0) with | some ch => (chan s ch).cfg.isMap | none => false
  [lenIs p 40, outOf (u8 p 0) 0 47 0, (decide (15 < c.group) && c.group != 0xFF, .range, 1),
   (c.ctrl / 2 ^ 11 != 0, .badParam, 2), outOf c.phase 0 16000000 4, outOf c.dtMin 0 16000 12, outOf c.dtMax 0 16000 14,
   outOf c.dtMargin 0 1600 16, outOf c.dtShift 0 8 18, rsvBits p 19 4, outOf c.minPulse 0 16000 20,
   outOf c.refreshOn 160 65535 22, outOf c.refreshMax 16000 1600000000 24, rsvBits p 28 4, rsv p 29 1,
   outOf c.mitDelay 0 3200 30, outOf c.ovlLimit 1 65535 32, rsv p 34 2, outOf c.ovlWin 1000 10000000 36,
   (decide (c.dtRise < c.dtMin) || decide (c.dtMax < c.dtRise), .range, 8),
   (decide (c.dtFall < c.dtMin) || decide (c.dtMax < c.dtFall), .range, 10),
   (c.mitten % 4 == 3, .badParam, 28), (c.update == 3, .badParam, 2),
   (decide (1 ≤ c.update) && !c.tri, .badParam, 2), (c.refreshEn && boundMap, .badParam, 2)]

/-- Ticks into the period: u of R143. -/
def legU (x : Leg) (t : Nat) : Nat := (((t : Int) - x.anchor - x.cfg.phase) % (x.pair.period : Int)).toNat

/-- The counter is recomputed from new values and the period in progress is abandoned (R144): the stretch to the next
boundary counts from the boundary before, and compares that fall before now do not fire (DEDUCED, notes/assumptions/55.md). -/
def regrid (x : Leg) (t : Nat) : Leg :=
  let u := legU x t
  if u = 0 then { x with start := none, fired := 0 }
  else
    { x with start := some ((t : Int) - u),
             fired := maskOf ((List.range 4).filter fun k => decide ((x.cmp.getD k {}).value < u)) }

/-- OP_LEG_SET_CONFIG (R141). -/
def execOpLegSetConfig (r : Req) (s : State) : Out :=
  runOp { code := 0x1401, states := stIART } r s fun p s =>
    let n := u8 p 0
    let running := s.sys.state == .run || s.sys.state == .tripped
    chk ((running && decide (1 ≤ p.length) && decide (n < 48) && (leg s n).enabled, .badState, 0) :: legCfgChecks p s) fun _ =>
      let x := leg s n
      let c := legCfgOf p
      let y := { x with cfg := c, dtR := c.dtRise, dtF := c.dtFall, missR := 0, missF := 0 }
      let z := if x.cfg.phase ≠ c.phase ∨ x.cfg.tri ≠ c.tri then regrid y s.now else y
      let s1 := setLeg n z s
      .done (if z.mitten ∧ z.hold.isNone then applyPattern n (8 * s.now) s1 else s1)

/-! ### Counter (R143, R144) -/

/-- OP_LEG_SYNC (R144). -/
def execOpLegSync (r : Req) (s : State) : Out :=
  runOp { code := 0x1402, states := stIARTS } r s fun p s =>
    let running := s.sys.state == .run || s.sys.state == .tripped
    chk [(running && decide (8 ≤ p.length) && (legsOf p).any (fun n => (leg s n).enabled), .badState, 0), lenIs p 16,
         maskOk p, (decide (u64 p 8 < s.now + 160) || decide (s.now + 1600000000 < u64 p 8), .range, 8)] fun _ =>
      .done ((legsOf p).foldl (fun a n => setLeg n { leg a n with sync := (u64 p 8 :: (leg a n).sync.filter (· ≠ u64 p 8)) } a) s)

/-- The first tick that an OP_LEG_SYNC waits for. -/
def Leg.nextSync (x : Leg) : Option Nat := x.sync.min?

/-- At T the new ANCHOR applies, that of each command in the order of their T (R144). -/
def execLegAnchorApplied (t leg_ : Nat) (s : State) : Out :=
  ev t s fun s =>
    let x := leg s leg_
    match x.nextSync with
    | none => s
    | some a => if reached s a then setLeg leg_ (regrid { x with anchor := a, sync := x.sync.filter (· ≠ a) } s.now) s else s

/-! ### Staging and commit (R148 to R150) -/

/-- OP_LEG_STAGE (R148): every member is held to its range, the members that MASK names are staged (00_scope.md R3; DEDUCED,
notes/assumptions/54.md). -/
def execOpLegStage (r : Req) (s : State) : Out :=
  runOp { code := 0x1403, states := stIARTS } r s fun p s =>
    let m := u8 p 1
    let per := m.testBit 0
    let dut := m.testBit 1
    let bad (o : Nat) : Bool × Status × Nat := outOf (u32 p o) 0 (2 ^ 27) o
    chk [lenIs p 24, outOf (u8 p 0) 0 47 0, rsvBits p 1 2, (m == 0, .badParam, 1), rsv p 2 2,
         outOf (u32 p 4) 320 16000000 4, bad 8, bad 12, bad 16] fun _ =>
      let x := leg s (u8 p 0)
      let a := if per then { x.staged with period := u32 p 4 } else x.staged
      let b := if dut then { a with duty := u32 p 8, dutyB := u32 p 12, amp := u32 p 16, phi := u32 p 20 } else a
      .done (setLeg (u8 p 0) { x with staged := b, wroteP := x.wroteP || per, wroteD := x.wroteD || dut,
                                      tornSaid := x.tornSaid && ((x.wroteP || per) != (x.wroteD || dut)) } s)

/-- The first boundary of a leg at or after a tick. -/
def nextBoundary (x : Leg) (t : Nat) : Nat :=
  let u := legU x t
  if u = 0 then t else t + (x.pair.period - u)

/-- The first update instant of a leg at or after a tick (R147). -/
def nextUpdate (x : Leg) (t : Nat) : Nat :=
  let b := nextBoundary x t
  let half := x.pair.period / 2
  let a := if legU x t ≤ half then t + (half - legU x t) else nextBoundary x t + half
  if ¬ x.cfg.tri ∨ x.cfg.update = 0 then b else if x.cfg.update = 1 then a else min a b

/-- The first update instant at or after a tick, on the grids that accepted OP_LEG_SYNC commands bring from their T on, taken in
order (R144, R149). -/
def nextOn (x : Leg) (t : Nat) : List Nat → Nat
  | [] => nextUpdate x t
  | a :: rest => let u := nextUpdate x t; if u < a then u else nextOn { x with anchor := a } (max t a) rest

def nextApply (x : Leg) (t : Nat) : Nat := nextOn x t x.sync.mergeSort

/-- Why OP_LEG_COMMIT refuses a leg (R149). -/
def commitBad (x : Leg) : Option Status :=
  if ¬ x.wroteP ∧ ¬ x.wroteD then some .badParam
  else if x.wroteP ≠ x.wroteD then some .notReady
  else if x.cfg.tri ∧ x.staged.period % 2 = 1 then some .badParam
  else none

/-- OP_LEG_COMMIT (R149). The refusal of AT, which no leg causes, carries its offset. -/
def execOpLegCommit (r : Req) (s : State) : Out :=
  runOp { code := 0x1404, states := stIARTS } r s fun p s =>
    let ls := legsOf p
    chk [lenIs p 16, maskOk p, (ls.isEmpty, .badParam, 0xFFFF)] fun _ =>
      match ls.find? fun n => (commitBad (leg s n)).isSome with
      | some n => .no ((commitBad (leg s n)).getD .badParam) n
      | none =>
        chk [(decide (s.now + 1600000000 < u64 p 8), .range, 8)] fun _ =>
          let from_ := max (u64 p 8) (s.now + 64)
          let s1 := ls.foldl
            (fun a n =>
              let x := leg a n
              setLeg n { x with pend := some (x.staged, from_), wroteP := false, wroteD := false, tornSaid := false } a) s
          let first := ls.foldl (fun m n => min m (nextApply (leg s n) from_)) (2 ^ 64 - 1)
          .give s1 (le 8 first)

/-- R150: a record with exactly one part written at an update instant. -/
def tornCheck (n : Nat) (s : State) : State :=
  let x := leg s n
  if x.wroteP ≠ x.wroteD ∧ ¬ x.tornSaid then
    raise 0x1401 n [] (bump 0x1408 n 32 (setLeg n { x with tornSaid := true } s))
  else s

/-! ### Compares (R159) -/

/-- Highest ARG of a compare target. -/
def cmpArgOk (target arg : Nat) : Bool := if target = 1 then decide (arg < 16) else decide (target ≤ 4) && arg == 0

/-- The four compares of an OP_LEG_SET_CMP payload. -/
def cmpsOf (p : Bytes) : List Cmp :=
  (List.range 4).map fun k => { value := u32 p (4 + 8 * k), target := u8 p (8 + 8 * k), arg := u8 p (9 + 8 * k) }

/-- OP_LEG_SET_CMP (R159): it takes effect at the leg's next boundary. -/
def execOpLegSetCmp (r : Req) (s : State) : Out :=
  runOp { code := 0x1405, states := stIARTS } r s fun p s =>
    let entry (k : Nat) : List (Bool × Status × Nat) :=
      [(!cmpArgOk (u8 p (8 + 8 * k)) (u8 p (9 + 8 * k)), .badParam, 8 + 8 * k), rsv p (10 + 8 * k) 2]
    chk ([lenIs p 36, outOf (u8 p 0) 0 47 0, rsv p 1 3] ++ (List.range 4).flatMap entry) fun _ =>
      .done (setLeg (u8 p 0) { leg s (u8 p 0) with cmpPend := some (cmpsOf p) } s)

/-- A leg-compare trigger is given to Pond (15_pond.md Table 15.4, LEG_CMP). -/
def compareToPond (leg_ : Nat) (s : State) : State := pondTrig 6 s.now leg_ 0 s

/-- A TRIG_OUT pulse of 32 ticks; pulses on one ball combine (R159). -/
def trigOut (k : Nat) (s : State) : State :=
  { s with balls := { s.balls with trigOut := s.balls.trigOut.put k (max (s.now + 32) (s.balls.trigOut.getD k 0)) } }

/-- A compare fires once per period at the boundary plus VALUE, from ARMED onward (R159). -/
def execLegCompareFire (t leg_ cmp : Nat) (s : State) : Out :=
  ev t s fun s =>
    let x := leg s leg_
    let c := x.cmp.getD cmp {}
    match x.start with
    | none => s
    | some b =>
      let on := s.sys.state == .armed || s.sys.state == .run || s.sys.state == .tripped
      if on && c.target != 0 && decide (c.value < x.pair.period) && !x.fired.testBit cmp &&
          decide (b + c.value ≤ s.now) && decide ((s.now : Int) < b + x.pair.period) then
        let s1 := setLeg leg_ { x with fired := x.fired ||| 2 ^ cmp } s
        match c.target with
        | 1 => convTrigger c.arg s1.now s1
        | 2 => compareToPond leg_ s1
        | 3 => trigOut 0 s1
        | _ => trigOut 1 s1
      else s

/-- A TRIG_OUT pulse ends (R159). -/
def execTrigOutPulseEnd (t out : Nat) (s : State) : Out :=
  ev t s fun s =>
    match Tbl.find out s.balls.trigOut with
    | none => s
    | some e => if reached s e then { s with balls := { s.balls with trigOut := Tbl.del out s.balls.trigOut } } else s

/-! ### Duty (R147) -/

/-- The duty of a leg at an update instant, a pu32 code, and whether it was clamped. -/
def dutyAt (s : State) (n : Nat) : Int × Bool :=
  let x := leg s n
  let sine := if x.cfg.sine then puOf x.pair.amp * cosT (thetaSrc s x.cfg.sineSrc s.now - turnOf x.pair.phi) else 0
  let d := puCode (puOf x.pair.duty + sine + angSum s 2 n s.now)
  if d < 0 then (0, true) else if 2 ^ 27 < d then (2 ^ 27, true) else (d, false)

/-- Fine ticks of a duty code in a period. -/
def dutyFine (d : Int) (period : Nat) : Nat := (rnd ((d : Rat) / 2 ^ 27 * period * 8)).toNat

/-- Form the duty at an update instant (R147). -/
def formDuty (n : Nat) (s : State) : State :=
  let x := leg s n
  let r := dutyAt s n
  let s1 := setLeg n { x with dutyTot := r.1, tOn := dutyFine r.1 x.pair.period } s
  if r.2 then bump 0x1408 n 52 s1 else s1

/-- A pending pair whose instant has come applies (R149, R151); `b` is the boundary that follows from it. -/
def applyPair (n : Nat) (apex : Bool) (s : State) : State :=
  let x := leg s n
  match x.pend with
  | none => s
  | some (p, from_) =>
    if s.now < from_ then s
    else
      let b : Int := if apex then (s.now : Int) + p.period / 2 else s.now
      setLeg n { x with pair := p, pend := none, anchor := if p.period = x.pair.period then x.anchor else b - x.cfg.phase } s

/-! ### Edges of the commanded output (R145, R146) -/

/-- The part of a forced refresh low in which GL is asserted, in fine ticks (R157). -/
def refreshOn (x : Leg) : Option (Nat × Nat) := x.refreshTo.map fun e => (8 * (e - x.cfg.refreshOn), 8 * e)

/-- Levels of GH and GL of an INDEPENDENT leg at a fine tick (R146): GL's interval for SAW, the gap between two of its
intervals for TRI; a forced refresh low asserts GL, too (R157; DESIGN CHOICE, notes/assumptions/147.md). -/
def indepLevels (x : Leg) (f : Nat) : Bool × Bool :=
  let inside (i : Option (Nat × Nat)) : Bool := match i with | some (a, b) => decide (a ≤ f) && decide (f < b) | none => false
  (inside x.hi && decide (x.hFrom ≤ f),
   ((if x.cfg.tri then !inside x.lo else inside x.lo) || inside (refreshOn x)) && decide (x.lFrom ≤ f))

/-- Edges of an INDEPENDENT leg that fall within the present tick, in their order. -/
def indepEdges (n : Nat) (s : State) : State :=
  let x := leg s n
  let ends (i : Option (Nat × Nat)) : List Nat := match i with | some (a, b) => [a, b] | none => []
  let es := ((ends x.hi ++ ends x.lo ++ ends (refreshOn x) ++ [x.hFrom, x.lFrom]).filter fun e => e / 8 == s.now).mergeSort
  (if es.isEmpty then [8 * s.now] else es).foldl
    (fun a f => let l := indepLevels x f; request n f l.1 l.2 a) s

/-- The end of the period in progress at a tick, as a fine tick: the next boundary of the grid in force, which an apex update
may have moved (R143, R151). -/
def periodEnd (x : Leg) (t : Nat) : Nat :=
  if legU x t = 0 ∧ x.start ≠ some (t : Int) then 8 * t else 8 * (t + x.pair.period - legU x t)

/-- The fall of a high that an apex bound has carried beyond its period (R151). -/
def overEdge (n : Nat) (s : State) : State :=
  let x := leg s n
  match x.overTo with
  | some (_, o) => if o / 8 ≤ s.now then setOut n o false (setLeg n { x with overTo := none } s) else s
  | none => s

/-- Edges of the high interval that are due: the rising edge, then the falling one; a fall at the period's end or beyond is left
to the boundary, where the next period may go on high (R145, R151). -/
def compEdges (n : Nat) (s : State) : State :=
  let s := overEdge n s
  let x := leg s n
  match x.hi with
  | none => s
  | some (a, b) =>
    let s1 := if a / 8 ≤ s.now ∧ ¬ x.out then setOut n a true s else s
    if b / 8 ≤ s.now ∧ b < periodEnd x s.now then setOut n b false (setLeg n { leg s1 n with hi := none } s1) else s1

/-- The commanded output changes at its edge (R145). -/
def execLegOutputEdge (t leg_ : Nat) (s : State) : Out :=
  ev t s fun s =>
    let x := leg s leg_
    if x.mitten ∨ brimMode s leg_ then s
    else if x.cfg.indep then indepEdges leg_ s
    else compEdges leg_ s

/-! ### Pulses and carry (R154, R155) -/

/-- The emitted length and the carry of a period, and whether a pulse was dropped (R154). -/
def emitPulse (x : Leg) : Nat × Int × Bool :=
  let thHi : Int := ((x.dtR + x.cfg.minPulse) * 8 : Nat)
  let thLo : Int := ((x.dtF + x.cfg.minPulse) * 8 : Nat)
  let t : Int := x.tOn + x.carry
  let pf : Int := (x.pair.period * 8 : Nat)
  if 0 < t ∧ t < thHi then (0, t, true)
  else if t ≤ 0 then (0, t, false)
  else if 0 < pf - t ∧ pf - t < thLo then (pf.toNat, t - pf, true)
  else if pf ≤ t then (pf.toNat, t - pf, false)
  else (t.toNat, 0, false)

/-- A carry beyond one period is cut to one period (R154). -/
def cutCarry (n : Nat) (s : State) : State :=
  let x := leg s n
  let pf : Int := (x.pair.period * 8 : Nat)
  if |x.carry| ≤ pf then setLeg n { x with cutLast := false } s
  else
    let s1 := bump 0x1408 n 28 (setLeg n { x with carry := if x.carry < 0 then -pf else pf, cutLast := true } s)
    if x.cutLast then s1 else raise 0x1405 n [] s1

/-- The high interval of a period that starts now (R145, R154; DEDUCED, notes/assumptions/56.md). -/
def pulseAt (x : Leg) (b len : Nat) : Option (Nat × Nat) :=
  if len = 0 then none
  else if x.cfg.tri then
    let a := 8 * b + 4 * x.pair.period - len / 2
    some (a, a + len)
  else some (8 * b, 8 * b + len)

/-- The high interval loses its overlap with a forced low, into the carry where the leg has one (R155, R157; DEDUCED,
notes/assumptions/59.md). -/
def trimLow (n : Nat) (s : State) : State :=
  let x := leg s n
  match x.refreshTo, x.hi with
  | some e, some (a, b) =>
    let lost := if independent s n then 0 else min b (8 * e) - a
    setLeg n { x with hi := if b ≤ 8 * e then none else some (max a (8 * e), b), carry := x.carry + lost } s
  | _, _ => s

/-- The forced low of the refresh guard begins (R157). -/
def forceLow (n : Nat) (counted : Bool) (s : State) : State :=
  let x := leg s n
  trimLow n (setLeg n { x with refreshTo := some (s.now + x.cfg.refreshOn + x.dtF), refreshDue := false, overTo := none }
    (if counted then bump 0x1408 n 48 s else s))

/-- What the guard does to a period that starts now: its low begins, on leaving mitten or because it is due, or goes on from
the period before (R157). -/
def refreshPeriod (n : Nat) (fresh : Bool) (s : State) : State :=
  let x := leg s n
  if x.cfg.refreshEn ∧ fresh then forceLow n false s else if x.refreshDue then forceLow n true s else trimLow n s

/-- A leg leaves mitten with its commanded output at a level (R161): a gate that is to be asserted follows its dead
time, one that the pattern already asserts stays (DEDUCED, notes/assumptions/61.md). -/
def leaveMitten (n fine : Nat) (high : Bool) (s : State) : State :=
  let x := leg s n
  let s1 := setLeg n { x with mitten := false, leaving := none, hold := none, wait := none, out := high } s
  let s2 := request n fine (x.gh && high) (x.gl && !high) s1
  let y := leg s2 n
  if (if high then y.gh else y.gl) then s2
  else
    setLeg n ({ y with assertAt := some (high, fine + 8 * (if high then y.dtR else y.dtF)) }.setCommut high (some { tOff := fine })) s2

/-- An INDEPENDENT leg leaves mitten: a gate that the pattern does not assert waits for the dead time of its edge (R161). -/
def leaveIndep (n : Nat) (s : State) : State :=
  let x := leg s n
  let from_ (on : Bool) (dt : Nat) : Nat := if on then 0 else 8 * (s.now + dt)
  setLeg n { x with mitten := false, leaving := none, hold := none, wait := none, carry := 0, hFrom := from_ x.gh x.dtR,
                    lFrom := from_ x.gl x.dtF } s

/-- The intervals of an INDEPENDENT period that starts at a boundary, and how many of them are dropped (R146, R155). -/
def indepSpans (x : Leg) (b : Nat) : Option (Nat × Nat) × Option (Nat × Nat) × Nat :=
  let p := x.pair.period
  let min_ := x.cfg.minPulse * 8
  let tb := dutyFine x.pair.dutyB p
  let drop (v : Nat) : Bool := decide (0 < v) && decide (v < min_)
  let on := if drop x.tOn then 0 else x.tOn
  let onB := if drop tb then 0 else tb
  let lo := if x.cfg.tri then some (8 * b + (onB - onB / 2), 8 * (b + p) - onB / 2)
    else if onB = 0 then none else some (8 * (b + p) - onB, 8 * (b + p))
  (pulseAt x b on, lo, b2n (drop x.tOn) + b2n (drop tb))

/-- An INDEPENDENT period starts now (DEDUCED, notes/assumptions/57.md). -/
def indepPeriod (n : Nat) (fresh : Bool) (s : State) : State :=
  let x := leg s n
  let r := indepSpans x s.now
  indepEdges n (refreshPeriod n fresh (bumpN 0x1408 n 24 r.2.2 (setLeg n { x with hi := r.1, lo := r.2.1 } s)))

/-- The high that goes on beyond a boundary by the bound of R151, whether of the period that ends or carried from one before
it. -/
def highBeyond (x : Leg) (fine : Nat) : Option (Nat × Nat) :=
  if ¬ x.out then none else (x.overTo.toList ++ x.hi.toList).find? fun i => decide (fine < i.2)

/-- The high interval of a period joined to an earlier high that the bound of R151 lets last beyond the boundary; where the two do
not meet, the earlier one is kept by itself (DEDUCED, notes/assumptions/168.md). -/
def joinOver (x : Leg) (fine : Nat) (new : Option (Nat × Nat)) : Option (Nat × Nat) × Option (Nat × Nat) :=
  match highBeyond x fine, new with
  | some (a0, b0), some (a, b) => if a ≤ b0 then (some (a0, max b b0), none) else (new, some (a0, b0))
  | some i, none => (none, some i)
  | none, _ => (new, none)

/-- The high interval of a COMPLEMENTARY carrier period that starts now (R145, R151, R154, R157). -/
def compPeriod (n : Nat) (fresh : Bool) (s : State) : State :=
  let x := leg s n
  let e := emitPulse x
  let j := joinOver x (8 * s.now) (pulseAt x s.now e.1)
  let s1 := setLeg n { x with hi := j.1, overTo := j.2, carry := e.2.1 } s
  let s2 := if e.2.2 then bump 0x1408 n 24 s1 else s1
  let s3 := cutCarry n s2
  let s4 := refreshPeriod n fresh s3
  let z := leg s4 n
  -- a high that ran to the end of the last period ends here unless this one starts high or the bound of R151 holds it
  let starts := z.overTo.isSome || (match z.hi with | some (a, _) => decide (a ≤ 8 * s.now) | none => false)
  let s5 := if z.out && !starts then setOut n (8 * s.now) false s4 else s4
  compEdges n s5

/-- At a leg's period boundary (R143, R147, R150, R151, R154, R159, R161). -/
def execLegPeriodBoundary (t leg_ : Nat) (s : State) : Out :=
  ev t s fun s =>
    let x := leg s leg_
    if ¬ tbRuns s ∨ legU x s.now ≠ 0 ∨ x.start = some (s.now : Int) then s
    else
      let c := match x.cmpPend with | some l => (List.range 4).zip l | none => x.cmp
      let s1 := bump64 0x1408 leg_ 56 1
        (setLeg leg_ { x with start := some (s.now : Int), fired := 0, cmp := c, cmpPend := none } s)
      let upd := !x.cfg.tri || x.cfg.update != 1
      let s2 := if upd then applyPair leg_ false (tornCheck leg_ s1) else s1
      if brimMode s2 leg_ then s2
      else
        let s3 := if upd then formDuty leg_ s2 else s2
        let y := leg s3 leg_
        let fresh := y.enabled && y.mitten && y.leaving.isSome
        let s4 := if fresh then
            (if y.cfg.indep then leaveIndep leg_ s3
             else leaveMitten leg_ (8 * s3.now) false (setLeg leg_ { y with carry := 0 } s3))
          else s3
        if (leg s4 leg_).mitten then s4
        else if y.cfg.indep then indepPeriod leg_ fresh s4
        else compPeriod leg_ fresh s4

/-- The second half-period of a COMPLEMENTARY leg after an apex update (R151); `old` is T_on of the boundary. -/
def apexComp (n old : Nat) (s : State) : State :=
  let x := leg s n
  match x.out, x.hi with
  | true, some (a, _) =>
    let f := 8 * s.now + x.tOn / 2
    let lb := a + 8 * (x.dtR + x.cfg.minPulse)
    setLeg n { x with hi := some (a, max f lb), carry := x.carry - ((lb - f : Nat) : Int) } s
  | _, _ =>
    setLeg n { x with hi := none, carry := x.carry - ((old + 1) / 2 : Nat) + (x.tOn / 2 : Nat) } s

/-- The second half-period of an INDEPENDENT leg after an apex update (R151); it has no carry (R155). -/
def apexIndep (n : Nat) (s : State) : State :=
  let x := leg s n
  let tb := dutyFine x.pair.dutyB x.pair.period
  let onB := if tb < x.cfg.minPulse * 8 then 0 else tb
  let hi := match x.hi with
    | some (a, b) => if a ≤ 8 * s.now ∧ 8 * s.now < b then some (a, max (8 * s.now + x.tOn / 2) (a + 8 * (x.dtR + x.cfg.minPulse)))
      else some (a, b)
    | none => none
  let lo := match x.lo with | some (a, _) => some (a, 8 * s.now + 4 * x.pair.period - onB / 2) | none => none
  setLeg n { x with hi := hi, lo := lo } s

/-- At the TRI apex a pending pair or a re-evaluated duty governs the second half-period (R151). -/
def execLegApexUpdate (t leg_ : Nat) (s : State) : Out :=
  ev t s fun s =>
    let x := leg s leg_
    if ¬ tbRuns s ∨ ¬ x.cfg.tri ∨ x.cfg.update = 0 ∨ legU x s.now ≠ x.pair.period / 2 then s
    else
      let s1 := tornCheck leg_ s
      let s2 := applyPair leg_ true s1
      if brimMode s2 leg_ then s2
      else
        let applied := x.pend.isSome && (leg s2 leg_).pend.isNone
        let moving := applied || x.cfg.sine || s2.angle.bind.any fun b => b.kind == 2 && b.target == leg_
        let s3 := formDuty leg_ s2
        if (leg s3 leg_).mitten ∨ ¬ moving then s3
        else if x.cfg.indep then apexIndep leg_ s3
        else compEdges leg_ (apexComp leg_ x.tOn s3)

/-! ### Dead time (R152, R153) -/

/-- After the effective dead time the incoming gate is asserted (R152). -/
def execDeadTimeExpiry (t leg_ : Nat) (s : State) : Out :=
  ev t s fun s =>
    let x := leg s leg_
    match x.assertAt with
    | none => s
    | some (high, f) =>
      if reached s (f / 8) then
        let c := (x.commut high).map fun (c : Commut) => { c with onAt := some f }
        request leg_ f high (!high) (setLeg leg_ ({ x with assertAt := none }.setCommut high c) s)
      else s

/-- LEGn_NODE changes (R153): a natural commutation moves the dead time, a forced one is counted. -/
def execNodeCommutation (t leg_ : Nat) (level : Bool) (s : State) : Out :=
  ev t s fun s =>
    let x := leg s leg_
    let s1 := setLeg leg_ { x with node := level } s
    -- a move toward the upper rail answers a rising edge, one toward the lower rail a falling edge
    let rise := level != x.cfg.nodePol
    match x.commut rise with
    | none => s1
    | some c =>
      if ¬ x.cfg.adapt ∨ x.mitten ∨ level = x.node then s1
      else
        let dt : Nat := if rise then x.dtR else x.dtF
        match c.onAt with
        | none =>
          let meas : Rat := ((8 * s.now - c.tOff : Nat) : Rat) / 8
          setDt leg_ rise (rnd ((dt : Rat) + (meas + x.cfg.dtMargin - dt) / 2 ^ x.cfg.dtShift)) 0 s1
        | some f =>
          if s.now ≤ f / 8 + x.cfg.dtMax then setDt leg_ rise dt 0 (bump 0x1408 leg_ 40 s1) else s1

/-- No node transition within DT_MAX of the asserting edge (R153). -/
def execCommutationWatchEnd (t leg_ : Nat) (s : State) : Out :=
  ev t s fun s =>
    [true, false].foldl
      (fun a rise =>
        let x := leg a leg_
        match x.commut rise with
        | some { tOff := _, onAt := some f } =>
          if x.cfg.adapt ∧ ¬ x.mitten ∧ reached a (f / 8 + x.cfg.dtMax) then nodeMiss leg_ rise a else a
        | _ => a) s

/-! ### Refresh guard (R157) -/

/-- GL has been off for REFRESH_MAX: at the next boundary in carrier mode, at once in Brim mode. -/
def execRefreshGuard (t leg_ : Nat) (s : State) : Out :=
  ev t s fun s =>
    let x := leg s leg_
    match x.offSince with
    | none => s
    | some o =>
      if x.cfg.refreshEn ∧ x.enabled ∧ ¬ x.mitten ∧ ¬ x.gl ∧ x.refreshTo.isNone ∧ reached s (o + x.cfg.refreshMax) then
        if brimMode s leg_ then setOut leg_ (8 * s.now) false (forceLow leg_ true s)
        else setLeg leg_ { x with refreshDue := true } s
      else s

/-- The level that a leg's Brim channel requires of it: a two-level leg follows LEVEL, or the decision deferred to this instant
(R157; 04_brim_engine.md R105). -/
def brimWants (s : State) (n : Nat) : Bool :=
  match chanOfLeg s n with
  | some c =>
    let x := chan s c
    match x.pend with
    | some p => if p.deferred && decide (p.at_ ≤ s.now) then p.up else decide (0 < x.level)
    | none => decide (0 < x.level)
  | none => false

/-- The forced refresh low ends; in Brim mode the leg returns to what the channel requires (R157). -/
def execRefreshLowEnd (t leg_ : Nat) (s : State) : Out :=
  ev t s fun s =>
    let x := leg s leg_
    match x.refreshTo with
    | none => s
    | some e =>
      if reached s e then
        let s1 := setLeg leg_ { x with refreshTo := none } s
        if x.mitten then s1
        else if brimMode s leg_ then (if brimWants s leg_ then setOut leg_ (8 * s.now) true s1 else s1)
        else if x.cfg.indep then indepEdges leg_ s1
        else compEdges leg_ s1
      else s

/-! ### Interlock (R158) -/

/-- DT_MAX after an overlap has passed: the gate still requested is asserted. -/
def execInterlockBlankEnd (t leg_ : Nat) (s : State) : Out :=
  ev t s fun s =>
    let x := leg s leg_
    match x.blankTo with
    | none => s
    | some e =>
      if reached s (e / 8) ∧ ¬ (x.reqH ∧ x.reqL) then request leg_ e x.reqH x.reqL (setLeg leg_ { x with blankTo := none } s)
      else s

/-- Ticks at which the count of overlaps was last above OVL_LIMIT: the end of the last such stretch. -/
def overlapEnd (x : Leg) : Nat :=
  let w := usT x.cfg.ovlWin
  let n := x.ovl.length
  (List.range n).foldl
    (fun m i =>
      let a := x.ovl.getD i 0
      if i + x.cfg.ovlLimit < n ∧ x.ovl.getD (i + x.cfg.ovlLimit) 0 < a + w then max m (a + w) else m) 0

/-- A full OVL_WIN has passed with the count at or below OVL_LIMIT (R158). -/
def execOvlWinElapsed (t leg_ : Nat) (s : State) : Out :=
  ev t s fun s =>
    let x := leg s leg_
    if x.ovlOn ∧ reached s (overlapEnd x + usT x.cfg.ovlWin) then setLeg leg_ { x with ovlOn := false } s else s

/-! ### Enable, disable and mitten (R160 to R163) -/

/-- OP_LEG_DISABLE (R160): the legs enter mitten at the tick after the command. -/
def execOpLegDisable (r : Req) (s : State) : Out :=
  runOp { code := 0x1406, states := stIARTS } r s fun p s =>
    chk [lenIs p 8, maskOk p] fun _ =>
      .done (disableLegs (legsOf p) 1 (s.now + 1) true s)

/-- Why OP_LEG_ENABLE refuses a leg with ST_REFUSED (R161); a disabled fault input is ignored (07_gauntlet.md R168). -/
def enableRefused (s : State) (n : Nat) : Bool :=
  let off := match chanOfLeg s n with | some c => (s.gfm.map.getD c {}).src == 0 | none => false
  mittenAsserted s || ((finput s n).asserted && s.gnt.enable.testBit n) || off || (leg s n).reactAt == some s.now

/-- A masked leg belongs to a level map whose other legs are not all masked (R161). -/
def mapTorn (s : State) (ls : List Nat) (n : Nat) : Bool :=
  match chanOfLeg s n with
  | some c => (chan s c).cfg.isMap && !(chan s c).cfg.legs.all fun k => ls.contains k
  | none => false

/-- Enable a leg: it leaves mitten at its next boundary or its channel's slot (R161). While MITTEN_N holds the legs in mitten,
they stay disabled (07_gauntlet.md R181). -/
def enableLeg (s : State) (n : Nat) : State :=
  let x := leg s n
  if x.enabled ∨ s.gnt.mitQual then s
  else
    raise 0x1407 n []
      (setLeg n { x with enabled := true, leaving := some s.now, dtR := x.cfg.dtRise, dtF := x.cfg.dtFall, missR := 0,
                         missF := 0, carry := 0, refreshDue := false, offSince := if x.gl then none else some s.now } s)

/-- OP_LEG_ENABLE (R161). -/
def execOpLegEnable (r : Req) (s : State) : Out :=
  runOp { code := 0x1407, states := stR } r s fun p s =>
    let ls := legsOf p
    chk [lenIs p 8, maskOk p] fun _ =>
      match ls.find? (enableRefused s) with
      | some n => .no .refused n
      | none =>
        match ls.find? (mapTorn s ls) with
        | some n => .no .badParam n
        | none => .done (ls.foldl enableLeg s)

/-- The MIT_DELAY hold ends and the pattern follows (R163). -/
def execMitDelayHoldEnd (t leg_ : Nat) (s : State) : Out :=
  evAny t s fun s =>
    let x := leg s leg_
    match x.hold with
    | none => s
    | some (_, e) => if due s e then applyPattern leg_ (8 * s.now) (setLeg leg_ { x with hold := none } s) else s

/-- The other gate has been off for DT_MAX: the pattern's gate is asserted (R163). -/
def execMittenAssertWaitEnd (t leg_ : Nat) (s : State) : Out :=
  ev t s fun s =>
    let x := leg s leg_
    match x.wait with
    | none => s
    | some (pat, e) =>
      if x.mitten ∧ reached s (e / 8) then request leg_ e (pat.testBit 1) (pat.testBit 0) (setLeg leg_ { x with wait := none } s)
      else s

/-! ### Status (R166) -/

/-- FLAGS of a leg (Table 6.8). -/
def legFlags (s : State) (n : Nat) : Nat :=
  let x := leg s n
  let lim (d : Nat) : Bool := d == x.cfg.dtMin || d == x.cfg.dtMax
  let many := decide (x.cfg.ovlLimit < (x.ovl.filter fun t => decide (s.now < t + usT x.cfg.ovlWin)).length)
  b2n x.refreshTo.isSome + 2 * b2n many + 4 * b2n (x.cfg.adapt && (lim x.dtR || lim x.dtF)) +
    8 * b2n (decide (16 ≤ x.missR) || decide (16 ≤ x.missF)) + 16 * b2n (brimMode s n) + 32 * b2n x.enabled +
    64 * b2n x.mitten + 128 * b2n x.hold.isSome + 256 * b2n x.pend.isSome + 512 * b2n (x.wroteP != x.wroteD)

/-- OP_LEG_GET_STATUS (R166). -/
def execOpLegGetStatus (r : Req) (s : State) : Out :=
  runOp { code := 0x1408, states := stIARTS } r s fun p s =>
    oneByte p 47 fun n =>
      let x := leg s n
      let c (o : Nat) : Bytes := le 4 (c32 s 0x1408 n o)
      .give s (le 4 x.pair.period ++ leI 4 x.dutyTot ++ leI 4 x.carry ++ le 2 x.dtR ++ le 2 x.dtF ++ le 2 (legFlags s n) ++
        le 2 0 ++ c 24 ++ c 28 ++ c 32 ++ c 36 ++ c 40 ++ c 44 ++ c 48 ++ c 52 ++ le 8 (c64 s 0x1408 n 56))

end Sys2Proof.Machine
end

