-- ==== Sys2Proof/Machine/BrimOps.lean ====
section
/-! DEFINITION. What the Brim engine computes on a sample: current, reference, band, prediction, level maps and the
minimum times (04_brim_engine.md R94 to R112). -/

namespace Sys2Proof.Machine

open Sys2Proof

/-! ### Configuration bits (Table 4.2) -/

def ChanCfg.shapeEn (c : ChanCfg) : Bool := c.ctrl.testBit 1
def ChanCfg.bandMode (c : ChanCfg) : Nat := bits c.ctrl 3 2
def ChanCfg.pol (c : ChanCfg) : Bool := c.ctrl.testBit 4
def ChanCfg.predict (c : ChanCfg) : Bool := c.ctrl.testBit 5
/-- Source converter and select. -/
def ChanCfg.conv (c : ChanCfg) : Nat := c.src % 16
def ChanCfg.sel (c : ChanCfg) : Nat := bits c.src 7 4

/-- The binding of a channel (02_grid_forming.md R53). -/
def chMap (s : State) (ch : Nat) : ChMap := s.gfm.map.getD ch {}

/-! ### Reference, band and prediction -/

/-- The PHASE expression with an angle offset; both laws of a hand-over blend are mixed (02_grid_forming.md R53,
03_grid_events.md R77). -/
def phaseExpr (s : State) (phi t : Nat) : Rat :=
  let p := s.gfm.inForce
  let dt := fNom s * (tickSec t - tickSec p.tick)
  let a := (if p.ok then p.thetaPub + p.w * dt else thetaAt s t) - turnOf phi
  let out := p.iD * cosT a - p.iQ * sinT a
  let b := p.mixTheta + p.mixW * dt - turnOf phi
  if p.mixL = 0 then out else (1 - p.mixL) * out + p.mixL * (p.mixD * cosT b - p.mixQ * sinT b)

/-- The mapped reference of a channel, before bindings and injection (02_grid_forming.md R53; DESIGN CHOICE,
notes/assumptions/182.md). -/
def mapRef (s : State) (ch t : Nat) : Rat :=
  let m := chMap s ch
  let g := s.gfm.inForce.k * puOf m.gain
  let circ := s.gfm.inForce.circ.getD ((chan s ch).cfg.arm % 3) 0
  match m.src with
  | 1 => g * phaseExpr s m.phi t
  | 2 => g * (phaseExpr s m.phi t / 2 + circ)
  | 3 => g * (-(phaseExpr s m.phi t) / 2 + circ)
  | 4 => g * puOf m.value
  | _ => 0

/-- The injection at the BRIM point (05_angle_tables_injection.md R130, R133). -/
def brimInj (s : State) (ch t : Nat) : Rat :=
  match s.angle.injCfg with
  | some c => if (u64 c 4).testBit ch then injAt s 4 t else 0
  | none => 0

/-- ref(t_x): the mapped reference with its REF_ADD terms and the injection (05_angle_tables_injection.md R130), all of it
ramped to zero by a stop (01_architecture.md R28). -/
def refAt (s : State) (ch t : Nat) : Rat :=
  if (chMap s ch).src = 0 then mapRef s ch t else mapRef s ch t + s.gfm.inForce.k * (angSum s 1 ch t + brimInj s ch t)

/-- The measured current of a code (R100). -/
def brimCurrent (c : ChanCfg) (code : Int) : Rat :=
  let i : Rat := ((code - c.ofsCode : Int) : Rat) * puOf c.scale / 32768
  clampQ (-16) (16 - 1 / 2 ^ 27) (if c.pol then -i else i)

/-- b_s: BAND in FIXED, else the servo output (R104). -/
def bandServo (x : Chan) : Rat := if x.cfg.bandMode = 0 then puOf x.cfg.band else x.bS

/-- band_eff at an evaluation instant (R104). -/
def bandEff (s : State) (ch t : Nat) : Rat :=
  let x := chan s ch
  let b := bandServo x
  if x.cfg.shapeEn then
    clampQ (puOf x.cfg.bandMin) (puOf x.cfg.bandMax) (b * puOf (angAt s (x.cfg.shapeAt % 8) t (chMap s ch).phi))
  else b

/-- Mean of a list. -/
def mean (l : List Rat) : Rat := l.sum / l.length

/-- The slope of a full window in pu per ms, newest sample first; none where a sample was not usable (R112). -/
def windowSlope (w ts : Nat) (l : List (Option Rat)) : Option Rat :=
  if l.length < w ∨ ts = 0 then none
  else
    let k := (l.take w).filterMap id
    if k.length < w then none
    else some ((mean (k.take (w / 2)) - mean (k.drop (w / 2))) / ((w / 2 : Nat) * (tickSec ts * 1000)))

/-- predict() (R112). -/
def predictI (x : Chan) (i : Rat) (ts tx : Nat) : Rat :=
  let ms (a b : Nat) : Rat := tickSec (b - a) * 1000
  let sum := (x.issued.filter fun k => decide (ts < k.2) && decide (k.2 < tx)).foldl
    (fun a k => a + puOf x.cfg.slopeStep * (if k.1 then 1 else -1) * ms k.2 tx) 0
  i + x.slope * ms ts tx + sum

/-! ### Level maps (R108 to R110) -/

/-- The commanded output of each leg of a map in a state (Tables 4.4, 4.5). -/
def mapLegs (c : ChanCfg) (level : Int) (oPlus : Bool) : List (Nat × Bool) :=
  match c.outType with
  | 1 => [(c.legA, decide (0 < level))]
  | 2 => [(c.legA, decide (0 < level)), (c.legB, decide (0 ≤ level))]
  | 3 => [(c.legA, decide (0 < level)), (c.legB, decide (0 ≤ level))]
  | 4 => [(c.legA, decide (0 < level)), (c.legB, decide (0 ≤ level)), (c.legC, decide (0 < level) || (level == 0 && oPlus))]
  | _ => []

/-- States of a channel's output: level and, for ANPC3, which zero state. -/
def mapStates (outType : Nat) : List (Int × Bool) :=
  match outType with
  | 1 => [(0, true)]
  | 4 => [(1, true), (0, true), (0, false), (-1, false)]
  | _ => [(1, true), (0, true), (-1, true)]

/-- The state that the legs' mitten patterns represent; else O or O+ (R110). -/
def mapResume (s : State) (c : ChanCfg) : Int × Bool :=
  let shows (k : Nat) (high : Bool) : Bool := (leg s k).cfg.mitten % 4 == (if high then 2 else 1)
  if c.outType = 1 then (0, true)
  else
    ((mapStates c.outType).find? fun st => (mapLegs c st.1 st.2).all fun l => shows l.1 l.2).getD (0, true)

/-- The state after a step up or down, and the one after the second change of a chain (R108, R109). -/
def mapNext (outType : Nat) (level : Int) (oPlus up : Bool) : (Int × Bool) × Option (Int × Bool) :=
  if outType = 4 then
    if up then
      if level < 0 then ((0, false), none) else if oPlus then ((1, true), none) else ((0, true), some (1, true))
    else if 0 < level then ((0, true), none) else if oPlus then ((0, false), some (-1, false)) else ((-1, false), none)
  else ((if up then level + 1 else level - 1, true), none)

/-! ### What a channel's output is -/

/-- Every leg of the channel is enabled and out of mitten. -/
def legsLive (s : State) (c : ChanCfg) : Bool := c.legs.all fun k => (leg s k).enabled && !(leg s k).mitten

/-- Every leg of the channel is enabled and waits to leave mitten. -/
def legsWaiting (s : State) (c : ChanCfg) : Bool := c.legs.all fun k => (leg s k).enabled && (leg s k).mitten && (leg s k).leaving.isSome

/-- The channel takes part in RUN: its source is not OFF and the device holds the cap (R96, R97). -/
def chanOn (s : State) (ch : Nat) : Bool := s.sys.state == .run && holds s && (chMap s ch).src != 0

/-- Decisions reach the output (R96). -/
def chanLive (s : State) (ch : Nat) : Bool :=
  let c := (chan s ch).cfg
  match c.outType with
  | 0 => false
  | 5 => chanOn s ch && (arm s c.arm).liveFrom.isSome
  | _ => chanOn s ch && legsLive s c

/-- The state against which a sample is decided: the output's, the one it would resume from, the ranker's books for an
arm, or the notional output (R94, R110, R121). -/
def chanState (s : State) (ch : Nat) : Int × Bool :=
  let x := chan s ch
  match x.cfg.outType with
  | 0 => (x.level, true)
  | 5 => (armLevel s x.cfg.arm, true)
  | _ => if x.taken || legsLive s x.cfg then (x.level, x.oPlus) else mapResume s x.cfg

/-- Top and bottom level of a channel (R102). -/
def chanBounds (s : State) (ch : Nat) : Int × Int :=
  let c := (chan s ch).cfg
  match c.outType with
  | 0 => (0, 1)
  | 1 => (0, 1)
  | 5 => let n : Int := (usableCells s c.arm).length; (-n, n)
  | _ => (-1, 1)

/-! ### Minimum times (R105, 06_legs_pwm.md R156, R157) -/

/-- The earliest tick of a leg's next change: its own minimum in the present state, and a forced refresh low. -/
def legEarliest (s : State) (k : Nat) (high : Bool) : Nat :=
  let x := leg s k
  if x.mitten then 0
  else
    let own := match x.outAt with
      | some t => if x.out = high then 0 else t + (if x.out then x.dtR else x.dtF) + x.cfg.minPulse
      | none => 0
    max own (match x.refreshTo with | some e => if high then e else 0 | none => 0)

/-- The end of a two-level leg's forced refresh low, to which decisions within it are deferred; 0 where there is none
(06_legs_pwm.md R157). -/
def refreshHold (s : State) (ch : Nat) : Nat :=
  let c := (chan s ch).cfg
  match (leg s c.legA).refreshTo with
  | some e => if c.outType = 1 ∧ s.now < e then e else 0
  | none => 0

/-- The earliest tick of a channel's next change in a direction. -/
def chanEarliest (s : State) (ch : Nat) (next : Int × Bool) : Nat :=
  let x := chan s ch
  let min_ := match x.lastAt with | some t => t + (if x.lastUp then x.cfg.minOn else x.cfg.minOff) | none => 0
  let own := max min_ (refreshHold s ch)
  (mapLegs x.cfg next.1 next.2).foldl (fun m l => if (leg s l.1).out = l.2 then m else max m (legEarliest s l.1 l.2)) own

/-- From the first change of an ANPC3 chain to its second: LEG_C's dead time and T_CHAIN (R109). -/
def chainLag (s : State) (c : ChanCfg) (up : Bool) : Nat :=
  (if up then (leg s c.legC).dtR else (leg s c.legC).dtF) + c.tChain

/-- The earliest tick of a change in a direction; the second change of a chain keeps its own leg's minimum, too (R156). -/
def stepEarliest (s : State) (ch : Nat) (nx : (Int × Bool) × Option (Int × Bool)) (up : Bool) : Nat :=
  let c := (chan s ch).cfg
  let first := chanEarliest s ch nx.1
  match nx.2 with
  | none => first
  | some st =>
    (mapLegs c st.1 st.2).foldl
      (fun m l => if l.1 = c.legC ∨ (leg s l.1).out = l.2 then m else max m (legEarliest s l.1 l.2 - chainLag s c up)) first

/-! ### Changes of the output -/

/-- Count a level change (R104, R121). -/
def countChange (ch : Nat) (up : Bool) (at_ : Nat) (s : State) : State :=
  let x := chan s ch
  bump64 0x1203 ch 24 1 (setChan ch { x with n := x.n + 1, lastUp := up, lastAt := some at_ } s)

/-- Bring the legs of a channel to the state it stands in, at a tick. -/
def driveLegs (ch fine : Nat) (s : State) : State :=
  let x := chan s ch
  (mapLegs x.cfg x.level x.oPlus).foldl (fun a l => setOut l.1 fine l.2 a) s

/-- The legs leave mitten at a slot, in the state the channel resumes from (06_legs_pwm.md R161); after a take of the cap at the
channel's present decision (14_twin.md R344). A leg with REFRESH_EN leaves low, into the forced low of 06_legs_pwm.md R157
(DEDUCED, notes/assumptions/192.md). -/
def releaseLegs (ch fine : Nat) (s : State) : State :=
  let x := chan s ch
  let st := if x.taken then (x.level, x.oPlus) else mapResume s x.cfg
  let s1 := setChan ch { x with level := st.1, oPlus := st.2, release := none, taken := false } s
  (mapLegs x.cfg st.1 st.2).foldl
    (fun a l =>
      let a1 := leaveMitten l.1 fine (l.2 && !(leg a l.1).cfg.refreshEn) (setLeg l.1 { leg a l.1 with carry := 0 } a)
      if (leg a1 l.1).cfg.refreshEn then forceLow l.1 false a1 else a1) s1

/-- Make the first change of a pending transition, or its second (R106, R109). -/
def makeChange (ch : Nat) (p : Pend) (s : State) : State :=
  let x := chan s ch
  let nx := mapNext (if x.cfg.outType = 4 then 4 else 1) x.level x.oPlus p.up
  let fine := 8 * p.at_
  if p.second then
    let s1 := setChan ch { x with level := if p.up then 1 else -1, oPlus := p.up, pend := none } s
    driveLegs ch fine (countChange ch p.up p.at_ s1)
  else
    let y := { x with level := nx.1.1, oPlus := nx.1.2 }
    match nx.2 with
    | none => driveLegs ch fine (countChange ch p.up p.at_ (setChan ch { y with pend := none } s))
    | some _ =>
      let q := { p with at_ := p.at_ + chainLag s x.cfg p.up, second := true, deferred := false }
      driveLegs ch fine (setChan ch { y with pend := some q } s)

/-! ### Arms (R113 to R116) and look-ahead plans (14_twin.md R336) -/

/-- A forecast level change: cell, state and tick. -/
abbrev Plan := List (Nat × Nat × Nat)

/-- Decide the forecast at a tick on the hypothetical books `f`: the change, if any, and the books after it. -/
def forecastAt (f : State) (ch t : Nat) : Option (Nat × Nat × Nat) × State :=
  let x := chan f ch
  let i := predictI x x.lastI x.lastSample t
  let lim := puOf x.cfg.iClamp
  let e := clampQ (-lim) lim (refAt f ch t) - i
  let b := bandEff f ch t
  let up := decide (b < e)
  let bnd := chanBounds f ch
  let lvl := armLevel f x.cfg.arm
  if (¬ up ∧ ¬ e < -b) ∨ (up ∧ bnd.2 ≤ lvl) ∨ (¬ up ∧ lvl ≤ bnd.1) then (none, f)
  else
    let at_ := max t (match x.lastAt with | some l => l + (if x.lastUp then x.cfg.minOn else x.cfg.minOff) | none => 0)
    match pick f x.cfg.arm up i at_ with
    | none => (none, f)
    | some (id, st, _) =>
      let g := setCell id { cell f id with cmdState := some (st, at_) } f
      (some (id, st, at_), setChan ch { x with lastUp := up, lastAt := some at_, issued := x.issued ++ [(up, at_)] } g)

/-- The forecast over the horizon, decided at every ACQ instant of it (DESIGN CHOICE, notes/assumptions/24.md). -/
def forecast (fuel ch t end_ : Nat) (f : State) : Plan :=
  match fuel with
  | 0 => []
  | n + 1 =>
    if end_ < t then []
    else
      match forecastAt f ch t with
      | (none, g) => forecast n ch (t + 80) end_ g
      | (some p, g) => if end_ < p.2.2 then [] else p :: forecast n ch (max (t + 80) p.2.2) end_ g

/-- Plan fields of a command: ticks after the event before it, at least 320 (11_strands_cells.md Table 11.5). -/
def planFields (from_ : Nat) : List (Nat × Nat) → List (Nat × Nat)
  | [] => []
  | (t, st) :: r => let d := max 320 (t - from_); (d, st) :: planFields (from_ + d) r

/-- The forecast changed the plan of a cell, at most three events: one added, removed, or moved by more than PLAN_TOL (14_twin.md
R336). -/
def planMoved (tol : Nat) (a c : List (Nat × Nat)) : Bool :=
  let b := c.take 3
  a.length != b.length ||
    (a.zip b).any fun x => x.1.2 != x.2.2 || decide (tol < x.1.1 - x.2.1) || decide (tol < x.2.1 - x.1.1)

/-- The plan of one cell in a forecast: its events in time order. -/
def planFor (p : Plan) (id : Nat) : List (Nat × Nat) := (p.filter fun x => x.1 == id).map fun x => (x.2.2, x.2.1)

/-- Send a cell's command or refresh with its plan, and keep what was sent; events beyond three are counted. A version 1.2 cell
carries no plan (14_twin.md R339). -/
def sendPlanned (id st execAt : Nat) (events : List (Nat × Nat)) (s : State) : State :=
  let plan := if (cell s id).ver = 0x12 then [] else events
  let kept := plan.take 3
  let s1 := if 3 < plan.length then bumpN 0x2403 0 36 (plan.length - 3) s else s
  sendUnicast id st execAt (planFields execAt kept) (setCell id { cell s1 id with plan := kept } s1)

/-- Recompute an arm channel's forecast: the cell just commanded gets its command, every other cell whose plan has
changed a refresh (14_twin.md R336). Without twin operation no command carries a plan. -/
def replan (ch : Nat) (cmd : Option (Nat × Nat × Nat)) (s : State) : State :=
  let a := (chan s ch).cfg.arm
  if s.twin.enable ∧ s.twin.holder ∧ s.sys.state = .run then
    let from_ := s.now + armD s a
    let fc := forecast (s.twin.planH / 80 + 1) ch from_ (from_ + s.twin.planH) s
    (arm s a).cells.foldl
      (fun (t : State) id =>
        let plan := planFor fc id
        match cmd with
        | some (c, st, at_) =>
          if c = id then sendPlanned id st at_ (plan.filter fun e => decide (at_ < e.1)) t
          else if (cell t id).ver ≠ 0x12 ∧ planMoved t.twin.planTol (cell t id).plan plan then
            sendPlanned id (cmdOf t id) from_ plan t
          else t
        | none =>
          if (cell t id).ver ≠ 0x12 ∧ planMoved t.twin.planTol (cell t id).plan plan then
            sendPlanned id (cmdOf t id) from_ plan t
          else t) s
  else match cmd with
    | some (c, st, at_) => sendUnicast c st at_ [] s
    | none => s

/-- An arm's level change with an execute-at: one command to the cell the ranker picks; nothing where no cell can be
picked (R114, R115). -/
def armChange (ch : Nat) (up : Bool) (execAt : Nat) (s : State) : State :=
  let x := chan s ch
  match pick s x.cfg.arm up x.lastI execAt with
  | none => raiseFirst 0x1204 ch ch [] (bump 0x1203 ch 52 s)
  | some (id, st, rested) =>
    let s1 := setCell id { cell s id with cmdState := some (st, execAt) } { s with draws := s.draws + 1 }
    let s2 := countChange ch up execAt (setChan ch { x with issued := x.issued ++ [(up, execAt)] } s1)
    let s3 := replan ch (some (id, st, execAt)) s2
    if rested then raiseFirst 0x1206 ch ch [] (bump 0x1203 ch 56 s3) else s3

/-! ### Requests (R102, R103, R105, R106) -/

/-- Place a request: its slot or execute-at, deferred where a minimum time would be broken. -/
def requestChange (ch : Nat) (up : Bool) (ts : Nat) (slips : Bool) (s : State) : State :=
  let x := chan s ch
  let isArm := x.cfg.outType == 5
  let st := chanState s ch
  let nx := mapNext (if x.cfg.outType = 4 then 4 else 1) st.1 st.2 up
  let own := if isArm then ts + armD s x.cfg.arm else ts + x.cfg.tOut
  let slip := slips && !isArm
  let slot := if slip then own + 80 else own
  let early := stepEarliest s ch nx up
  let s1 := if slip then raiseFirst 0x1205 ch ch [] (bump 0x1203 ch 44 s) else s
  let p : Pend := { up := up, ts := ts, at_ := max slot early, deferred := decide (slot < early), slipped := slip,
                    chain := nx.2.isSome }
  if slot < early then
    setChan ch { chan s1 ch with pend := some p } (bump64 0x1203 ch 16 (early - slot) (bump 0x1203 ch 32 s1))
  else if isArm then armChange ch up slot s1
  else setChan ch { chan s1 ch with pend := some p } s1

/-! ### Servo (R104) -/

/-- The lower bound of the servo. -/
def bandLower (c : ChanCfg) : Rat := if c.bandMode = 2 then puOf c.band else puOf c.bandMin

/-- A b_s stands at a limit of its servo (BAND_AT_LIMIT, Table 4.9). -/
def bandAtLimit (c : ChanCfg) (b : Rat) : Bool := c.bandMode != 0 && (b == bandLower c || b == puOf c.bandMax)

/-- The band servo of one channel at a boundary in RUN, over the step just ended. A b_s that stands at a servo limit is held
there, a step with a clamp decision included (Tables 4.9, 4.10). -/
def servoStep (ch : Nat) (dt : Rat) (s : State) : State :=
  let x := chan s ch
  if ¬ x.written then s
  else
    let ft : Rat := x.cfg.fTgt
    let tServo : Rat := (x.cfg.tServo : Rat) / 1000000
    let f := x.fMeas + ((x.n : Rat) / (2 * dt) - x.fMeas) * dt / (tServo / 4 + dt)
    let y := { x with fMeas := f, n := 0, clampStep := false }
    if x.cfg.bandMode = 0 then setChan ch { y with bandHeld := false } s
    else
      let b := if x.clampStep ∨ ft = 0 then x.bS else x.bS * (1 + (f - ft) / ft * dt / tServo)
      let c := clampQ (bandLower x.cfg) (puOf x.cfg.bandMax) b
      let held := bandAtLimit x.cfg c
      let s1 := setChan ch { y with bS := c, bandHeld := held } s
      if held then raiseFirst 0x1203 ch ch [] s1 else s1

/-- Every entry to RUN: the servo restarts, slopes start at zero and notional outputs are low (R94, R104, R112). What is
pending on a notional output, and the instant of its last change, go with it (DESIGN CHOICE, notes/assumptions/163.md). -/
def brimEnterRun (s : State) : State :=
  { s with chan := s.chan.map fun e =>
      (e.1, { e.2 with bS := puOf e.2.cfg.band, fMeas := e.2.cfg.fTgt, n := 0, clampStep := false, win := [], slope := 0,
                       level := if e.2.cfg.outType = 0 then 0 else e.2.level, issued := [], lastAt := none, pend := none,
                       bandHeld := e.2.written && bandAtLimit e.2.cfg (puOf e.2.cfg.band) }) }

/-- A channel's configuration takes effect on both paths (R98, R120); a leg that changes between carrier and Brim mode
loses its carry (06_legs_pwm.md R154). -/
def takeChan (ch : Nat) (c : ChanCfg) (s : State) : State :=
  let x := chan s ch
  let fresh := !x.written || x.cfg.bandMode == 0
  let lo := bandLower c
  let b := if c.bandMode = 0 ∨ fresh then puOf c.band else clampQ lo (puOf c.bandMax) x.bS
  let y := { x with cfg := c, written := true, cfgPend := none, bS := b, bandHeld := bandAtLimit c b, pathB := none }
  let moved := (x.cfg.legs ++ c.legs).filter fun k => !(x.cfg.legs.contains k && c.legs.contains k)
  let z := if x.cfg.outType = c.outType then y else { y with level := 0, oPlus := true, pend := none, release := none, lastAt := none }
  moved.foldl (fun a k => setLeg k { leg a k with carry := 0 } a) (setChan ch z s)

end Sys2Proof.Machine
end

