-- ==== Sys2Proof/Machine/GfmLaw.lean ====
section
/-! DEFINITION. The control laws of an outer step: measurement, observer, droop, swing, output structures, current
limit, GF/CL, GFL, BS and the laws' start states (02_grid_forming.md R42 to R57, 03_grid_events.md R64 to R86). -/

namespace Sys2Proof.Machine

open Sys2Proof

/-! ### Measurement (01_architecture.md R17, 02_grid_forming.md R35; 09_filters.md R230) -/

/-- What a chain had delivered before the present tick: an output delivered at a boundary belongs to the next step
(01_architecture.md R17, 09_filters.md R229). -/
def viewAt (s : State) (n : Nat) : FView :=
  let x := fchain s n
  if x.viewAt = some s.now then x.viewOld else x.view

/-- The fast-path code of a chain at 256 per code of Table 8.5: the newest valid output, or, where none has been valid, the
newest (09_filters.md R230; DEDUCED, notes/assumptions/149.md). -/
def fastCode (s : State) (n : Nat) : Int :=
  let v := viewAt s n
  wCode (v.fastGood.getD (v.fast.getD 0)) * 256

/-- The code of a chain that a step uses: the newest fine output without INV, else the fast path (09_filters.md R230). -/
def fineCode (s : State) (n : Nat) : Int :=
  match (viewAt s n).good with | some w => wCode24 w | none => fastCode s n

/-- 1.0 pu of voltage in volts: the peak phase-to-neutral voltage at V_BASE (R34). -/
def vBase (s : State) : Rat := gp s 0x02 * Config.sqrt (2 / 3)

/-- 1.0 pu of current in amperes: the peak phase current at S_BASE and V_BASE (R34). -/
def iBase (s : State) : Rat := gp s 0x01 * 1000 / gp s 0x02 * Config.sqrt (2 / 3)

/-- Three quantities in volts or amperes as the image forms them from a list of codes (DESIGN CHOICE, notes/assumptions/3.md),
on a base. -/
def phases (k : Nat) (base : Rat) (l : List Int) : Rat × Rat × Rat :=
  (Config.measure k l / base, Config.measure (k + 1) l / base, Config.measure (k + 2) l / base)

/-- The space phasor of three phases, peak-based: α and β. -/
def clarke (x : Rat × Rat × Rat) : Rat × Rat :=
  ((2 * x.1 - x.2.1 - x.2.2) / 3, (x.2.1 - x.2.2) / Config.sqrt 3)

/-- A phasor on the axes of an angle in turns (R35). -/
def park (x : Rat × Rat) (th : Rat) : Rat × Rat :=
  (x.1 * cosT th + x.2 * sinT th, x.2 * cosT th - x.1 * sinT th)

/-- Root mean square of line-to-line samples against V_BASE (03_grid_events.md R64). -/
def lineRms (l : List Rat) : Rat := Config.sqrt ((l.map fun x => x * x).sum / l.length * 2 / 3)

/-- The three line-to-line values over the last 1/F_NOM. -/
def lineValues (h : List (Nat × Rat × Rat × Rat)) : List Rat :=
  [lineRms (h.map fun x => x.2.1 - x.2.2.1), lineRms (h.map fun x => x.2.2.1 - x.2.2.2),
   lineRms (h.map fun x => x.2.2.2 - x.2.1)]

/-! ### What a law reads -/

/-- Inputs of one step of a law. -/
structure LawIn where
  dt : Rat
  v : Rat × Rat
  i : Rat × Rat
  wRef : Rat
  lock : Bool
  thG : Rat
  wG : Rat
  vPos : Rat
  /-- Target of the V_SET movement: the staged target, or v_far while synchronising (03_grid_events.md R76). -/
  vTgt : Rat
  /-- Balancing components in the d and q axes (R54). -/
  ns : Rat × Rat
  hold : Bool
  /-- Scale of the T_stop ramp (01_architecture.md R28). -/
  k : Rat := 1
  /-- Injection at P_REF, E_REF, D_AXIS and Q_AXIS (05_angle_tables_injection.md R133). -/
  inj : Rat × Rat × Rat × Rat := (0, 0, 0, 0)

/-- Mean SoC per arm of the main stage that has been heard, as last used: arms 6 and 7 serve auxiliary stages
(04_brim_engine.md R99). -/
def socMeans (s : State) : Tbl Rat := s.gfm.socMean.filter fun e => decide (e.1 < 6)

/-- The arms are bound as a double star (R53, R54): some channel is mapped ARM_UPPER or ARM_LOWER (DESIGN CHOICE,
notes/assumptions/134.md). -/
def doubleStar (s : State) : Bool := s.gfm.map.any fun e => e.2.src == 2 || e.2.src == 3

/-- A balancing component before its limit: K_BAL times the SoC differences of the arms from their mean, each on its
direction (R54). -/
def balRaw (s : State) (k : Nat) : Rat :=
  let m := socMeans s
  let mean := (m.map Prod.snd).sum / m.length
  gpG s 0x27 * (m.map fun e => Config.balance k e.1 * (e.2 - mean)).sum

/-- The negative-sequence component of a star arrangement on axes that turn against the phases, limited to BAL_NS_MAX (R54). -/
def balNs (s : State) : Rat × Rat :=
  if doubleStar s then (0, 0)
  else
    let d := balRaw s 0
    let q := balRaw s 1
    let m := gpPu s 0x25
    if m * m < d * d + q * q then (d * m / mag d q, q * m / mag d q) else (d, q)

/-- i_circ per phase of a double-star arrangement, limited to BAL_CIRC_MAX (R54). -/
def balCirc (s : State) : List Rat :=
  (List.range 3).map fun k => if doubleStar s then clampQ (-(gpPu s 0x26)) (gpPu s 0x26) (balRaw s (2 + k)) else 0

/-- Codes that the control laws and the event quantities read (R42; 03_grid_events.md R64). -/
def fineCodes (s : State) : List Int := (List.range 20).map (fineCode s)
def fastCodes (s : State) : List Int := (List.range 20).map (fastCode s)

/-- Scale of the T_stop ramp at the publish tick of the step of boundary `b` (01_architecture.md R28; DEDUCED,
notes/assumptions/141.md). -/
def stopScale (s : State) (b : Nat) : Rat :=
  match s.sys.trans with
  | some (.stopRamp start ms) => clampQ 0 1 (1 - (((b + s.sys.tPub : Nat) : Int) - start : Int) / (msT (max 1 ms) : Nat))
  | _ => 1

/-- Target of the V_SET movement (03_grid_events.md R76). -/
def vTarget (s : State) (sync : Bool) : Rat :=
  if sync then clampQ (gpPu s 0x15) (gpPu s 0x16) s.gfm.far.lastV else puOf (s.gfm.par.tg gfmTable 0x12)

/-- A setpoint still moves to its target (Table 2.5, RAMP_ACTIVE). -/
def rampOn (s : State) (r : Run) : Bool :=
  decide (r.law.pSet ≠ puOf (s.gfm.par.tg gfmTable 0x0B)) || decide (r.law.qSet ≠ puOf (s.gfm.par.tg gfmTable 0x13)) ||
    decide (r.law.vSet ≠ vTarget s r.syncRun)

/-- What a law reads at a boundary. -/
def lawIn (s : State) (b : Nat) (dt : Rat) : LawIn :=
  let r := s.gfm.run
  { dt := dt, v := clarke (phases 0 (vBase s) (fineCodes s)), i := clarke (phases 3 (iBase s) (fineCodes s)), k := stopScale s b,
    wRef := 1 + (s.gfm.dfSec + r.dfSync) / fNom s, lock := s.gfm.obs.lock, thG := thetaG s b, wG := s.gfm.obs.w,
    vPos := s.gfm.vPos, ns := balNs s, hold := s.grid.clHold,
    inj := (injAt s 0 b, injAt s 1 b, injAt s 2 b, injAt s 3 b),
    vTgt := vTarget s r.syncRun }

/-! ### Parts of the laws -/

/-- Move a value toward a target by at most `step`. -/
def toward (x target step : Rat) : Rat := x + clampQ (-step) step (target - x)

/-- The error beyond a deadband (R42). -/
def deadband (err db : Rat) : Rat := if |err| ≤ db then 0 else if 0 < err then err - db else err + db

/-- θ, the measured powers and the setpoints of a step (R39, R42). -/
def advanceLaw (s : State) (x : LawIn) (l : Law) (theta : Rat) : Law :=
  let v := park x.v theta
  let i := park x.i theta
  let pe := v.1 * i.1 + v.2 * i.2
  let qe := v.2 * i.1 - v.1 * i.2
  { l with theta := theta, pF := l.pF + (pe - l.pF) * x.dt / (gpSec s 0x0F + x.dt),
           qF := l.qF + (qe - l.qF) * x.dt / (gpSec s 0x14 + x.dt),
           pSet := toward l.pSet (puOf (s.gfm.par.tg gfmTable 0x0B)) (gpPu s 0x1D * x.dt),
           qSet := toward l.qSet (puOf (s.gfm.par.tg gfmTable 0x13)) (gpPu s 0x1E * x.dt),
           vSet := toward l.vSet x.vTgt (gpPu s 0x1F * x.dt) }

/-- p_ref before and after its clamp (R42, R55). -/
def droopP (s : State) (pSet wRef w : Rat) : Rat × Rat :=
  let raw := pSet + deadband (wRef - w) (gpHz s 0x0A / fNom s) / gpPu s 0x09
  (raw, clampQ (gpPu s 0x0D) (gpPu s 0x0C) raw)

/-- The speed band (R42). -/
def wBand (s : State) : Rat × Rat := (1 - gpHz s 0x0E / fNom s, 1 + gpHz s 0x0E / fNom s)

/-- The output structure with integrators held or not (R50): ic and the integrators. -/
def outStruct (s : State) (x : LawIn) (l : Law) (held : Bool) : (Rat × Rat) × Law :=
  let v := park x.v l.theta
  let i := park x.i l.theta
  let rv := gpPu s 0x17
  let xv := gpPu s 0x18
  if gp s 0x04 = 1 then
    let dd := l.eRef - v.1
    let dq := -v.2
    let z2 := rv * rv + xv * xv
    (((rv * dd + xv * dq) / z2, (rv * dq - xv * dd) / z2), l)
  else
    let ed := l.eRef - rv * i.1 + xv * i.2 - v.1
    let eq := -rv * i.2 - xv * i.1 - v.2
    let kp := gpG s 0x19
    let g := kp * x.dt / gpSec s 0x1A
    let xd := if held then l.xiD else l.xiD + g * ed
    let xq := if held then l.xiQ else l.xiQ + g * eq
    let b := gpPu s 0x05 * l.w
    ((i.1 - b * v.2 + kp * ed + xd, i.2 + b * v.1 + kp * eq + xq), { l with xiD := xd, xiQ := xq, intHeld := held })

/-- The current limiter (R51): the limited current and whether it acted. -/
def limitI (lim : Rat) (prio : Nat) (ic : Rat × Rat) : (Rat × Rat) × Bool :=
  let m2 := ic.1 * ic.1 + ic.2 * ic.2
  if m2 ≤ lim * lim then (ic, false)
  else
    let cut (x room : Rat) : Rat := if |x| ≤ room then x else if 0 ≤ x then room else -room
    match prio with
    | 1 => let q := clampQ (-lim) lim ic.2; ((cut ic.1 (mag' lim q), q), true)
    | 2 => let d := clampQ (-lim) lim ic.1; ((d, cut ic.2 (mag' lim d)), true)
    | _ => let m := mag ic.1 ic.2; ((ic.1 * lim / m, ic.2 * lim / m), true)
where
  /-- √(lim² − x²), exact at its ends. -/
  mag' (lim x : Rat) : Rat := if x = 0 then lim else if |x| = lim then 0 else Config.sqrt (lim * lim - x * x)

/-- LIM_PRIO in a mode with a CURRENT_LIMIT_MODE hold (03_grid_events.md R69, R82, R85). -/
def prioOf (s : State) (cl : Bool) : Nat := (if cl then ep s 0x09 else gp s 0x1C).floor.toNat

/-- The reactive floor of 03_grid_events.md R69. -/
def reactiveFloor (s : State) (x : LawIn) (icq : Rat) : Rat := min icq (-(epG s 0x0A) * max 0 (epPu s 0x05 - x.vPos))

/-- Limit the current of a step and close it: published current, flags of Table 2.5 in `lims`. -/
def closeLaw (s : State) (x : LawIn) (cl : Bool) (ic : Rat × Rat) (l : Law) : Law :=
  let ns := park x.ns (2 * l.theta)
  let j := (ic.1 + ns.1 + x.inj.2.2.1, (if cl then reactiveFloor s x ic.2 else ic.2) + ns.2 + x.inj.2.2.2)
  let r := limitI (gpPu s 0x1B) (prioOf s cl) j
  { l with iD := r.1.1, iQ := r.1.2, limited := r.2, thetaPub := wrap1 (l.theta + fNom s * tickSec s.sys.tPub) }

/-- Flags of a step: P_LIM 1, F_LIM 2, V_LIM 4, I_LIM 8, INT_HELD 16 (Table 2.5). -/
def limBits (p f v i h : Bool) : Nat := b2n p + 2 * b2n f + 4 * b2n v + 8 * b2n i + 16 * b2n h

/-! ### The laws -/

/-- One step of GF (R42). -/
def stepGF (s : State) (x : LawIn) (l : Law) : Law × Nat :=
  let f := fNom s
  let a := advanceLaw s x l (wrap1 (l.theta + l.w * f * x.dt))
  let p := droopP s a.pSet x.wRef l.w
  let wd := if gp s 0x08 = 0 ∧ x.lock then x.wG else x.wRef
  let pr := p.2 + x.inj.1
  let w0 := l.w + x.dt / (2 * gpSec s 0x06) * (x.k * pr - a.pF - gpG s 0x07 * (l.w - wd))
  let bnd := wBand s
  let e0 := a.vSet - gpPu s 0x11 * (a.qF - a.qSet)
  let e := clampQ (gpPu s 0x15) (gpPu s 0x16) e0
  let b := { a with pRef := pr, w := clampQ bnd.1 bnd.2 w0, eRef := e + x.inj.2.1 }
  let o := outStruct s x b l.limited
  let c := closeLaw s x false o.1 o.2
  (c, limBits (p.1 != p.2) (decide (w0 ≤ bnd.1) || decide (bnd.2 ≤ w0)) (e0 != e) c.limited (l.limited && gp s 0x04 == 0))

/-- One step of BS at a given e_bs: DAMP_REF NOMINAL, no Q–V droop (03_grid_events.md R84, R85). -/
def stepBS (s : State) (x : LawIn) (eBs : Rat) (l : Law) : Law × Nat :=
  let a := advanceLaw s x l (wrap1 (l.theta + l.w * fNom s * x.dt))
  let p := droopP s a.pSet x.wRef l.w
  let w0 := l.w + x.dt / (2 * gpSec s 0x06) * (x.k * p.2 - a.pF - gpG s 0x07 * (l.w - x.wRef))
  let bnd := wBand s
  let o := outStruct s x { a with pRef := p.2, w := clampQ bnd.1 bnd.2 w0, eRef := eBs } l.limited
  let c := closeLaw s x x.hold o.1 o.2
  (c, limBits (p.1 != p.2) (decide (w0 ≤ bnd.1) || decide (bnd.2 ≤ w0)) false c.limited (l.limited && gp s 0x04 == 0))

/-- δ* (03_grid_events.md R69). -/
def deltaStar (s : State) (entry : Rat) : Rat := clampQ (-(epTurn s 0x0C)) (epTurn s 0x0C) entry

/-- δ = δ* within one code of turn32 (DESIGN CHOICE, notes/assumptions/26.md). -/
def atDeltaStar (d e : Rat) : Bool := decide (|wrapHalf (d - e)| * 2 ^ 32 ≤ 1)

/-- One step of GF/CL (03_grid_events.md R69); P_REF, which it does not form, keeps its last value (DESIGN CHOICE,
notes/assumptions/161.md). -/
def stepCL (s : State) (x : LawIn) (entry eCl wHold : Rat) (l : Law) : Law × Nat :=
  let f := fNom s
  let a := advanceLaw s x l (wrap1 (l.theta + l.w * f * x.dt))
  let d := wrapHalf (a.theta - x.thG)
  let most := epHz s 0x03 * x.dt
  let w0 := if x.lock then x.wG + clampQ (-most) most (deltaStar s entry - d) / (f * x.dt) else wHold
  let bnd := wBand s
  let o := outStruct s x { a with w := clampQ bnd.1 bnd.2 w0, eRef := eCl } l.limited
  let c := closeLaw s x true o.1 o.2
  (c, limBits false (decide (w0 ≤ bnd.1) || decide (bnd.2 ≤ w0)) false c.limited (l.limited && gp s 0x04 == 0))

/-- References of GFL in force: p and q, and whether they still ramp to their targets (R55, 03_grid_events.md R81). -/
structure GflRef where
  p : Rat
  q : Rat
  ramp : Bool

/-- One step of GFL (R55, 03_grid_events.md R82); E_REF, which it does not form, is zero (DESIGN CHOICE,
notes/assumptions/161.md). -/
def stepGFL (s : State) (x : LawIn) (g : GflRef) (l : Law) : Law × GflRef × Nat :=
  let a := advanceLaw s x { l with w := x.wG } (wrap1 x.thG)
  let v := park x.v a.theta
  if x.lock then
    let p := droopP s a.pSet x.wRef x.wG
    let q := if 0 < gpPu s 0x11 then a.qSet + (a.vSet + x.inj.2.1 - mag v.1 v.2) / gpPu s 0x11 else a.qSet
    let h : GflRef :=
      if g.ramp then
        let np := toward g.p p.2 (gpPu s 0x1D * x.dt)
        let nq := toward g.q q (gpPu s 0x1E * x.dt)
        { p := np, q := nq, ramp := np != p.2 || nq != q }
      else { p := p.2, q := q, ramp := false }
    let vd := max v.1 (1 / 5)
    let b := { a with pRef := h.p + x.inj.1, qRef := h.q, vdLock := v.1, eRef := 0, intHeld := false }
    let c := closeLaw s x x.hold ((h.p + x.inj.1) / vd, -h.q / vd) b
    (c, h, limBits (p.1 != p.2) false false c.limited false)
  else
    let h : GflRef := { p := toward g.p 0 (gpPu s 0x1D * x.dt), q := toward g.q 0 (gpPu s 0x1E * x.dt), ramp := true }
    let vd := max l.vdLock (1 / 5)
    let b := { a with pRef := h.p + x.inj.1, qRef := h.q, eRef := 0, intHeld := false }
    let c := closeLaw s x x.hold ((h.p + x.inj.1) / vd, -h.q / vd) b
    (c, h, limBits false false false c.limited false)

/-! ### Start states -/

/-- Measured powers at an angle. -/
def powersAt (x : LawIn) (theta : Rat) : Rat × Rat :=
  let v := park x.v theta
  let i := park x.i theta
  (v.1 * i.1 + v.2 * i.2, v.2 * i.1 - v.1 * i.2)

/-- V_SET clamped to its bounds. -/
def clampV (s : State) (v : Rat) : Rat := clampQ (gpPu s 0x15) (gpPu s 0x16) v

/-- Entry into GF or GFL (R56, R57): from the observer, or from its last locked values where lock has gone since the
request. -/
def entryLaw (s : State) (b : Nat) : Law :=
  let x := lawIn s b 0
  let o := s.gfm.obs
  if o.lock then
    let th := wrap1 x.thG
    let p := powersAt x th
    { theta := th, w := x.wG, pF := p.1, qF := p.2, vSet := clampV s s.gfm.vPos, vdLock := (park x.v th).1 }
  else
    { theta := wrap1 (o.lastTheta + o.lastW * fNom s * (tickSec b - tickSec o.lastAt)), w := o.lastW,
      vSet := clampV s o.lastV }

/-- Entry into BS (03_grid_events.md R84): class R setpoints stand at their targets. -/
def entryBS (s : State) : Law :=
  { w := 1 + s.gfm.dfSec / fNom s, pSet := puOf (s.gfm.par.tg gfmTable 0x0B), qSet := puOf (s.gfm.par.tg gfmTable 0x13),
    vSet := puOf (s.gfm.par.tg gfmTable 0x12) }

/-- P_SET such that p_ref = p_f at a speed (03_grid_events.md Table 3.5), a pu32 result (00_scope.md R4). -/
def pSetFor (s : State) (pF wRef w : Rat) : Rat := puSat (pF - deadband (wRef - w) (gpHz s 0x0A / fNom s) / gpPu s 0x09)

/-- Turn a current by the difference of two angles. -/
def turnI (i : Rat × Rat) (by_ : Rat) : Rat × Rat := park i (-by_)

/-- θ of a law of the last completed step, advanced at its w to a boundary (R42). -/
def thetaTo (s : State) (l : Law) (b : Nat) : Rat := wrap1 (l.theta + l.w * fNom s * (tickSec b - tickSec s.gfm.run.last))

/-- The incoming law of a hand-over, pre-initialised from the plant at boundary `b` (03_grid_events.md Table 3.5, R81); its θ is
that of the last step, which the step of `b` advances. -/
def preInit (s : State) (x : LawIn) (from_ target : GridMode) (loss : Bool) (b : Nat) : Law :=
  let l := s.gfm.run.law
  let last := s.gfm.run.last
  let p := powersAt x (thetaTo s l b)
  match from_, target with
  | .gf, .gfl => { l with pSet := l.pF, qSet := l.qF, limited := false }
  | .gfl, .gf =>
    let o := s.gfm.obs
    let lost := loss && !o.lock
    let l1 := if lost then { l with theta := wrap1 (o.lastTheta + o.lastW * fNom s * (tickSec last - tickSec o.lastAt)), w := o.lastW }
      else l
    let th := thetaTo s l1 b
    let v := if loss then clampV s (if o.lock then s.gfm.vPos else o.lastV) else s.gfm.vPos
    let q := powersAt x th
    let base := { l1 with pF := q.1, qF := q.2, pSet := pSetFor s q.1 x.wRef l1.w, vSet := v, xiD := 0, xiQ := 0, limited := false }
    let own := turnI (l.iD, l.iQ) (thetaTo s l b - th)
    let at_ := { base with eRef := clampV s (base.vSet - gpPu s 0x11 * (base.qF - base.qSet)) }
    let ic := (outStruct s { x with dt := 0 } { at_ with theta := th } true).1
    if gp s 0x04 = 1 then at_ else { at_ with xiD := own.1 - ic.1, xiQ := own.2 - ic.2 }
  | .gfCl, .gf =>
    { l with pF := p.1, qF := p.2, pSet := pSetFor s p.1 x.wRef l.w, vSet := s.gfm.run.eCl, qSet := p.2 }
  | .bs, .gf => { l with qSet := l.qF, vSet := s.gfm.run.eBs }
  | _, _ => l

end Sys2Proof.Machine
end

