-- ==== Sys2Proof/Machine/Acq.lean ====
section
/-! DEFINITION. The converters' commands: configuration, pair modes, calibration, conversions and words
(08_acquisition.md). -/

namespace Sys2Proof.Machine

open Sys2Proof

/-! ### Configuration (R192 to R195) -/

/-- The configuration of an OP_ACQ_SET_CONV payload (Table 8.2). -/
def convCfgOf (p : Bytes) : ConvCfg :=
  { timing := u8 p 1 % 4, sparse := (u8 p 1).testBit 7, div := u16 p 2, phase := u16 p 4, seqLen := u8 p 6, dwell := u8 p 7,
    seq := (List.range 8).map fun i => u8 p (8 + i) }

/-- A select is reserved for a converter (Table 8.1). -/
def selReserved (n sel : Nat) : Bool :=
  decide (12 ≤ sel) || (decide (sel < 8) && decide ((if n < 16 then 4 else 6) ≤ sel))

/-- An entry of a sequence names a reserved select, a gain code that does not exist, or sets its reserved bit
(R192, R193). -/
def seqEntryBad (n e : Nat) : Bool :=
  e.testBit 7 || selReserved n (selOf e) || (decide (n < 16) && decide (selOf e < 8) && decide (2 < gainOf e))

/-- Two entries name one external input with different gains. -/
def gainClash (a b : List Nat) : Bool :=
  a.any fun e => decide (selOf e < 8) && b.any fun f => selOf f == selOf e && gainOf f != gainOf e

/-- INV words that a step from one entry to the next marks on an auxiliary converter (Table 8.7). -/
def stepInv (e f : Nat) : Nat := if gainEff e ≠ gainEff f then 5 else if selOf e ≠ selOf f then 3 else 0

/-- A DWELL that does not exceed the INV words of some step of the sequence (R194). -/
def dwellShort (c : ConvCfg) : Bool :=
  (List.range c.seqLen).any fun i => decide (c.dwell ≤ stepInv (c.seq.getD i 0) (c.seq.getD ((i + 1) % c.seqLen) 0)) &&
    decide (1 < c.seqLen)

/-- The conditions that INTERLEAVE and INTERLEAVE+CHECK set on FA2p (R200). -/
def interleaveOk (c : ConvCfg) : Bool := c.timing == 1 && c.div == 1 && c.seqLen == 1 && !c.sparse

/-- The converter is the SRC of a Brim channel whose OUT_TYPE is not NONE, or of a configured chopper (R195). -/
def feedsOutput (s : State) (n : Nat) : Bool :=
  (s.chan.any fun e => e.2.cfg.outType != 0 && e.2.cfg.conv == n) || (s.gnt.chop.any fun e => e.2.written && e.2.srcConv == n)

/-- What is checked of an OP_ACQ_SET_CONV payload beside the device state (R194, R195, R200; DEDUCED, notes/assumptions/43.md). -/
def convChecks (s : State) (p : Bytes) : List (Bool × Status × Nat) :=
  let n := u8 p 0
  let c := convCfgOf p
  let fast := decide (n < 16)
  let osr := [64, 128, 256, 512, 1024, 2048, 4096].contains c.div
  let entries := (List.range 8).map fun i => (seqEntryBad n (c.seq.getD i 0), Status.badParam, 8 + i)
  let other := (cfNext s (if n % 2 = 0 then n + 1 else n - 1))
  let m := (pair s (n / 2)).mode
  [lenIs p 24, outOf n 0 19 0, (c.timing == 3 || bits (u8 p 1) 6 2 != 0, .badParam, 1),
   ((if n < 16 then c.div == 0 else !osr), .range, 2),
   (if fast && c.timing == 1 then decide (c.div ≤ c.phase) else c.phase != 0, .range, 4), outOf c.seqLen 1 8 6,
   outOf c.dwell 1 255 7] ++ entries ++
  [rsv p 16 8, (fast && gainClash c.used c.used, .badParam, 8),
   (fast && c.timing != 0 && other.timing != 0 && gainClash c.used other.used, .badParam, 8),
   (fast && c.sparse && c.timing == 1 && decide (c.div < 20), .badParam, 1), (!fast && c.timing == 2, .badParam, 1),
   (!fast && dwellShort c, .badParam, 7), (fast && n % 2 == 0 && (m == 1 || m == 3) && !interleaveOk c, .badParam, 1),
   (c.timing != 0 && (gateReq s).testBit (if n < 16 then 12 + n / 2 else 20), .notReady, 0),
   (overBudget (fun k => if k = n then c else cfNext s k) (pmNow s) s, .noResource, 0)]

/-- OP_ACQ_SET_CONV (R194, R195): at the next ACQ instant, or at the next outer-step boundary in RUN and TRIPPED. -/
def execOpAcqSetConv (r : Req) (s : State) : Out :=
  runOp { code := 0x1601, states := stIARTS } r s fun p s =>
    let n := u8 p 0
    let rt := s.sys.state == .run || s.sys.state == .tripped
    chk ((rt && decide (1 ≤ p.length) && decide (n < 16) && feedsOutput s n, .badState, 0) :: convChecks s p) fun _ =>
      let at_ := if rt then none else some (acqAt (s.now + 1))
      writeOf ((gateBit 0x1607 n).getD 0) s (.done (setConv n { conv s n with cfgPend := some (convCfgOf p, at_) } s))

/-- OP_ACQ_SET_PAIR (R200). -/
def execOpAcqSetPair (r : Req) (s : State) : Out :=
  runOp { code := 0x1602, states := stIAS } r s fun p s =>
    let k := u8 p 0
    let m := u8 p 1
    let pm (j : Nat) : Nat := if j = k then m else pmNow s j
    chk [lenIs p 8, outOf k 0 7 0, (decide (3 < m), .badParam, 1), outOf (u16 p 2) 1 4096 2, outOf (u16 p 4) 16 4096 4,
         rsv p 6 2, ((m == 1 || m == 3) && !interleaveOk (cfNext s (2 * k)), .badParam, 1),
         (overBudget (cfNext s) pm s, .noResource, 0)] fun _ =>
      let old := pair s k
      let s1 := setPair k { old with mode := m, tol := u16 p 2, n := u16 p 4 } s
      writeOf (12 + k) s (.done (if old.mode = m then s1 else pairChanged k s1))

/-! ### Calibration (R210 to R212) -/

/-- Junction temperature in °C of a TEMP code (23_electrical.md R483). -/
def tempCodeOf (n code : Nat) : Rat := if n < 16 then (sgn 16 (code % 65536) - 8192) / 64 else (sgn 24 (code % 16777216) - 2097152) / 16384

/-- Converters whose factors are valid. -/
def calMask (s : State) : Nat := maskOf ((List.range 20).filter fun n => (conv s n).cal.valid)

/-- OP_ACQ_CALIBRATE (R210): a clock-gated converter ignores it (18_timing.md R419). -/
def execOpAcqCalibrate (r : Req) (s : State) : Out :=
  runOp { code := 0x1603, states := stIS } r s fun p s =>
    let m := u32 p 0
    chk [lenIs p 4, (m / 2 ^ 20 != 0 || m == 0, .badParam, 0), (s.clk.tb != .locked && s.clk.tb != .holdover, .notReady, 0)]
      fun _ =>
        let one (a : State) (n : Nat) : State :=
          if gated a 0x1607 n then gatedAcc a else setConv n { conv a n with calibrating := true, fly := [] } a
        .yes ((bitsOf 20 m).foldl one s) .accepted 0 []

/-- Factors of one converter after its calibration; they fail beyond ±512 codes and ±2 % (R210; DEDUCED,
notes/assumptions/44.md). -/
def calTaken (n : Nat) (c : Option CalResult) (x : Conv) : Conv :=
  let rec0 : CalRec := match c with
    | none => {}
    | some c =>
      let ok := c.ok && decide (|c.offset| ≤ 512 * 256) && decide (|(c.gain : Int) - 2 ^ 30| * 50 ≤ 2 ^ 30)
      if ok then { valid := true, tempCal := (rnd (tempCodeOf n c.tempCode * 10) % 65536).toNat, offset := c.offset, gain := c.gain,
                   skew := if n < 16 ∧ n % 2 = 1 then c.skew else 0, lin := if n < 16 then le 8 c.lin else le 8 0 }
      else {}
  { x.inv3 with cal := rec0, drift := false, calibrating := false }

/-- CALIBRATION_DONE (R210): every converter in calibration ends it, with VALID clear where no factors came. -/
def execCalibrationDone (t : Nat) (results : List CalResult) (s : State) : Out :=
  ev t s fun s =>
    let ns := (List.range 20).filter fun n => (conv s n).calibrating
    if ns.isEmpty then s
    else
      let s1 := ns.foldl (fun a n => setConv n (calTaken n (results.find? fun c => c.conv == n) (conv a n)) a) s
      raise 0x1605 0 (le 4 (calMask s1)) s1

/-- The low 32 bits of the device identity. -/
def deviceTag : Nat := u32 Config.deviceId 0

/-- The 32 bytes of a calibration record (Table 8.9). -/
def calBytes (n : Nat) (c : CalRec) : Bytes :=
  let b := le 1 n ++ le 1 (b2n c.valid + 2 * b2n c.fromLoad) ++ le 2 c.tempCal ++ leI 4 c.offset ++ le 4 c.gain ++ leI 2 c.skew ++
    le 2 0 ++ fit 8 c.lin ++ le 4 deviceTag
  b ++ le 4 (crc32c b)

/-- OP_ACQ_GET_CAL (R211): the record of a clock-gated converter reads zero, one access each (18_timing.md R419). -/
def execOpAcqGetCal (r : Req) (s : State) : Out :=
  runOp { code := 0x1604, states := stIARTS } r s fun p s =>
    fourReserved p fun _ =>
      .give (((List.range 20).filter (gated s 0x1607)).foldl (fun a _ => gatedAcc a) s)
        ((List.range 20).flatMap fun n => if gated s 0x1607 n then List.replicate 32 0 else calBytes n (conv s n).cal)

/-- OP_ACQ_SET_CAL (R211): all-or-nothing; the factors count as loaded, and a clock-gated converter ignores them
(18_timing.md R419). -/
def execOpAcqSetCal (r : Req) (s : State) : Out :=
  runOp { code := 0x1605, states := stIS } r s fun p s =>
    let k := u8 p 0
    let rec_ (i : Nat) : Bytes := bytesAt 32 p (4 + 32 * i)
    let bad (i : Nat) : Option Status :=
      let b := rec_ i
      if u32 b 28 ≠ crc32c (b.take 28) then some .check
      else if 19 < u8 b 0 ∨ u32 b 24 ≠ deviceTag ∨ u8 b 1 / 4 ≠ 0 ∨ u16 b 14 ≠ 0 then some .badParam else none
    chk [(p.length != 4 + 32 * k, .badLength, 0), outOf k 1 20 0, rsv p 1 3] fun _ =>
      match (List.range k).find? fun i => (bad i).isSome with
      | some i => .no ((bad i).getD .check) i
      | none =>
        .done ((List.range k).foldl
          (fun a i =>
            let b := rec_ i
            let n := u8 b 0
            let c : CalRec := { valid := (u8 b 1).testBit 0, fromLoad := (u8 b 1).testBit 0, tempCal := u16 b 2, offset := i32 b 4,
                                gain := u32 b 8, skew := i16 b 12, lin := bytesAt 8 b 16 }
            if gated a 0x1607 n then gatedAcc a else setConv n { conv a n with cal := c, drift := false } a) s)

/-- OP_ACQ_SAVE_CAL (R211). -/
def execOpAcqSaveCal (r : Req) (s : State) : Out :=
  runOp { code := 0x1606, states := stIAS } r s fun p s =>
    fourReserved p fun _ =>
      if (List.range 20).any fun n => (conv s n).calibrating then .no .busy 0
      else
        let cal := (List.range 20).foldl
          (fun (t : Tbl CalRec) n => if (conv s n).cal.valid then t.put n (conv s n).cal else t) s.mram.cal
        .done { s with mram := { s.mram with cal := cal } }

/-- The records of MRAM are loaded on entry to IDLE from BOOT, with their event (R211). -/
def loadCal (s : State) : State :=
  let s1 := s.mram.cal.foldl (fun a e => setConv e.1 { conv a e.1 with cal := { e.2 with fromLoad := true }, drift := false } a) s
  raise 0x1605 1 (le 4 (calMask s1)) s1

/-- TEMP_MONITOR_READ (R212): the codes of the TEMP sensors in converter order. -/
def execTempMonitorRead (t : Nat) (temps : List Nat) (s : State) : Out :=
  ev t s fun s =>
    if s.sys.state = .boot then s
    else (List.range (min 20 temps.length)).foldl
      (fun a n =>
        let x := conv a n
        let d := tempCodeOf n (temps.getD n 0) - (sgn 16 (x.cal.tempCal % 65536) : Rat) / 10
        if x.cal.valid ∧ ¬ x.drift ∧ 40 < |d| then raise 0x1606 n [] (setConv n { x with drift := true } a) else a) s

/-! ### Conversions (R196 to R203) -/

/-- Whether a fast converter converts at a tick, and on which sequence entry: its index and its byte (R195 to R202). -/
def convertsAt (s : State) (n t : Nat) : Option (Nat × Nat) :=
  let m := pairMode s n
  let x := conv s (govern s n)
  let c := x.cfg
  let k := t / 80
  let own : Bool := match c.timing with
    | 1 => k % c.div == c.phase
    | 2 => x.trig.contains t
    | _ => false
  let lead : Option (Nat × Nat) :=
    match x.owed.find? fun o => o.1 == t with
    | some (_, i, e, _) => some (i, e)
    | none => if own then some (x.pos, c.seq.getD x.pos 0) else none
  let check : Bool := m == 3 && k % (pair s (n / 2)).n == 0
  let follow : Option (Nat × Nat) := if x.code.1 = t ∧ x.count ≠ 0 then some x.entry else none
  if m = 0 ∨ n % 2 = 0 then (if t % 80 = 0 then lead else none)
  else if m = 2 then (if t % 80 = 0 then follow else none)
  else if t % 80 = 0 then (if check then follow else none)
  else if t % 80 = 40 ∧ c.timing = 1 ∧ ¬ check then some (0, c.seq.getD 0 0)
  else none

/-- The other-select runs after a conversion of a select (R205): each over-driven select keeps its run. -/
def runsAfter (x : Conv) (sel : Nat) (ovr big : Bool) : Tbl (Nat × Nat) :=
  let down := (x.run.map fun e => (e.1, e.2.1 - 1, e.2.2)).filter fun e => e.2.1 != 0
  if ovr then
    let len := if big ∨ (Tbl.find sel x.run).any (fun r => r.2 == 16) then 16 else 4
    Tbl.put sel (len, len) down
  else down

/-- Take one from a count table. -/
def owe (t : Tbl Nat) (k : Nat) : Tbl Nat := match Tbl.find k t with | some (m + 2) => t.put k (m + 1) | _ => t.del k

/-- Take one word from the words owed INV at a key. -/
def oweInv (t : Tbl (Nat × Nat)) (k : Nat) : Tbl (Nat × Nat) :=
  match Tbl.find k t with | some (m + 2, w) => t.put k (m + 1, w) | _ => t.del k

/-- The input of a converter in pV behind its gain: the internal selects short it, or put the reference on it, at gain ×1
(Table 8.1, R193). -/
def inputPv (e : Nat) (pv : Int) : Int :=
  match selOf e with
  | 8 => 0
  | 9 => 1000000000000
  | 10 => -1000000000000
  | _ => pv * 2 ^ gainEff e

/-- round(V × gain / 1.25 × full scale) of an input in pV behind the gain (R193). -/
def codeOf (full : Int) (pv : Rat) : Int := rnd (pv * full / 1250000000000)

/-- The code of a converter for the code of R193: with the factors of a calibration of this run it is that code, a converter
without valid factors adds its own error, and factors loaded correct what they correct (R193, R204, R210; DESIGN CHOICE,
notes/assumptions/38.md). -/
def calibrated (n : Nat) (x : Conv) (ideal : Int) : Int :=
  if ¬ x.cal.valid then Config.ownError n ideal
  else if x.cal.fromLoad then Config.calibrate x.cal.offset x.cal.gain x.cal.lin (Config.ownError n ideal)
  else ideal

/-- One result of a converter: the converter after it, the clamped code and its marks. -/
structure Converted where
  conv : Conv
  code : Int
  ovr : Bool
  /-- More than twice the range (R205). -/
  big : Bool
  inv : Bool

/-- INV, the clamped code and the converter after one result of an entry at a key of its INV table, from the input in pV behind
the gain (R193, R204 to R206). -/
def convert (n : Nat) (x : Conv) (e key recovery : Nat) (pv : Rat) (full : Int) : Converted :=
  let sel := selOf e
  let raw := codeOf full pv
  let c0 := calibrated n x raw
  let beyond (v : Int) : Bool := decide (v < -full) || decide (full - 1 < v)
  let ovr := beyond raw || beyond c0
  let big := decide (sel < 8) && decide (2500000000000 < |pv|)
  let code := clampI (-full) (full - 1) (if beyond raw then raw else c0)
  let others := x.run.any fun r => r.1 != sel
  let owed := (Tbl.find key x.inv).isSome || x.invAll != 0
  let inv := others || owed || (!ovr && (Tbl.find sel x.own).isSome)
  { conv := { x with inv := oweInv x.inv key, invAll := x.invAll - 1, count := x.count + 1,
                     own := if ovr then x.own.put sel recovery else owe x.own sel,
                     run := runsAfter x sel ovr big }
    code := code, ovr := ovr, big := big, inv := inv }

/-- Mark CHK_FAIL on a word in flight. -/
def markChk (t : Nat) (x : Conv) : Conv :=
  { x with fly := x.fly.map fun f => if f.1 = t then (f.1, f.2.1, f.2.2 ||| 8) else f }

/-- The comparison of a pair at an instant (R201 to R203). -/
def comparePair (p t : Nat) (s : State) : State :=
  let a := conv s (2 * p)
  let b := conv s (2 * p + 1)
  let q := pair s p
  let pass := a.code.2.2 || b.code.2.2 || decide (|a.code.2.1 - b.code.2.1| ≤ q.tol)
  if pass then setPair p { q with fails := 0, lastFail := false, persistSaid := false } s
  else
    let slot := if q.mode = 3 then t + 40 else t
    let s1 := setConv (2 * p + 1) (markChk slot b) (setConv (2 * p) (markChk t a) s)
    let s2 := raiseFirst 0x1603 p p [] (bump 0x1607 (2 * p + 1) 28 (bump 0x1607 (2 * p) 28 s1))
    let s3 := setPair p { q with fails := q.fails + 1, lastFail := true, persistSaid := q.persistSaid || decide (8 ≤ q.fails + 1) } s2
    if q.fails + 1 = 8 ∧ ¬ q.persistSaid then raise 0x1604 p [] s3 else s3

/-- The leading converter after a conversion at `t`: a scheduled one is done, and its own sequence steps where the entry was
the sequence's (R195, R197, R199). -/
def ledOn (t : Nat) (c : ConvCfg) (z : Conv) : Conv :=
  let left := z.trig.filter (· != t)
  if z.owed.any fun o => o.1 == t then { z with owed := z.owed.filter (fun o => o.1 != t), trig := left }
  else { stepSeq c z with trig := left }

/-- ACQ_CONVERSION (R193, R196 to R205): `pv` is the differential voltage of the entry's input in pV (DESIGN CHOICE,
notes/assumptions/148.md). -/
def execAcqConversion (t : Nat) (n : Nat) (pv : Int) (s : State) : Out :=
  ev t s fun s =>
    let x := conv s n
    if ¬ tbRuns s ∨ 16 ≤ n ∨ x.calibrating ∨ (x.code.1 = t ∧ x.count ≠ 0) then s
    else match convertsAt s n t with
      | none => s
      | some (i, e) =>
        let c := (conv s (govern s n)).cfg
        let m := pairMode s n
        let follower := m != 0 && n % 2 == 1
        let y := convert n x e (selOf e) 2 (inputPv e pv) 32768
        let slot := if m = 3 ∧ follower ∧ t % 80 = 0 then t + 40 else t
        let w := fastWord y.code x.count (selOf e) (b2n y.ovr + 2 * b2n y.inv)
        let z := { y.conv with fly := y.conv.fly ++ [(slot, i, w)], code := (t, y.code, y.ovr), entry := (i, e) }
        let z := if follower then z else ledOn t c z
        let s1 := bump64 0x1607 n 8 1 (setConv n z s)
        let s2 := if y.ovr then bump 0x1607 n 16 s1 else s1
        let s3 := if y.big then bump 0x1607 n 20 s2 else s2
        if follower ∧ t % 80 = 0 then comparePair (n / 2) t s3 else s3

/-! ### Words (R204 to R208) -/

/-- A word has been delivered: LAST, its counters and EV_ACQ_OVR (R207, R213). -/
def wordOut (n i w : Nat) (s : State) : State :=
  let x := conv s n
  let s1 := setConv n { x with last := x.last.put i w } s
  let s2 := if wInv w then bump 0x1607 n 24 s1 else s1
  if wOvr w then raiseFirst 0x1601 (n + 256 * wSel w) (n + 256 * wSel w) [] s2 else s2

/-- A word joins a queue in the order of the sample instants. -/
def insWord (inst w : Nat) (q : List (Nat × Nat)) : List (Nat × Nat) :=
  (q.takeWhile fun e => decide (e.1 ≤ inst)) ++ (inst, w) :: q.dropWhile fun e => decide (e.1 ≤ inst)

/-- A word reaches the filter chain whose SEL, or whose accepted change's SEL, it carries, in sample-instant order
(09_filters.md R215, R224). -/
def toChain (k inst w : Nat) (s : State) : State :=
  match Tbl.find k s.filt with
  | none => s
  | some x =>
    let now : Bool := match x.act with | some f => f.mode != 0 && f.sel == wSel w | none => false
    let next : Bool := match x.pend with | some (f, _) => f.sel == wSel w | none => false
    if now || next then setFchain k { x with inq := insWord inst w x.inq, wordAt := some inst } s else s

/-- A word reaches one Brim channel that has been written, one of OUT_TYPE NONE too (04_brim_engine.md R94, R99, R100). -/
def toChan (n m inst w : Nat) (s : State) (ch : Nat) : State :=
  let c := chan s ch
  let same := c.cfg.conv == n || ((m == 1 || m == 3) && c.cfg.conv / 2 == n / 2)
  if c.written ∧ same ∧ c.cfg.sel = wSel w then setChan ch { c with inq := insWord inst w c.inq } s else s

/-- A word reaches the choppers it is the source of; the run of over-range words of its select goes on or ends (R207). -/
def toChops (n inst w : Nat) (s : State) : State :=
  let mine := (List.range 2).filter fun k => (chop s k).written && (chop s k).srcConv == n && (chop s k).srcSel == wSel w
  let x := conv s n
  let run := if wOvr w then x.ovrRun.getD (wSel w) 0 + 1 else 0
  let s1 := setConv n { x with ovrRun := if run = 0 then x.ovrRun.del (wSel w) else x.ovrRun.put (wSel w) run } s
  if mine.isEmpty then s1
  else
    let s2 := mine.foldl (fun a k => setChop k { chop a k with inq := (chop a k).inq ++ [(inst, w)] } a) s1
    if run = 8 then raiseClass 8 0x1602 (256 + n + 16 * wSel w) [] s2 else s2

/-- FAST_WORD_DELIVERED (01_architecture.md R16, R208). -/
def execFastWordDelivered (t : Nat) (n : Nat) (s : State) : Out :=
  ev t s fun s =>
    match (conv s n).fly with
    | [] => s
    | (inst, i, w) :: rest =>
      let m := pairMode s n
      let s1 := wordOut n i w (setConv n { conv s n with fly := rest } s)
      let s2 := s1.chan.keys.foldl (toChan n m inst w) s1
      let s3 := toChain (if m = 1 ∨ m = 3 then 2 * (n / 2) else n) inst w (toChops n inst w s2)
      pondNote 0 (n + 16 * wSel w) inst w s3

/-- The sums of a list over every run of `k` of its elements: one of the three stages of a sinc3 decimator. -/
def boxcar (k : Nat) (l : List Int) : List Int := (List.range (l.length + 1 - k)).map fun i => ((l.drop i).take k).sum

/-- The output of the sinc3 decimator of length OSR over the modulator's steps, newest first; its group delay is
1.5 × (OSR − 1) steps (R209). Steps before the first known are zero. -/
def sinc3 (osr : Nat) (l : List Int) : Rat :=
  let m := 3 * osr - 2
  ((boxcar osr (boxcar osr (boxcar osr ((l ++ List.replicate m 0).take m)))).sum : Rat) / ((osr ^ 3 : Nat) : Rat)

/-- AUX_WORD_CLOSE (R199, R204 to R206, R209): the word of the window that closes is delivered, and a step to another entry
marks the words after it. `steps` are the voltages in pV of the entry's input at the window's modulator steps, oldest first
(DESIGN CHOICE, notes/assumptions/148.md). -/
def execAuxWordClose (t : Nat) (n : Nat) (steps : List Int) (s : State) : Out :=
  ev t s fun s =>
    let x := conv s n
    let c := x.cfg
    if ¬ tbRuns s ∨ n < 16 ∨ 20 ≤ n ∨ x.calibrating ∨ c.timing ≠ 1 ∨ t % (160 * c.div) ≠ 0 ∨ (x.code.1 = t ∧ x.count ≠ 0) then s
    else
      let e := c.seq.getD x.pos 0
      let input := ((steps.reverse.take c.div).map (inputPv e) ++ x.modIn).take (3 * c.div)
      let y := convert n { x with modIn := input } e x.pos 3 (sinc3 c.div input) 8388608
      let z := stepSeq c { y.conv with code := (t, y.code, y.ovr), run := [] }
      let need := if z.pos = x.pos then 0 else stepInv e (c.seq.getD z.pos 0)
      let z := if need = 0 then z else { z with inv := invPut z.inv z.pos need }
      let w := auxWord y.code (selOf e) (b2n y.ovr + 2 * b2n y.inv)
      let s1 := bump64 0x1607 n 8 1 (setConv n z s)
      let s2 := if y.ovr then bump 0x1607 n 16 s1 else s1
      toChain n t w (wordOut n x.pos w s2)

/-! ### Status (R213) -/

/-- The converter is powered: a SPARSE one only ahead of its next conversion (R198). The modulator of an auxiliary converter takes
a step every 160 ticks, so that its next conversion is never more than 500 ns away (DEDUCED, notes/assumptions/169.md). -/
def powered (s : State) (n : Nat) : Bool :=
  let g := govern s n
  let x := conv s g
  if x.cfg.timing = 0 then false
  else if ¬ x.cfg.sparse ∨ 16 ≤ n then true
  else if x.owed.any fun o => decide (s.now ≤ o.1) then true
  else if x.cfg.timing = 2 then x.trig.any fun t => decide (s.now ≤ t)
  else
    let k := (s.now + 79) / 80
    decide ((k + (x.cfg.phase + x.cfg.div - k % x.cfg.div) % x.cfg.div) * 80 ≤ s.now + 640)

/-- OP_ACQ_GET_STATUS (Tables 8.10, 8.11). -/
def execOpAcqGetStatus (r : Req) (s : State) : Out :=
  runOp { code := 0x1607, states := stIARTS } r s fun p s =>
    oneByte p 19 fun n =>
      let x := conv s n
      let fails := decide (n < 16) && (pair s (n / 2)).lastFail
      let flags := b2n (x.cfg.timing != 0) + 2 * b2n fails + 4 * b2n (!x.run.isEmpty) + 8 * b2n (powered s n) +
        16 * b2n x.calibrating + 32 * b2n x.cal.valid + 64 * b2n (x.cal.valid && x.cal.fromLoad) + 128 * b2n x.drift
      let c (o : Nat) : Bytes := le 4 (c32 s 0x1607 n o)
      giveOf 0x1607 n s (le 2 flags ++ le 1 (pairMode s n) ++ le 1 0 ++ le 8 (c64 s 0x1607 n 8 % 2 ^ 64) ++ c 16 ++ c 20 ++ c 24 ++ c 28 ++
        c 32 ++ c 36 ++ (List.range 8).flatMap fun i => le 4 (if i < (conv s (govern s n)).cfg.seqLen then x.last.getD i 0 else 0))

end Sys2Proof.Machine
end

