-- ==== Sys2Proof/Machine/GfmStep.lean ====
section
/-! DEFINITION. What a step boundary does for grid-forming control and grid events: measurements, detections, entry
into GF/CL, hand-overs, the step's results and their completion (02_grid_forming.md R43 to R60, 03_grid_events.md
R64 to R86). -/

namespace Sys2Proof.Machine

open Sys2Proof

/-- Change the completed run state and, where a step is being computed, its copy. -/
def updRun (f : Run → Run) (s : State) : State :=
  { s with gfm := { s.gfm with run := f s.gfm.run, work := s.gfm.work.map f } }

/-- Committed parameters apply, blends and ramps move (02_grid_forming.md R39, R40; 03_grid_events.md R62). A commit of either
set reports its boundary (R38; DEDUCED, notes/assumptions/142.md). SEC_TO counts anew from the boundary at which SEC_SRC
changes (DESIGN CHOICE, notes/assumptions/132.md). -/
def paramBoundary (b : Nat) (s : State) : State :=
  let run := s.sys.state == .run
  let n := ((s.gfm.par.tg gfmTable 0x20 : Rat) * 1600 / s.sys.tStep).ceil.toNat
  let gfm := s.gfm.par.pend.isSome
  let grid := s.grid.par.pend.isSome
  let src := gp s 0x21
  let s1 := { s with gfm := { s.gfm with par := stepSet gfmTable run n s.gfm.par }
                     grid := { s.grid with par := stepSet gridTable run n s.grid.par } }
  let s2 := if gp s1 0x21 = src then s1 else { s1 with gfm := { s1.gfm with secAt := b } }
  let s3 := if gfm || grid then injSpoil s2 else s2
  let say (on : Bool) (s : State) : State := if on then raise 0x1001 0 (le 8 b) s else s
  say grid (say gfm s3)

/-! ### Observer (02_grid_forming.md R49, 03_grid_events.md R72, R75) -/

/-- Ticks of one nominal period. -/
def nomTicks (s : State) : Nat := (1600000000 / fNom s).floor.toNat

/-- Lock gained or kept: its values are remembered. -/
def lockedAt (o : Observer) (v : Rat) (b : Nat) : Observer :=
  { o with lastTheta := o.theta, lastW := o.w, lastV := v, lastAt := b }

/-- One step of the observer on a measured angle and magnitude; `jump` re-seeds it. -/
def obsStep (s : State) (o : Observer) (pred th v : Rat) (seed : Bool) (b : Nat) : Observer :=
  let dt := tickSec (b - o.at_)
  let n := if seed then (th, o.w) else Config.observe pred o.w th dt (gpHz s 0x10)
  let good := decide (1 / 5 ≤ v) && decide (|n.2 * fNom s - fNom s| ≤ 5)
  let lock := o.lock && good
  let p := { o with theta := wrap1 n.1, w := n.2, at_ := b, lock := lock,
                    goodSince := if good then some (o.goodSince.getD b) else none,
                    lostSince := if lock then none else if o.lock then some b else o.lostSince }
  if lock then lockedAt p v b else p

/-- obs_lock becomes true (R49). -/
def gainLock (s : State) : State :=
  let o := s.gfm.obs
  match o.goodSince with
  | some g =>
    if o.on ∧ ¬ o.lock ∧ due s (g + msT 100) then
      raise 0x1007 0 []
        { s with gfm := { s.gfm with obs := lockedAt { o with lock := true, everLock := true, lostSince := none } s.gfm.vPos o.at_ } }
    else s
  | none => s

/-- The far-side observer (03_grid_events.md R75): angle, speed and magnitude of the bound chains. -/
def farStep (b : Nat) (s : State) : State :=
  match s.grid.sync with
  | none => s
  | some (ca, cb, cc) =>
    let v (n : Nat) : Rat := Config.farVolt (fastCode s n) / vBase s
    let p := clarke (v ca, v cb, v cc)
    let o := s.gfm.far
    let dt := tickSec (b - o.at_)
    let th := angT p.1 p.2
    let n := if o.on then Config.observe (o.theta + o.w * fNom s * dt) o.w th dt (gpHz s 0x10) else (th, 1)
    { s with gfm := { s.gfm with far := { o with on := true, theta := wrap1 n.1, w := n.2, at_ := b, lastV := mag p.1 p.2 } } }

/-! ### Event quantities (03_grid_events.md R64 to R74) -/

/-- Whether a quantity is on the wrong side of a level, and on the right side beyond the hysteresis (R66). -/
def envSides (s : State) (env level : Nat) : Bool × Bool :=
  let f := s.gfm.obs.w * fNom s
  let lv : Rat := if env < 2 then puOf level else hzOf level
  let h : Rat := if env < 2 then epPu s 0x11 else epHz s 0x12
  match env with
  | 0 => (decide (s.gfm.vLineMin < lv), decide (lv + h ≤ s.gfm.vLineMin))
  | 1 => (decide (lv < s.gfm.vLineMax), decide (s.gfm.vLineMax ≤ lv - h))
  | 2 => (s.gfm.obs.lock && decide (f < lv), s.gfm.obs.lock && decide (lv + h ≤ f))
  | _ => (s.gfm.obs.lock && decide (lv < f), s.gfm.obs.lock && decide (f ≤ lv - h))

/-- Advance the timers of one envelope by `dt` ticks (R66). -/
def envAdvance (env dt b : Nat) (s : State) : State :=
  let pts := s.grid.env.getD env []
  (List.range pts.length).foldl
    (fun a k =>
      let sd := envSides a env (pts.getD k (0, 0)).2
      let x := a.grid.timer.getD (16 * env + k) {}
      let y := { x with t := if sd.1 then x.t + dt else x.t, okSince := if sd.2 then some (x.okSince.getD b) else none }
      let g := { a.grid with timer := a.grid.timer.put (16 * env + k) y }
      { a with grid := if ¬ sd.1 then g else if env < 2 then { g with envV := true } else { g with envF := true } }) s

/-- rocof and its event at a boundary (R64, R67); answers whether EV_GRID_ROCOF is raised. -/
def rocofStep (b : Nat) (s : State) : State × Bool :=
  let win := epTicks s 0x10
  if ¬ s.gfm.obs.lock then
    ({ s with grid := { s.grid with fHist := [], rocof := 0, rocofHi := false, rocofOkSince := none } }, false)
  else
    let f := s.gfm.obs.w * fNom s
    let h := (b, f) :: s.grid.fHist
    match h.find? fun e => decide (e.1 + win ≤ b) with
    | none => ({ s with grid := { s.grid with fHist := h, rocof := 0, rocofHi := false, rocofOkSince := none } }, false)
    | some (t0, f0) =>
      let r := (f - f0) / epSec s 0x10
      let hi := decide (epHz s 0x0F < |r|)
      let ok := if hi then none else some (s.grid.rocofOkSince.getD b)
      let armed := s.grid.rocofArmed || (match ok with | some o => decide (o + win ≤ b) | none => false)
      let g := { s.grid with fHist := h.filter fun e => decide (t0 ≤ e.1), rocof := r, rocofHi := hi, rocofOkSince := ok,
                             rocofArmed := armed && !hi }
      let s1 := { s with grid := g }
      if hi && armed then (raiseClass 19 0x110B 0 [] s1, true) else (s1, false)

/-- A held BREAKER_OPEN indication shows open (R74, 13_plant_network_time.md R320). -/
def gooseOpen (s : State) : Bool := s.net.sub.any fun e => e.2.enable && !e.2.brkOpen.isEmpty

/-- Island declaration at a boundary (R74). -/
def islandStep (rocof phase : Bool) (s : State) : State :=
  let src := (ep s 0x14).floor.toNat
  let pio := pioLevel s (ep s 0x15).floor.toNat
  let m := (b2n (gooseOpen s) + 2 * b2n pio + 4 * b2n rocof + 8 * b2n phase) &&& src
  if ¬ s.grid.island then
    if m = 0 then s else raiseClass 20 0x110C m [] { s with grid := { s.grid with island := true } }
  else if src % 4 ≠ 0 ∧ m % 4 = 0 then raise 0x110D 0 [] { s with grid := { s.grid with island := false } }
  else s

/-- Everything measured and detected at a boundary in ARMED, RUN and TRIPPED; answers the jump, if one is reported. The first
boundary of the observer has no prediction and is not compared (DESIGN CHOICE, notes/assumptions/139.md). -/
def measureStep (b : Nat) (s : State) : State × Option Rat :=
  let first := s.gfm.hist.isEmpty
  let v := phases 0 (vBase s) (fastCodes s)
  let keep := nomTicks s
  let hist := (b, v.1, v.2.1, v.2.2) :: s.gfm.hist.filter fun x => decide (b < x.1 + keep)
  let pos := Config.posSeq (hist.map Prod.snd)
  let lines := lineValues hist
  let i := clarke (phases 3 (iBase s) (fineCodes s))
  let s1 := { s with gfm := { s.gfm with hist := hist, vPos := pos.1, thetaV := pos.2, io := i,
                                         vdq := clarke (phases 0 (vBase s) (fineCodes s)), thetaI := if mag i.1 i.2 < 1 / 50 then thetaIAt s b else angT i.1 i.2, thetaIAt := b,
                                         vLineMin := lines.foldl min (lines.headD 0), vLineMax := lines.foldl max 0 } }
  let o := s1.gfm.obs
  let pred := o.theta + o.w * fNom s1 * tickSec (b - o.at_)
  let jump := wrapHalf (pos.2 - pred)
  let isJump := !first && decide (1 / 5 ≤ pos.1) && decide (epTurn s1 0x02 ≤ |jump|)
  let o1 := obsStep s1 o pred pos.2 pos.1 (first || isJump) b
  let s2 := { s1 with gfm := { s1.gfm with obs := o1 } }
  let s3 := if o.lock ∧ ¬ o1.lock then raise 0x1008 0 [] s2 else s2
  let code := rnd (jump * 2 ^ 32)
  let s4 := if isJump then
      raiseClass 14 0x1105 0 (leI 4 code) { s3 with grid := { s3.grid with jumpLast := code } } else s3
  let dt := b - s4.gfm.boundary
  let s5 := { s4 with grid := { s4.grid with envV := false, envF := false } }
  let s6 := (List.range 4).foldl (fun a e => envAdvance e dt b a) s5
  let r := rocofStep b s6
  let big := isJump && decide (epTurn s1 0x01 < |jump|)
  (farStep b (islandStep r.2 big r.1), if isJump then some jump else none)

/-! ### Δf_sec (02_grid_forming.md R58, R59) -/

/-- Move the value in use toward its target at SEC_RR. -/
def secStep (dt : Rat) (s : State) : State :=
  let tgt := if gp s 0x21 = 0 then 0 else s.gfm.dfTarget
  { s with gfm := { s.gfm with dfTarget := tgt, secStale := s.gfm.secStale && gp s 0x21 != 0,
                               dfSec := toward s.gfm.dfSec tgt (gpHz s 0x22 * dt) } }

/-- A value arrives from the source in use: clamped to SEC_MAX with its event where the source is not COMMAND. -/
def secValue (hz : Rat) (s : State) : State :=
  let m := gpHz s 0x23
  let v := clampQ (-m) m hz
  let s1 := { s with gfm := { s.gfm with dfTarget := v, secAt := s.now, secStale := false } }
  if v = hz then s1 else raise 0x100A 0 [] s1

/-- Parameters, Δf_sec and, from ARMED onward, what is measured and detected at boundary `b`, once for each boundary; answers the
jump, if one is reported (R39, R58; 03_grid_events.md R64 to R75). Both the step of the boundary and an entry into RUN at it
start from here (R56). -/
def openBoundary (b : Nat) (s : State) : State × Option Rat :=
  let fresh : State × Option Rat :=
    let s1 := secStep (tickSec (b - s.gfm.boundary)) (paramBoundary b s)
    let m := if s1.sys.state = .armed ∨ s1.sys.state = .run ∨ s1.sys.state = .tripped then measureStep b s1 else (s1, none)
    ({ m.1 with gfm := { m.1.gfm with opened := some (b, m.2) } }, m.2)
  match s.gfm.opened with
  | some (x, j) => if x = b then (s, j) else fresh
  | none => fresh

/-! ### Hand-over checks (03_grid_events.md Table 3.5, R78) -/

/-- The incoming law of a hand-over, and the current it gives at a boundary in the axes of the running law. -/
def incoming (s : State) (from_ target : GridMode) (loss : Bool) (b : Nat) : Law × (Rat × Rat) :=
  let x := lawIn s b 0
  let l := preInit s x from_ target loss b
  let y := { l with theta := thetaTo s l b }
  let r := if target = .gfl then (stepGFL s x { p := 0, q := 0, ramp := false } y).1 else (stepGF s x y).1
  (l, turnI (r.iD, r.iQ) (r.theta - thetaTo s s.gfm.run.law b))

/-- The disagreement check: the identifier of the first failing quantity, none where it passes (R78). An unfinished
energisation ramp is named by BS_RAMP, 0x20 (DESIGN CHOICE, notes/assumptions/136.md). -/
def hoCheck (s : State) (from_ target : GridMode) (b : Nat) : Option Nat :=
  let r := s.gfm.run
  let i := (incoming s from_ target false b).2
  let di := (i.1 - r.law.iD, i.2 - r.law.iQ)
  let iBad := decide (epPu s 0x0D * epPu s 0x0D < di.1 * di.1 + di.2 * di.2)
  match from_, target with
  | .gf, .gfl =>
    let th := thetaTo s r.law b
    if ¬ s.gfm.obs.lock then some 0
    else if epTurn s 0x0C < |wrapHalf (th - thetaG s b)| then some 0x0C
    else if iBad then some 0x0D else none
  | .gfl, .gf => if iBad then some 0x0D else none
  | .bs, .gf => if r.bsDone then none else some 0x20
  | _, _ => none

/-- Steps of a hand-over blend. -/
def blendSteps (s : State) : Nat := (ep s 0x0B * 1600 / s.sys.tStep).ceil.toNat

/-- Answer the request of a hand-over that starts: ST_ACCEPTED (R78; 17_opcodes.md Table 17.10). -/
def acceptHandOver (h : HandOver) (s : State) : State :=
  match h.owed with
  | some w => answer w .accepted 0 [] s
  | none => s

/-- A hand-over whose blend begins, for one run state: its incoming law and that law's δ (R77, R80). -/
def blendOf (s : State) (h : HandOver) (b : Nat) (r : Run) : HandOver :=
  let n := blendSteps s
  let s1 := { s with gfm := { s.gfm with run := r } }
  let l := (incoming s1 h.from_ h.target h.loss b).1
  { h with blending := true, inLaw := l, lambda := if n = 0 then 0 else -(1 / (n : Rat)), inc := if n = 0 then 1 else 1 / (n : Rat),
           passed := true, owed := none, delta := if h.from_ = .gfl then wrapHalf (thetaTo s1 l b - thetaG s b) else r.delta }

/-- Begin the blend of a hand-over at a boundary (R77); a step in progress takes it from its own law. -/
def beginBlend (h : HandOver) (b : Nat) (s : State) : State :=
  injAbort 2 (updRun (fun r => { r with ho := some (blendOf s h b r) }) (acceptHandOver h s))

/-- A hand-over request at a boundary: one that has passed its check begins, one whose check passes now is accepted and
begins at the next boundary, and another goes on pending (R78, R86). The hand-over of a HANDOVER step that is paused does
not begin (R85). -/
def hoBoundary (b : Nat) (s : State) : State :=
  let r := s.gfm.run
  let stopping := match s.sys.trans with | some (.stopRamp _ _) => true | _ => false
  if stopping then s
  else match r.ho with
    | some h =>
      if h.blending ∨ (h.forBs ∧ bsPaused s) then s
      else if h.passed then beginBlend h b s
      else if (hoCheck s h.from_ h.target b).isNone then
        updRun (fun r => { r with ho := r.ho.map fun g => { g with passed := true, owed := none } }) (acceptHandOver h s)
      else s
    | none =>
      if r.rampEntry ∧ r.bsDone ∧ s.sys.mode = .bs then
        beginBlend { from_ := .bs, target := .gf } b (updRun (fun r => { r with rampEntry := false }) s)
      else s

/-! ### Entry into GF/CL (03_grid_events.md R68, R80) -/

/-- Causes of R68 at a boundary. -/
def clCauses (s : State) (jump : Option Rat) (react : Bool) : Nat :=
  b2n (decide (ep s 0x06 ≤ s.gfm.run.limRun)) + 2 * b2n (decide (s.gfm.vLineMin < epPu s 0x04)) +
    4 * b2n (match jump with | some j => decide (epTurn s 0x01 < |j|) | none => false) + 8 * b2n react

/-- Enter GF/CL with a cause mask, from a law with its δ and e_ref. -/
def enterCL (b cause : Nat) (delta eCl : Rat) (l : Law) (s : State) : State :=
  let s1 := updRun (fun r => { r with law := l, clCause := cause, deltaEntry := delta, eCl := eCl, clSince := b, modeSince := b,
                                      exitSince := none, clLong := false, resync := false, limRun := 0, ho := none,
                                      syncRun := false, syncPerm := false, syncSince := none, syncOkSaid := false,
                                      closeSince := none }) { s with sys := { s.sys with mode := .gfCl } }
  raise 0x1102 cause [] (injAbort 1 s1)

/-- The entry conditions of R68 at a boundary, with what they do to a hand-over (R80). A hold that came with the device from
GFL or BS is a reaction taken. Once EV_GRID_CL_EXIT has been raised the device is on its way to GF, and a cause takes it
back from the incoming law (DESIGN CHOICE, notes/assumptions/143.md). A cause at the boundary of entry into RUN, which no step
precedes, takes δ_entry and e_cl as R70 gives them for a hold (DESIGN CHOICE, notes/assumptions/156.md). -/
def clBoundary (b : Nat) (jump : Option Rat) (s : State) : State :=
  let react := s.gnt.clmPend || (s.sys.mode == .gf && s.grid.clHold)
  let s0 := { s with gnt := { s.gnt with clmPend := false } }
  let r := s0.gfm.run
  let c := clCauses s0 jump react
  let own (s : State) : State := enterCL b c r.delta r.law.eRef r.law s
  if c = 0 then s0
  else if s0.sys.mode = .gfCl then
    match r.ho with
    | some h => if h.blending then enterCL b c h.delta h.inLaw.eRef h.inLaw s0 else s0
    | none => updRun (fun r => { r with clCause := r.clCause ||| c }) s0
  else if s0.sys.mode = .gf then
    match r.ho with
    | none => own s0
    | some h =>
      let s1 := match h.owed with | some w => answer w .refused (0x100 + c) [] s0 | none => s0
      let s2 := own s1
      if h.passed then raise 0x1111 0 [] s2 else s2
  else if s0.sys.mode = .gfl then
    match r.ho with
    | some h =>
      if h.blending then raise 0x1111 0 [] (enterCL b c h.delta h.inLaw.eRef h.inLaw s0) else s0
    | none => s0
  else s0

/-! ### The synchroniser in a step (03_grid_events.md R76) -/

/-- df_sync, the windows and the closed-breaker sign at a boundary. -/
def syncStep (s : State) (b : Nat) (dt : Rat) (r : Run) : Run :=
  let o := s.gfm.far
  let d := wrapHalf (o.theta - thetaG s b)
  if ¬ r.syncRun then { r with dfSync := toward r.dfSync 0 (gpHz s 0x22 * dt), syncPerm := false }
  else
    let ok := decide (|d| ≤ epTurn s 0x16) && decide (|o.w - s.gfm.obs.w| * fNom s ≤ epHz s 0x17) &&
      decide (|o.lastV - s.gfm.vPos| ≤ epPu s 0x18)
    let near := decide (|d| ≤ 1 / 3600)
    { r with dfSync := clampQ (-(epHz s 0x03)) (epHz s 0x03) (2 * d),
             syncSince := if ok then some (r.syncSince.getD b) else none, syncPerm := r.syncPerm && ok,
             syncOkSaid := r.syncOkSaid && ok, closeSince := if near then some (r.closeSince.getD b) else none }

/-! ### A step in RUN -/

/-- The black-start program is halted (R89). -/
def bsHalted (s : State) : Bool := match s.grid.bs with | some b => b.halted | none => false

/-- The law of the present mode. -/
def ownLaw (s : State) (x : LawIn) (r : Run) : Law × Run × Nat :=
  match s.sys.mode with
  | .gfCl =>
    let y := stepCL s x r.deltaEntry r.eCl r.wHold r.law
    (y.1, r, y.2)
  | .gfl =>
    let y := stepGFL s x { p := r.gflP, q := r.gflQ, ramp := r.gflRamp } r.law
    (y.1, { r with gflP := y.2.1.p, gflQ := y.2.1.q, gflRamp := y.2.1.ramp, gflLostSaid := r.gflLostSaid && !x.lock }, y.2.2)
  | .bs =>
    let tgt := puOf (s.gfm.par.tg gfmTable 0x12)
    let pause := r.law.limited || x.hold || bsHalted s
    let e := if r.bsRun ∧ ¬ r.bsDone ∧ ¬ pause then r.eBs + clampQ 0 (max 0 (tgt - r.eBs)) (r.bsRate * x.dt) else r.eBs
    let y := stepBS s x e r.law
    (y.1, { r with eBs := e, bsDone := r.bsDone || (r.bsRun && decide (tgt ≤ e)) }, y.2)
  | _ =>
    let y := stepGF s x r.law
    (y.1, r, y.2)

/-- The incoming law of a blend moves one step and λ rises (R77, R80), but for that of a HANDOVER step that is paused (R85). -/
def blendStep (s : State) (x : LawIn) (b : Nat) (h : HandOver) : HandOver :=
  let l := if h.target = .gfl then (stepGFL s x { p := h.inLaw.pRef, q := h.inLaw.qRef, ramp := false } h.inLaw).1
    else (stepGF s x h.inLaw).1
  { h with inLaw := l, lambda := if h.frozen ∨ (h.forBs ∧ bsPaused s) then h.lambda else min 1 (h.lambda + h.inc),
           delta := wrapHalf (l.theta - thetaG s b) }

/-- What a step publishes (R18, R47; 01_architecture.md R28; 03_grid_events.md R77). -/
def pubOf (s : State) (b : Nat) (l : Law) (ho : Option HandOver) : Pub :=
  let p : Pub := { ok := true, iD := l.iD, iQ := l.iQ, thetaPub := l.thetaPub, w := l.w, circ := balCirc s, tick := b + s.sys.tPub,
                   k := stopScale s b }
  match ho with
  | some h =>
    if h.blending then
      { p with mixL := max 0 h.lambda, mixD := h.inLaw.iD, mixQ := h.inLaw.iQ, mixTheta := h.inLaw.thetaPub, mixW := h.inLaw.w }
    else p
  | none => p

/-- The published angle of a blend (R77). -/
def pubTheta (p : Pub) : Rat := p.thetaPub + p.mixL * wrapHalf (p.mixTheta - p.thetaPub)

/-- The published current on the published angle. -/
def pubI (p : Pub) : Rat × Rat :=
  let th := pubTheta p
  let a := turnI (p.iD, p.iQ) (p.thetaPub - th)
  let b := turnI (p.mixD, p.mixQ) (p.mixTheta - th)
  if p.mixL = 0 then (p.k * p.iD, p.k * p.iQ)
  else (p.k * ((1 - p.mixL) * a.1 + p.mixL * b.1), p.k * ((1 - p.mixL) * a.2 + p.mixL * b.2))

/-- FLAGS of Table 2.5. -/
def stepFlags (s : State) (lims : Nat) (r : Run) : Nat :=
  lims + 32 * b2n (!s.gfm.par.blend.isEmpty) + 64 * b2n (rampOn s r) + 128 * b2n s.gfm.obs.lock + 256 * b2n s.gfm.secStale

/-- One outer step in RUN from the last completed one (R42, R43): the run state it will leave. -/
def stepRun (s : State) (b : Nat) : Run :=
  let r0 := s.gfm.run
  let dt := tickSec (b - r0.last)
  let r := syncStep s b dt r0
  let x := { lawIn s b dt with wRef := 1 + (s.gfm.dfSec + r.dfSync) / fNom s }
  let y := ownLaw s x r
  let l := y.1
  let d := wrapHalf (l.theta - x.thG)
  let ho := y.2.1.ho.map fun h => if h.blending then blendStep s x b h else h
  let subject : Option Law :=
    if s.sys.mode = .gf then some l
    else if s.sys.mode = .gfCl then match ho with | some h => if h.blending then some h.inLaw else some l | none => some l
    else if s.sys.mode = .gfl then match ho with | some h => if h.blending then some h.inLaw else none | none => none
    else none
  let off := s.sys.mode == .gfCl && !atDeltaStar d (deltaStar s r.deltaEntry)
  let exitOk := s.sys.mode == .gfCl && ho.isNone && !off && !l.limited && decide (epPu s 0x05 ≤ s.gfm.vLineMin) && !s.grid.clHold
  let p := pubOf s b l ho
  let i := pubI p
  { y.2.1 with
    law := l, ho := ho, last := b, limRun := match subject with | some z => if z.limited then r.limRun + 1 else 0 | none => 0,
    limSince := if l.limited then some (r.limSince.getD b) else none, resync := off, delta := d,
    clLong := if s.sys.mode = .bs ∧ ¬ l.limited then false else r.clLong,
    exitSince := if exitOk then some (r.exitSince.getD b) else none, wHold := if x.lock then l.w else r.wHold, lims := y.2.2,
    pub := p,
    out := { tick := b, freq := hzCode (l.w * fNom s), thetaPub := turnCode (pubTheta p), fGrid := hzCode (x.wG * fNom s),
             thetaGrid := turnCode x.thG, pF := puCode l.pF, qF := puCode l.qF, pRef := puCode (x.k * l.pRef), eRef := puCode l.eRef,
             iD := puCode i.1, iQ := puCode i.2, dfSec := rnd (s.gfm.dfSec * 2 ^ 20), flags := stepFlags s y.2.2 { r with law := l },
             mode := s.sys.mode.code, delta := rnd (d * 2 ^ 32) } }

/-- FLAGS of Table 3.10 of a step, but for CL_HOLD. -/
def stepGridFlags (s : State) (r : Run) : Nat :=
  let run := s.sys.state == .run
  let g := s.grid
  let blending := match r.ho with | some h => h.blending | none => false
  b2n g.rocofHi + 2 * b2n g.envF + 4 * b2n g.envV + 8 * b2n (run && r.resync) + 32 * b2n (run && r.ho.isSome && !blending) +
    64 * b2n (run && blending) + 128 * b2n (run && r.bsRun && !r.bsDone) + 256 * b2n (run && bsHalted s) + 512 * b2n g.island +
    1024 * b2n (run && r.syncRun) + 2048 * b2n (run && r.syncPerm)

/-- What the step that has just started reports once it is complete (03_grid_events.md R92). -/
def stepSeen (s : State) : EvSeen :=
  let r := s.gfm.work.getD s.gfm.run
  let run := s.sys.state == .run
  let lam : Rat := match r.ho with | some h => if h.blending then max 0 h.lambda else 0 | none => 0
  { flags := stepGridFlags s r, clCause := if run ∧ s.sys.mode = .gfCl then r.clCause else 0,
    bsStep := match s.grid.bs with | some b => if run then b.step else 0xFF | none => 0xFF,
    lambda := if run then (rnd (lam * 255)).toNat else 0, delta := if run then r.out.delta else 0, jump := s.grid.jumpLast,
    rocof := s.grid.rocof, vMin := s.gfm.vLineMin, vMax := s.gfm.vLineMax }

/-- The limit events of a completed step (R48). -/
def limEvents (old new : Nat) (s : State) : State :=
  ([0, 1, 2, 3] : List Nat).foldl (fun a k => if new.testBit k ∧ ¬ old.testBit k then raise (0x1003 + k) 0 [] a else a) s

/-- The fields of Table 2.4 that Pond captures (15_pond.md Table 15.2, STEP). -/
def noteStep (o : StepOut) (s : State) : State :=
  let l : List Int := [o.freq, o.thetaPub, o.fGrid, o.thetaGrid, o.pF, o.qF, o.pRef, o.eRef, o.iD, o.iQ, o.dfSec]
  ((List.range 11).zip l).foldl (fun a x => pondNote 8 x.1 o.tick (x.2 % 2 ^ 32).toNat a) s

/-- What a step outside RUN computes: the observer, while it runs (R60). -/
def idleOut (s : State) : StepOut :=
  let seen := s.gfm.obs.on
  { tick := s.gfm.boundary, fGrid := if seen then hzCode (s.gfm.obs.w * fNom s) else 0,
    thetaGrid := if seen then turnCode s.gfm.obs.theta else 0 }

/-- A step is complete: its run state stands and its results wait for the publish tick (R18); outside RUN it has none but what the
observer gives (R60; 15_pond.md Table 15.2). -/
def completeRun (s : State) : State :=
  match s.gfm.work with
  | none => if s.sys.state = .run then s else noteStep (idleOut s) s
  | some w =>
    let r := s.gfm.run
    let x := s.gfm.par
    let pres := ((x.present.put 0x0B (w.law.pSet * 2 ^ 27)).put 0x12 (w.law.vSet * 2 ^ 27)).put 0x13 (w.law.qSet * 2 ^ 27)
    let s1 := { s with gfm := { s.gfm with run := w, work := none, ready := some w.pub, par := { x with present := pres } } }
    let s2 := limEvents r.lims w.lims s1
    let s3 := if r.resync ∧ ¬ w.resync ∧ s.sys.mode = .gfCl then raise 0x1106 0 [] s2 else s2
    let s4 := noteStep w.out (if w.law.limited then injAbort 0 s3 else s3)
    if w.bsDone ∧ ¬ r.bsDone then raise 0x1113 0 [] s4 else s4

end Sys2Proof.Machine
end

