-- ==== Sys2Proof/Machine/AngOps.lean ====
section
/-! DEFINITION. The correlator, the scan report and the bank exchange (05_angle_tables_injection.md R128, R134 to R139). -/

namespace Sys2Proof.Machine

open Sys2Proof

/-! ### Correlator channels (R137) -/

def setInj (i : InjRun) (s : State) : State := { s with angle := { s.angle with inj := some i } }

/-- SCAN and N_AVG of the configuration in force. -/
def injScan (s : State) : Nat := match s.angle.injCfg with | some c => u8 c 18 | none => 0
def injAvg (s : State) : Nat := match s.angle.injCfg with | some c => u16 c 16 | none => 0
def injFade (s : State) : Nat := match s.angle.injCfg with | some c => usT (u32 c 20) | none => 0
def injTw (s : State) : Nat := match s.angle.injCfg with | some c => injWindow c | none => 0

/-- The source of correlator channel k; a DQ scan takes v_d, v_q, io_d and io_q as C0 to C3 (R137; DEDUCED,
notes/assumptions/48.md). -/
def corrSrcOf (scan : Nat) (s : State) (k : Nat) : Nat × Nat :=
  if scan = 2 ∧ k < 4 then (1, k) else s.angle.corr.getD k (0, 0)

def corrSrc (s : State) (k : Nat) : Nat × Nat := corrSrcOf (injScan s) s k

/-- A correlator channel takes a sample while windows run (DESIGN CHOICE, notes/assumptions/31.md). -/
def corrTake (type sel inst : Nat) (v : Rat) (bad : Bool) (s : State) : State :=
  match s.angle.inj with
  | none => s
  | some i =>
    if i.phase ≠ 2 ∨ inst < i.at_ then s
    else
      let ks := (List.range 8).filter fun k => corrSrc s k == (type, sel)
      let put (t : Tbl (List (Nat × Rat × Bool))) (k : Nat) : Tbl (List (Nat × Rat × Bool)) :=
        t.put k ((inst, v, bad) :: t.getD k [])
      setInj { i with samples := ks.foldl put i.samples } s

/-- INTERNAL signal `sel` of the step at boundary b, on the θ of that step (R137, 02_grid_forming.md R42). -/
def corrInternal (s : State) (b sel : Nat) : Rat :=
  let l := (s.gfm.work.getD s.gfm.run).law
  let v := park s.gfm.vdq l.theta
  let i := park s.gfm.io l.theta
  match sel with
  | 0 => v.1
  | 1 => v.2
  | 2 => i.1
  | 3 => i.2
  | 4 => v.1 * i.1 + v.2 * i.2
  | 5 => v.2 * i.1 - v.1 * i.2
  | 6 => l.w
  | 7 => l.eRef
  | _ => match s.angle.inj, s.angle.injCfg with
    | some r, some c => injAt s (injPoint c r) b
    | _, _ => 0

/-- The INTERNAL channels sample at a step boundary (R137). -/
def corrBoundary (b : Nat) (s : State) : State :=
  (List.range 9).foldl (fun a k => corrTake 1 k b (corrInternal a b k) false a) s

/-- A class B blend or class R ramp is in progress in the newest step (R136). -/
def blendOrRamp (s : State) : Bool :=
  !s.gfm.par.blend.isEmpty || !s.grid.par.blend.isEmpty || rampOn s (s.gfm.work.getD s.gfm.run)

/-- What a step boundary in RUN does to a run of the generator before its step: it starts, or aborts on V_DEV (R134, R135). -/
def injBoundary (b : Nat) (s : State) : State :=
  match s.angle.inj, s.angle.injCfg with
  | some i, some c =>
    if i.phase = 0 then
      raise 0x1302 0 [] (setInj { i with phase := 1, start := b, at_ := b, vStart := s.gfm.vPos } s)
    else
      if puOf (i32 c 32) < |s.gfm.vPos - i.vStart| then injAbort 5 s else s
  | _, _ => s

/-- The step of a boundary is formed: its signals are sampled, and a blend or ramp in it spoils the window (R136, R137). -/
def injSampled (b : Nat) (s : State) : State :=
  let s1 := corrBoundary b s
  if blendOrRamp s1 then injSpoil s1 else s1

/-! ### Correlation (R138) -/

/-- X of N samples at a bin: real and imaginary part; oldest sample first. -/
def dft (xs : List Rat) (k : Nat) : Rat × Rat :=
  let n := xs.length
  let z := ((List.range n).zip xs).foldl
    (fun (a : Rat × Rat) m =>
      let th : Rat := (k : Rat) * (m.1 : Rat) / n
      (a.1 + m.2 * cosT th, a.2 - m.2 * sinT th)) (0, 0)
  (2 * z.1 / n, 2 * z.2 / n)

/-- The bins of a configuration. -/
def injBins (c : Bytes) : List Nat := (List.range (u8 c 2)).map fun i => u16 c (44 + 8 * i)

/-- Key of the sums of a pass, channel and bin. -/
def accKey (pass ch bin : Nat) : Nat := (pass * 8 + ch) * 32 + bin

/-- Add one accepted window to the sums. -/
def addWindow (c : Bytes) (i : InjRun) (win : Tbl (List Rat)) : Tbl (Rat × Rat × Rat) :=
  win.foldl
    (fun t w =>
      if w.2.isEmpty then t
      else ((List.range (u8 c 2)).zip (injBins c)).foldl
        (fun (t : Tbl (Rat × Rat × Rat)) b =>
          let x := dft w.2 b.2
          let hi := dft w.2 (b.2 + 1)
          let lo := dft w.2 (b.2 - 1)
          let nse := if b.2 ≤ 1 then mag hi.1 hi.2 else (mag lo.1 lo.2 + mag hi.1 hi.2) / 2
          let key := accKey i.pass w.1 b.1
          let old := t.getD key (0, 0, 0)
          t.put key (old.1 + x.1, old.2.1 + x.2, old.2.2 + nse)) t) i.acc

/-- A window ends and the next one begins, in a blend or ramp where one is in progress (R134, R136, R138). -/
def windowEnd (s : State) : State :=
  match s.angle.inj, s.angle.injCfg with
  | some i, some c =>
    let stop := i.at_ + injWindow c
    let inWin (l : List (Nat × Rat × Bool)) : List (Nat × Rat × Bool) := l.filter fun x => decide (x.1 < stop)
    let later := i.samples.map fun e => (e.1, e.2.filter fun x => decide (stop ≤ x.1))
    let bad := i.spoilt || i.samples.any fun e => (inWin e.2).any fun x => x.2.2
    let j := { i with samples := later, spoilt := blendOrRamp s, at_ := stop }
    if bad then
      let k := { j with discarded := i.discarded + 1, disAll := i.disAll + 1 }
      let s1 := setInj k s
      if u16 c 16 < i.discarded + 1 then injAbort 8 s1 else s1
    else
      let win := i.samples.map fun e => (e.1, ((inWin e.2).map fun x => x.2.1).reverse)
      let k := { j with accepted := i.accepted + 1, accAll := i.accAll + 1, acc := addWindow c i win,
                        firstWin := some (i.firstWin.getD i.at_) }
      setInj (if u16 c 16 ≤ i.accepted + 1 then { k with phase := 3, g0 := 1, samples := [] } else k) s
  | _, _ => s

/-! ### The report (R138, R139) -/

/-- Mean coefficient of a channel and bin in a pass, with its noise. -/
def coefOf (i : InjRun) (avg : Nat) (pass ch bin : Nat) : (Rat × Rat) × Rat :=
  let a := i.acc.getD (accKey pass ch bin) (0, 0, 0)
  let n : Rat := if pass < i.pass then avg else max 1 i.accepted
  ((a.1 / n, a.2.1 / n), a.2.2 / n)

def cMul (a b : Rat × Rat) : Rat × Rat := (a.1 * b.1 - a.2 * b.2, a.1 * b.2 + a.2 * b.1)
def cSub (a b : Rat × Rat) : Rat × Rat := (a.1 - b.1, a.2 - b.2)
/-- Quotient of two complex numbers; the divisor is not zero. -/
def cDiv (a b : Rat × Rat) : Rat × Rat :=
  let m := b.1 * b.1 + b.2 * b.2
  ((a.1 * b.1 + a.2 * b.2) / m, (a.2 * b.1 - a.1 * b.2) / m)

/-- The g32 code of the ratio of a coefficient's magnitude to its noise (02_grid_forming.md R36); the spec states none for
a noise of zero and for a ratio beyond the format (DESIGN CHOICE, notes/assumptions/29.md). -/
def snrCode (x : (Rat × Rat) × Rat) : Option Nat :=
  if x.2 = 0 then none
  else
    let v := (rnd (mag x.1.1 x.1.2 / x.2 * 2 ^ 16)).toNat
    if v < 2 ^ 32 then some v else none

/-- SNR of a bin: the smallest over its channels; where one of them has no stated ratio, `free` stands there. -/
def minCode (free : Nat) (l : List (Option Nat)) : Nat :=
  if l.any Option.isNone then free % 2 ^ 32 else (l.filterMap id).foldl min (2 ^ 32 - 1)

def puPair (z : Rat × Rat) : Bytes := leI 4 (puCode z.1) ++ leI 4 (puCode z.2)

/-- One bin of a SISO report. With an excitation of exactly zero the quotient has no stated value: the first eight of
the free bytes stand there; SNR takes the last four where it is not stated (DESIGN CHOICE, notes/assumptions/47.md). -/
def sisoBin (i : InjRun) (avg : Nat) (free : Bytes) (b : Nat × Nat) : Bytes :=
  let x0 := coefOf i avg 0 0 b.1
  let x1 := coefOf i avg 0 1 b.1
  let snr := minCode (u32 free 8) [snrCode x0, snrCode x1]
  le 2 b.2 ++ le 2 (b2n (decide (snr < 10 * 65536))) ++
    (if x1.1 = (0, 0) then bytesAt 8 free 0 else puPair (cDiv x0.1 x1.1)) ++
    leI 4 (puCode (mag x1.1.1 x1.1.2)) ++ leI 4 (puCode (mag x0.1.1 x0.1.2)) ++ le 4 snr

/-- One bin of a DQ report: Z = V · I⁻¹. -/
def dqBin (i : InjRun) (avg : Nat) (free : Bytes) (b : Nat × Nat) : Bytes :=
  let x (pass ch : Nat) : Rat × Rat := (coefOf i avg pass ch b.1).1
  let snr := minCode (u32 free 8) (([0, 1].flatMap fun p => [0, 1, 2, 3].map fun ch => snrCode (coefOf i avg p ch b.1)))
  let det := cSub (cMul (x 0 2) (x 1 3)) (cMul (x 1 2) (x 0 3))
  let singular := decide (mag det.1 det.2 < 1 / 1000000)
  let z (r c : Nat) : Rat × Rat :=
    if singular then (0, 0)
    else if c = 0 then cDiv (cSub (cMul (x 0 r) (x 1 3)) (cMul (x 1 r) (x 0 3))) det
    else cDiv (cSub (cMul (x 1 r) (x 0 2)) (cMul (x 0 r) (x 1 2))) det
  le 2 b.2 ++ le 2 (b2n (decide (snr < 10 * 65536)) + 2 * b2n singular) ++ puPair (z 0 0) ++ puPair (z 0 1) ++ puPair (z 1 0) ++
    puPair (z 1 1) ++ le 4 snr

/-- The report of a run (Table 5.8), after STATUS and DETAIL. -/
def scanReport (c : Bytes) (i : InjRun) (free : Bytes) : Bytes :=
  let bins := (List.range (u8 c 2)).zip (injBins c)
  let f0 := (clampI 0 (2 ^ 32 - 1) (rnd (1600000000000000 / (injWindow c : Rat)))).toNat
  le 8 (i.firstWin.getD 0) ++ le 4 f0 ++ le 1 (u8 c 2) ++ le 1 (u8 c 18) ++ le 2 (b2n (i.abort != 0)) ++ le 2 i.accAll ++
    le 2 (min 0xFFFF i.disAll) ++ le 2 i.abort ++ le 2 0 ++
    bins.flatMap fun b =>
      let own := bytesAt 12 free (12 * b.1)
      if u8 c 18 = 2 then dqBin i (u16 c 16) own b else sisoBin i (u16 c 16) own b

/-! ### Bank exchange (R128) -/

/-- The oldest copy-back is complete (R128). -/
def copyBack (s : State) : State :=
  match s.angle.copying with
  | [] => s
  | (m, at_) :: r =>
    let s1 := (bitsOf 8 m).foldl (fun a n => setAngTab n { angTab a n with sh := (angTab a n).act } a) s
    raise 0x1301 m (le 8 at_) { s1 with angle := { s1.angle with copying := r } }

/-- The banks of one swap's tables exchange roles; a window in which a table swaps is discarded (R128, R136). -/
def exchangeOne (w : Nat × Nat) (s : State) : State :=
  let s1 := (bitsOf 8 w.1).foldl
    (fun a n => setAngTab n { angTab a n with act := (angTab a n).sh, sh := (angTab a n).act } a) s
  injSpoil { s1 with angle := { s1.angle with copying := s1.angle.copying ++ [w] } }

/-- The swaps whose exchange tick has come (R128). -/
def exchangeBanks (s : State) : State :=
  let ripe (w : Nat × Nat) : Bool := decide (w.2 ≤ s.now)
  (s.angle.swaps.filter ripe).foldl (fun a w => exchangeOne w a)
    { s with angle := { s.angle with swaps := s.angle.swaps.filter fun w => !ripe w } }

/-- The next publish tick after a tick (01_architecture.md R14). -/
def nextPublish (s : State) (t : Nat) : Nat :=
  let d := s.sys.tStep
  if t < s.sys.tPub then s.sys.tPub else ((t - s.sys.tPub) / d + 1) * d + s.sys.tPub

/-- Table configurations and bindings that wait for a publish tick take effect (R124, R129). -/
def anglePublish (s : State) : State :=
  let tab : Tbl AngTab := s.angle.tab.map fun e =>
    (e.1, match e.2.cfgPend with
      | some (src, m, o) => { e.2 with src := src, mult := m, offset := o, cfgPend := none }
      | none => e.2)
  let bind := s.angle.bind.map fun b => match b.pend with
    | some (g, p) => { b with gain := g, phase := p, pend := none }
    | none => b
  exchangeBanks { s with angle := { s.angle with tab := tab, bind := bind } }

end Sys2Proof.Machine
end

