-- ==== Sys2Proof/Machine/Angle.lean ====
section
/-! DEFINITION. The commands of the angle tables, the injection generator and the correlator
(05_angle_tables_injection.md). -/

namespace Sys2Proof.Machine

open Sys2Proof

/-! ### Tables (R123 to R128) -/

/-- OP_ANGLE_SET_TABLE (R124): in RUN at the next publish tick. -/
def execOpAngleSetTable (r : Req) (s : State) : Out :=
  runOp { code := 0x1301, states := stIARTS } r s fun p s =>
    let n := u8 p 0
    chk [lenIs p 8, outOf n 0 7 0, outOf (u8 p 1) 0 2 1, outOf (u8 p 2) 1 64 2, rsv p 3 1] fun _ =>
      let x := angTab s n
      .done (setAngTab n
        (if s.sys.state = .run then { x with cfgPend := some (u8 p 1, u8 p 2, u32 p 4) }
         else { x with src := u8 p 1, mult := u8 p 2, offset := u32 p 4, cfgPend := none }) s)

/-- A table's swap is pending or its copy-back runs (DEDUCED, notes/assumptions/49.md). -/
def tabBusy (s : State) (n : Nat) : Bool :=
  (s.angle.swaps ++ s.angle.copying).any fun w => w.1.testBit n

/-- OP_ANGLE_WRITE (R127). -/
def execOpAngleWrite (r : Req) (s : State) : Out :=
  runOp { code := 0x1302, states := stIARTS } r s fun p s =>
    let n := u8 p 0
    let start := u16 p 2
    let k := u16 p 4
    chk [(p.length != 8 + 4 * k, .badLength, 0), outOf n 0 7 0, rsv p 1 1, outOf start 0 1023 2, outOf k 1 1018 4, rsv p 6 2,
         (decide (1024 < start + k), .range, 2), (tabBusy s n, .busy, 0)] fun _ =>
      let sh := (List.range k).foldl
        (fun (t : Tbl Int) i =>
          let v := i32 p (8 + 4 * i)
          if v = 0 then t.del (start + i) else t.put (start + i) v) (angTab s n).sh
      .done (setAngTab n { angTab s n with sh := sh } s)

/-- OP_ANGLE_READ (R127). -/
def execOpAngleRead (r : Req) (s : State) : Out :=
  runOp { code := 0x1303, states := stIARTS } r s fun p s =>
    let start := u16 p 2
    let k := u16 p 4
    chk [lenIs p 8, outOf (u8 p 0) 0 7 0, (decide (1 < u8 p 1), .badParam, 1), outOf start 0 1023 2, outOf k 1 1018 4, rsv p 6 2,
         (decide (1024 < start + k), .range, 2)] fun _ =>
      let x := angTab s (u8 p 0)
      let bank := if u8 p 1 = 0 then x.act else x.sh
      .give s ((List.range k).flatMap fun i => leI 4 (bank.getD (start + i) 0))

/-- The 4,096 bytes of a shadow bank in entry order (R128). -/
def bankBytes (t : Tbl Int) : Bytes := (List.range 1024).flatMap fun i => leI 4 (t.getD i 0)

/-- OP_ANGLE_SWAP (R128): in RUN at the next publish tick, else at the tick that follows the check. Bytes 1 to 3, which the rule
does not name, are ignored (DESIGN CHOICE, notes/assumptions/162.md). -/
def execOpAngleSwap (r : Req) (s : State) : Out :=
  runOp { code := 0x1304, states := stIARTS } r s fun p s =>
    let m := u8 p 0
    let bad := (bitsOf 8 m).find? fun n => u32 p (4 + 4 * n) != crc32c (bankBytes (angTab s n).sh)
    chk [lenIs p 36, (bad.isSome, .check, bad.getD 0), (m == 0, .badParam, 0), ((bitsOf 8 m).any (tabBusy s), .busy, 0)] fun _ =>
      let s1 := exchangeBanks s
      let at_ := if s.sys.state = .run then nextPublish s s.now else s.now + 1
      .yes { s1 with angle := { s1.angle with swaps := s1.angle.swaps ++ [(m, at_)] } } .accepted 0 []

/-- ANGLE_BANK_EXCHANGE (R128). -/
def execAngleBankExchange (t : Nat) (s : State) : Out :=
  ev t s exchangeBanks

/-- ANGLE_COPY_BACK_DONE (R128). -/
def execAngleCopyBackDone (t : Nat) (s : State) : Out := ev t s copyBack

/-! ### Bindings (R129) -/

/-- The fields of an OP_ANGLE_BIND payload: an unknown KIND is a code that is not permitted (17_opcodes.md Table 17.10), the
target is a channel 0 to 63 or a leg 0 to 47, GAIN lies between −2.0 and 2.0. -/
def bindChecks (p : Bytes) : List (Bool × Status × Nat) :=
  [lenIs p 12, outOf (u8 p 0) 0 7 0, (decide (2 < u8 p 1), .badParam, 1), outOf (u8 p 2) 0 (if u8 p 1 = 2 then 47 else 63) 2,
   rsv p 3 1, outOfI (i32 p 4) (-(2 ^ 28)) (2 ^ 28) 4]

/-- The binding that a payload names. -/
def sameBind (p : Bytes) (b : AngBind) : Bool := b.table == u8 p 0 && b.kind == u8 p 1 && b.target == u8 p 2

/-- TABLE, KIND and TARGET of a payload name a binding that may exist; else the state condition is passed over and the
fields refuse (17_opcodes.md R387). -/
def namesBind (p : Bytes) : Bool :=
  decide (3 ≤ p.length) && decide (u8 p 0 ≤ 7) && decide (u8 p 1 ≤ 2) && decide (u8 p 2 ≤ if u8 p 1 = 2 then 47 else 63)

/-- OP_ANGLE_BIND with KIND REF_ADD or DUTY_ADD (R129). -/
def execOpAngleBind (r : Req) (s : State) : Out :=
  runOp { code := 0x1305, states := stIARTS } r s fun p s =>
    let rt := s.sys.state == .run || s.sys.state == .tripped
    let old := s.angle.bind.any (sameBind p)
    let g := i32 p 4
    let full := (s.angle.bind.filter fun b => b.kind == u8 p 1 && b.target == u8 p 2).length
    chk ([(rt && namesBind p && !old, Status.badState, 0)] ++ bindChecks p ++
         [(u8 p 1 == 0, .badParam, 1), (!old && decide (2 ≤ full), .noResource, 0)]) fun _ =>
      let upd (b : AngBind) : AngBind :=
        if sameBind p b then
          if rt then { b with pend := some (g, u32 p 8) } else { b with gain := g, phase := u32 p 8, pend := none }
        else b
      let l := if old then s.angle.bind.map upd
        else s.angle.bind ++ [{ table := u8 p 0, kind := u8 p 1, target := u8 p 2, gain := g, phase := u32 p 8 }]
      .done { s with angle := { s.angle with bind := l } }

/-- OP_ANGLE_BIND with KIND REMOVE (R129): KIND holds REMOVE, so the bindings of TABLE and TARGET are meant, of either kind
(DEDUCED, notes/assumptions/30.md). -/
def execOpAngleBindRemove (r : Req) (s : State) : Out :=
  runOp { code := 0x1305, states := stIARTS } r s fun p s =>
    let rt := s.sys.state == .run || s.sys.state == .tripped
    let mine (b : AngBind) : Bool := b.table == u8 p 0 && b.target == u8 p 2
    chk ([(rt && decide (2 ≤ p.length), Status.badState, 0)] ++ bindChecks p ++ [(u8 p 1 != 0, .badParam, 1), (!s.angle.bind.any mine, .badParam, 0)])
      fun _ => .done { s with angle := { s.angle with bind := s.angle.bind.filter fun b => !mine b } }

/-! ### Generator (R131 to R135) -/

/-- Sample period in ticks of a correlator source; none for a chain that gives no output. -/
def srcPeriod (s : State) (x : Nat × Nat) : Option Rat :=
  if x.1 = 1 then some s.sys.tStep
  else if x.1 = 2 then
    match (fchain s x.2).act with
    | some f =>
      let rate := chainRate (cfNow s) (pmNow s) x.2 f.sel
      if rate = 0 ∨ f.mode = 0 then none else some (1600000000 / rate * f.mEff)
    | none => none
  else none

/-- The sources that a configuration's correlator uses (R137). -/
def injSources (s : State) (scan : Nat) : List Rat :=
  ((List.range 8).map (corrSrcOf scan s)).filterMap (srcPeriod s)

/-- Checks of an OP_ANGLE_INJ_SET payload (R131, R133): a run in progress comes before the fields (17_opcodes.md R387). What
a waveform has no use for is checked where Table 5.4 states its range and does not call it ignored (DEDUCED,
notes/assumptions/145.md). -/
def injChecks (s : State) (p : Bytes) : List (Bool × Status × Nat) :=
  let w := u8 p 0
  let n := u8 p 2
  let scan := u8 p 18
  let point := if scan = 2 then 2 else u8 p 1
  let code (q : Rat) : Int := rnd (q * 2 ^ 27)
  let seq := decide (w < 2)
  let k (i : Nat) : Nat := u16 p (44 + 8 * i)
  let tone (i : Nat) : List (Bool × Status × Nat) :=
    [(decide (k i = 0) || (decide (0 < i) && decide (k i ≤ k (i - 1))), .range, 44 + 8 * i), rsv p (46 + 8 * i) 2]
  let tw := injWindow p
  let srcs := injSources s scan
  let multiple (d : Rat) : Bool := decide (((tw : Rat) / d).den = 1)
  let fMax : Rat := if point = 4 then 100000 else 160000000 / s.sys.tStep
  let fast (x : Nat) : Bool :=
    let f : Rat := x * 1600000000 / tw
    decide (fMax < f) || srcs.any fun d => decide (1600000000 / d / 4 < f)
  let peak : Int := if seq then ((List.range n).map fun i => |i32 p (48 + 8 * i)|).sum else |i32 p 24|
  [(p.length != 44 + 8 * n, .badLength, 0), (s.angle.inj.isSome, .busy, 0), outOf w 0 3 0, outOf (u8 p 1) 0 4 1, outOf n 1 32 2,
   (w == 2 && (decide (u8 p 3 < 7) || decide (16 < u8 p 3)), .range, 3), (point == 4 && zeroAt p 4 8, .range, 4),
   (w != 2 && (decide (u32 p 12 < 10000) || decide (60000000 < u32 p 12)), .range, 12), outOf (u16 p 16) 1 1000 16,
   outOf scan 0 2 18, rsv p 19 1, outOf (u32 p 20) 1000 1000000 20,
   outOfI (i32 p 28) 1 (code (if point = 1 then 1 / 20 else 1 / 10)) 28, outOfI (i32 p 32) (code (1 / 200)) (code (1 / 10)) 32,
   (decide (u16 p 38 ≤ u16 p 36), .range, 38),
   outOf (u32 p 40) 80 1600000 40] ++
  ((List.range n).flatMap tone) ++
  [(w == 0 && n != 1, .badParam, 2), (!seq && (List.range n).any (fun i => i32 p (48 + 8 * i) != 0), .badParam, 48),
   (!multiple s.sys.tStep || srcs.any (fun d => !multiple d), .badParam, 12)] ++
  ((List.range n).map fun i => (fast (k i), Status.range, i)) ++
  [(w == 3 && fast (u16 p 38), .range, 0), (decide (i32 p 28 < peak), .range, 28)]

/-- OP_ANGLE_INJ_SET (R131, R133). -/
def execOpAngleInjSet (r : Req) (s : State) : Out :=
  runOp { code := 0x1306, states := stIAR } r s fun p s =>
    chk (injChecks s p) fun _ => .done { s with angle := { s.angle with injCfg := some p } }

/-- OP_ANGLE_INJ_START (R134): fade-in starts at the next step boundary. -/
def execOpAngleInjStart (r : Req) (s : State) : Out :=
  runOp { code := 0x1307, states := stR } r s fun p s =>
    chk [((s.sys.mode != .gf && s.sys.mode != .gfl) || s.gfm.run.ho.isSome || !holds s, .badState, 0), lenIs p 4, rsv p 0 4,
         (s.angle.injCfg.isNone, .notReady, 0), (s.angle.inj.isSome, .busy, 0)] fun _ =>
      .done { s with angle := { s.angle with inj := some {}, report := none, reporting := none } }

/-- INJECTION_FADE_IN_DONE (R134): windows run back to back from the end of fade-in. -/
def execInjectionFadeInDone (t : Nat) (s : State) : Out :=
  ev t s fun s =>
    match s.angle.inj with
    | some i => if i.phase = 1 ∧ reached s (i.at_ + injFade s) then
        setInj { i with phase := 2, at_ := i.at_ + injFade s, spoilt := blendOrRamp s, samples := [] } s else s
    | none => s

/-- CORRELATION_WINDOW_END (R138). -/
def execCorrelationWindowEnd (t : Nat) (s : State) : Out :=
  ev t s fun s =>
    match s.angle.inj with
    | some i => if i.phase = 2 ∧ reached s (i.at_ + injTw s) then windowEnd s else s
    | none => s

/-- End of a fade-out: T_FADE after it began, at once where g is 0 (R132, R135). -/
def fadeEnd (s : State) (i : InjRun) : Nat := if i.g0 = 0 then i.at_ else i.at_ + injFade s

/-- INJECTION_FADE_OUT_DONE (R132, R134): the second pass of a DQ scan follows, or the run ends, with its event (DEDUCED,
notes/assumptions/46.md). -/
def execInjectionFadeOutDone (t : Nat) (s : State) : Out :=
  ev t s fun s =>
    match s.angle.inj with
    | some i =>
      if i.phase = 3 ∧ reached s (fadeEnd s i) then
        if injScan s = 2 ∧ i.pass = 0 ∧ i.abort = 0 ∧ ¬ i.stopped then
          setInj { i with phase := 1, pass := 1, start := fadeEnd s i, at_ := fadeEnd s i, accepted := 0, discarded := 0, spoilt := false } s
        else
          let rep := decide (injScan s ≠ 0) && !i.stopped && (i.abort == 0 || i.accAll != 0)
          let s1 := raise 0x1304 0 [] s
          { s1 with angle := { s1.angle with inj := none, reporting := if rep then some (s.angle.injCfg.getD [], i) else none } }
      else s
    | none => s

/-- SCAN_REPORT_READY (R139). -/
def execScanReportReady (t : Nat) (s : State) : Out :=
  ev t s fun s =>
    match s.angle.reporting with
    | some (c, i) =>
      let d := drawBytes 384 s
      raise 0x1305 0 [] { d.2 with angle := { d.2.angle with reporting := none, report := some (scanReport c i d.1) } }
    | none => s

/-- OP_ANGLE_INJ_STOP (R134). -/
def execOpAngleInjStop (r : Req) (s : State) : Out :=
  runOp { code := 0x1308, states := stR } r s fun p s =>
    fourReserved p fun _ =>
      match s.angle.inj with
      | none => .no .notReady 0
      | some i =>
        if i.phase = 3 then .done (setInj { i with stopped := i.stopped || i.abort == 0 } s)
        else .done (setInj { i with phase := 3, g0 := injG s i s.now, at_ := s.now, stopped := true } s)

/-- OP_ANGLE_CORR_SET (R137). -/
def execOpAngleCorrSet (r : Req) (s : State) : Out :=
  runOp { code := 0x1309, states := stIARTS } r s fun p s =>
    let one (k : Nat) : List (Bool × Status × Nat) :=
      [(decide (2 < u8 p (4 * k)), .badParam, 4 * k), (u8 p (4 * k) == 1 && decide (8 < u8 p (4 * k + 1)), .range, 4 * k + 1),
       (u8 p (4 * k) == 2 && decide (19 < u8 p (4 * k + 1)), .range, 4 * k + 1), rsv p (4 * k + 2) 2]
    chk ([lenIs p 32] ++ (List.range 8).flatMap one ++ [(s.angle.inj.isSome, .busy, 0)]) fun _ =>
      .done { s with angle := { s.angle with corr := (List.range 8).map fun k => (k, (u8 p (4 * k), u8 p (4 * k + 1))) } }

/-- OP_ANGLE_SCAN_READ (R139). -/
def execOpAngleScanRead (r : Req) (s : State) : Out :=
  runOp { code := 0x130A, states := stIARTS } r s fun p s =>
    fourReserved p fun _ => match s.angle.report with | some b => .give s b | none => .no .notReady 0

end Sys2Proof.Machine
end

