-- ==== Sys2Proof/Machine/Float32.lean ====
section
/-! DEFINITION. FLOAT32 as the 32 bits of an IEEE 754 binary32 (13_plant_network_time.md Tables 13.6, 13.7, R321;
the spec names the format and leaves its rounding to the standard: PRESUMED, notes/assumptions/32.md). -/

namespace Sys2Proof.Machine

open Sys2Proof

/-- 2^e as a rational. -/
def pow2 (e : Int) : Rat := if 0 ≤ e then 2 ^ e.toNat else 1 / 2 ^ (-e).toNat

/-- The value of a binary32 code; an infinity stands beyond every finite value, a NaN has none. -/
def f32Val (b : Nat) : Option Rat :=
  let m : Nat := b % 2 ^ 23
  let e := bits b 30 23
  let sign : Rat := if b.testBit 31 then -1 else 1
  if e = 255 then (if m = 0 then some (sign * 2 ^ 128) else none)
  else if e = 0 then some (sign * (m : Rat) * pow2 (-149))
  else some (sign * ((2 ^ 23 + m : Nat) : Rat) * pow2 ((e : Int) - 150))

/-- Round to nearest, ties to even. -/
def rndEven (q : Rat) : Int :=
  let f := q.floor
  let r := q - f
  if r < 1 / 2 then f else if 1 / 2 < r then f + 1 else if f % 2 = 0 then f else f + 1

/-- The binary32 code nearest to a rational. -/
def f32Of (q : Rat) : Nat :=
  if q = 0 then 0
  else
    let a := |q|
    let e0 : Int := (Nat.log2 a.num.toNat : Int) - Nat.log2 a.den
    let e := max (-126) (if pow2 e0 ≤ a then e0 else e0 - 1)
    let m := (rndEven (a / pow2 (e - 23))).toNat
    let c := if m < 2 ^ 23 then m else (e + 126).toNat * 2 ^ 23 + m
    (if q < 0 then 2 ^ 31 else 0) + min c 0x7F800000

end Sys2Proof.Machine
end

