-- ==== Sys2Proof/Machine/Crypto.lean ====
section
/-! DEFINITION. SM3 (GB/T 32905), SM2 signatures (GB/T 32918) and the certificates of the device (20_security.md R436, R446). The
spec names the standards; their constants are the standards' own (PRESUMED, notes/assumptions/36.md). -/

namespace Sys2Proof.Machine

open Sys2Proof

/-! ### SM3 -/

/-- Expanded words of a block, newest first: 68 of them. -/
def sm3Expand (fuel : Nat) (w : List (BitVec 32)) : List (BitVec 32) :=
  match fuel with
  | 0 => w
  | k + 1 =>
    let g (i : Nat) : BitVec 32 := w.getD (i - 1) 0
    let x := g 16 ^^^ g 9 ^^^ (g 3).rotateLeft 15
    let p := x ^^^ x.rotateLeft 15 ^^^ x.rotateLeft 23
    sm3Expand k ((p ^^^ (g 13).rotateLeft 7 ^^^ g 6) :: w)

/-- The eight working registers A to H. -/
structure Sm3Regs where
  a : BitVec 32
  b : BitVec 32
  c : BitVec 32
  d : BitVec 32
  e : BitVec 32
  f : BitVec 32
  g : BitVec 32
  h : BitVec 32

/-- Round j of the compression with its words W_j and W'_j. -/
def sm3Round (v : Sm3Regs) (j : Nat) (w w' : BitVec 32) : Sm3Regs :=
  let t : BitVec 32 := if j < 16 then 0x79CC4519#32 else 0x7A879D8A#32
  let ss1 := (v.a.rotateLeft 12 + v.e + t.rotateLeft (j % 32)).rotateLeft 7
  let ss2 := ss1 ^^^ v.a.rotateLeft 12
  let ff := if j < 16 then v.a ^^^ v.b ^^^ v.c else (v.a &&& v.b) ||| (v.a &&& v.c) ||| (v.b &&& v.c)
  let gg := if j < 16 then v.e ^^^ v.f ^^^ v.g else (v.e &&& v.f) ||| (~~~v.e &&& v.g)
  let tt1 := ff + v.d + ss2 + w'
  let tt2 := gg + v.h + ss1 + w
  { a := tt1, b := v.a, c := v.b.rotateLeft 9, d := v.c, e := tt2 ^^^ tt2.rotateLeft 9 ^^^ tt2.rotateLeft 17, f := v.e,
    g := v.f.rotateLeft 19, h := v.g }

/-- Compress one block of 64 bytes. -/
def sm3Block (v : Sm3Regs) (b : Bytes) : Sm3Regs :=
  let w := (sm3Expand 52 ((List.range 16).map fun k => BitVec.ofNat 32 (uBE 4 b (4 * k))).reverse).reverse
  let r := (List.range 64).foldl (fun x j => sm3Round x j (w.getD j 0) (w.getD j 0 ^^^ w.getD (j + 4) 0)) v
  { a := v.a ^^^ r.a, b := v.b ^^^ r.b, c := v.c ^^^ r.c, d := v.d ^^^ r.d, e := v.e ^^^ r.e, f := v.f ^^^ r.f, g := v.g ^^^ r.g,
    h := v.h ^^^ r.h }

/-- Compress block after block. -/
def sm3Blocks (fuel : Nat) (v : Sm3Regs) (b : Bytes) : Sm3Regs :=
  match fuel with
  | 0 => v
  | k + 1 => sm3Blocks k (sm3Block v (b.take 64)) (b.drop 64)

/-- The digest's registers at the start. -/
def sm3Iv : Sm3Regs :=
  { a := 0x7380166F#32, b := 0x4914B2B9#32, c := 0x172442D7#32, d := 0xDA8A0600#32, e := 0xA96F30BC#32, f := 0x163138AA#32,
    g := 0xE38DEE4D#32, h := 0xB0FB0E4E#32 }

/-- SM3 of a byte string, 32 bytes. -/
@[irreducible] def sm3 (m : Bytes) : Bytes :=
  let n := m.length
  let p := m ++ [0x80#8] ++ List.replicate ((119 - n % 64) % 64) 0#8 ++ be 8 (8 * n)
  let v := sm3Blocks (p.length / 64) sm3Iv p
  [v.a, v.b, v.c, v.d, v.e, v.f, v.g, v.h].flatMap fun x => be 4 x.toNat

/-! ### The curve sm2p256v1 -/

def sm2P : Nat := 0xFFFFFFFEFFFFFFFFFFFFFFFFFFFFFFFFFFFFFFFF00000000FFFFFFFFFFFFFFFF
def sm2A : Nat := sm2P - 3
def sm2B : Nat := 0x28E9FA9E9D9F5E344D5A9E4BCF6509A7F39789F515AB8F92DDBCBD414D940E93
def sm2N : Nat := 0xFFFFFFFEFFFFFFFFFFFFFFFFFFFFFFFF7203DF6B21C6052B53BBF40939D54123
def sm2G : Nat × Nat :=
  (0x32C4AE2C1F1981195F9904466A39C9948FE30BBFF2660BE1715A4589334C74C7, 0xBC3736A2F4F6779C59BDCEE36B692153D0A9877CC62A474002DF32E52139F0A0)

/-- x^e modulo m, by the bits of e from the least significant on. -/
def powMod (fuel x e m acc : Nat) : Nat :=
  match fuel with
  | 0 => acc
  | k + 1 => powMod k (x * x % m) (e / 2) m (if e % 2 = 1 then acc * x % m else acc)

/-- The inverse modulo a prime of 256 bits. -/
def invMod (x m : Nat) : Nat := powMod 256 (x % m) (m - 2) m 1

/-- A point of the curve; none is the point at infinity. -/
abbrev Point := Option (Nat × Nat)

/-- The third point of the line of slope l through a point and another of abscissa x2, mirrored. -/
def sm2Line (l : Nat) (p : Nat × Nat) (x2 : Nat) : Point :=
  let x := (l * l + 2 * sm2P - p.1 - x2) % sm2P
  some (x, (l * (p.1 + sm2P - x) + sm2P - p.2) % sm2P)

def sm2Add (p q : Point) : Point :=
  match p, q with
  | none, _ => q
  | _, none => p
  | some a, some b =>
    if a.1 = b.1 then
      if (a.2 + b.2) % sm2P = 0 then none else sm2Line ((3 * a.1 * a.1 + sm2A) * invMod (2 * a.2) sm2P % sm2P) a b.1
    else sm2Line ((b.2 + sm2P - a.2) * invMod (b.1 + sm2P - a.1) sm2P % sm2P) a b.1

/-- k times a point, by the bits of k from the least significant on. -/
def sm2Mul (fuel k : Nat) (p acc : Point) : Point :=
  match fuel with
  | 0 => acc
  | n + 1 => sm2Mul n (k / 2) (sm2Add p p) (if k % 2 = 1 then sm2Add acc p else acc)

/-- k times the base point. -/
def sm2Base (k : Nat) : Point := sm2Mul 256 k (some sm2G) none

/-- A public key as 64 bytes: x, then y. -/
def pointBytes (p : Point) : Bytes := let q := p.getD (0, 0); be 32 q.1 ++ be 32 q.2

/-- The public key is a point of the curve. -/
def onCurve (q : Nat × Nat) : Bool :=
  decide (q.1 < sm2P) && decide (q.2 < sm2P) && q.2 * q.2 % sm2P == (q.1 * q.1 * q.1 + sm2A * q.1 + sm2B) % sm2P

/-! ### SM2 signatures -/

/-- The signer's distinguishing identifier, ASCII 1234567812345678 (20_security.md R436). -/
def sm2Id : Bytes := [0x31, 0x32, 0x33, 0x34, 0x35, 0x36, 0x37, 0x38, 0x31, 0x32, 0x33, 0x34, 0x35, 0x36, 0x37, 0x38]

/-- The digest that is signed: SM3 of the signer's digest Z and the message. -/
def sm2Digest (pub m : Bytes) : Nat :=
  let z := sm3 (be 2 (8 * sm2Id.length) ++ sm2Id ++ be 32 sm2A ++ be 32 sm2B ++ pointBytes (some sm2G) ++ pub)
  uBE 32 (sm3 (z ++ m)) 0

/-- Verification of an SM2 signature: public key, message, signature r and s (20_security.md R436). -/
@[irreducible] def sm2Verify (pub m sig : Bytes) : Bool :=
  let q := (uBE 32 pub 0, uBE 32 pub 32)
  let r := uBE 32 sig 0
  let v := uBE 32 sig 32
  let t := (r + v) % sm2N
  if pub.length ≠ 64 ∨ sig.length ≠ 64 ∨ onCurve q = false ∨ r = 0 ∨ sm2N ≤ r ∨ v = 0 ∨ sm2N ≤ v ∨ t = 0 then false
  else
    match sm2Add (sm2Base v) (sm2Mul 256 t (some q) none) with
    | none => false
    | some x => (sm2Digest pub m + x.1) % sm2N == r

/-- The SM2 signature of a message under a private key, with a number k of the signer's choice. -/
@[irreducible] def sm2Sign (d k : Nat) (m : Bytes) : Bytes :=
  let x := match sm2Base k with | some p => p.1 | none => 0
  let r := (sm2Digest (pointBytes (sm2Base d)) m + x) % sm2N
  be 32 r ++ be 32 (invMod (1 + d) sm2N * (k + sm2N * sm2N - r * d) % sm2N)

/-! ### Keys and certificates (20_security.md R446) -/

/-- The private key of the device (0), of the product CA (1) and of the root (2). -/
def secretOf (k : Nat) : Nat := 1 + Config.secret k % (sm2N - 2)

/-- The public key of the device, of the product CA and of the root. -/
@[irreducible] def keyOf (k : Nat) : Bytes := pointBytes (sm2Base (secretOf k))

/-- A signature with one of those keys; the number it takes is the signer's own (free value, DESIGN CHOICE,
notes/assumptions/2.md). -/
def signWith (k : Nat) (m : Bytes) : Bytes := sm2Sign (secretOf k) (1 + Config.signNonce k m % (sm2N - 1)) m

/-- The device's signature of a message (20_security.md R447), 64 bytes. -/
def deviceSign (m : Bytes) : Bytes := signWith 0 m

/-- VENDOR_HASH: the SM3 of the root's public key (20_security.md R435, R446). -/
def vendorHash : Bytes := sm3 (keyOf 2)

/-- A DER element: tag, length and contents. -/
def der (tag : Nat) (b : Bytes) : Bytes :=
  let n := b.length
  be 1 tag ++ (if n < 128 then be 1 n else if n < 256 then be 1 0x81 ++ be 1 n else be 1 0x82 ++ be 2 n) ++ b

/-- A DER INTEGER of a non-negative number given in bytes, without leading zeros but for the sign. -/
def derInt (b : Bytes) : Bytes :=
  let c := b.dropWhile (· == 0#8)
  der 0x02 (if 128 ≤ u8 c 0 ∨ c = [] then 0#8 :: c else c)

/-- The object identifiers of SM2 with SM3, of an elliptic-curve key, and of the curve. -/
def oidSm2Sm3 : Bytes := der 0x06 [0x2A, 0x81, 0x1C, 0xCF, 0x55, 0x01, 0x83, 0x75]
def oidEcKey : Bytes := der 0x06 [0x2A, 0x86, 0x48, 0xCE, 0x3D, 0x02, 0x01]
def oidSm2Curve : Bytes := der 0x06 [0x2A, 0x81, 0x1C, 0xCF, 0x55, 0x01, 0x82, 0x2D]

/-- What a certificate says before its signature: version 3, serial number, algorithm, issuer, validity, subject, key and
extensions. Which serial number, names, dates and extensions stand in it is the vendor's (free values, DESIGN CHOICE,
notes/assumptions/2.md). -/
def certBody (k : Nat) : Bytes :=
  let name (j : Nat) : Bytes := der 0x30 ((Config.certField j 0).take 512)
  der 0x30 (der 0xA0 (der 0x02 [2]) ++ derInt ((Config.certField k 1).take 20) ++ der 0x30 oidSm2Sm3 ++ name (min 2 (k + 1)) ++
    der 0x30 ((Config.certField k 2).take 64) ++ name k ++
    der 0x30 (der 0x30 (oidEcKey ++ oidSm2Curve) ++ der 0x03 ([0, 4] ++ keyOf k)) ++
    der 0xA3 (der 0x30 ((Config.certField k 3).take 1024)))

/-- The certificate of the device (0), of the product CA (1) and of the root (2): X.509 version 3 in DER, signed by the
issuer with SM2 and SM3 (20_security.md R446). -/
@[irreducible] def cert (k : Nat) : Bytes :=
  let b := certBody k
  let sig := signWith (min 2 (k + 1)) b
  der 0x30 (b ++ der 0x30 oidSm2Sm3 ++ der 0x03 (0#8 :: der 0x30 (derInt (sig.take 32) ++ derInt (sig.drop 32))))

end Sys2Proof.Machine
end

