-- ==== Sys2Proof/Machine/Gauntlet.lean ====
section
/-! DEFINITION. The Gauntlet's commands: fault inputs, records, the reaction table's loading and the choppers
(07_gauntlet.md). -/

namespace Sys2Proof.Machine

open Sys2Proof

/-! ### Inputs and blanking (R168, R170) -/

/-- OP_GNT_SET_INPUTS (R168): an asserted input that becomes enabled counts as asserted from now (DEDUCED,
notes/assumptions/62.md). -/
def execOpGntSetInputs (r : Req) (s : State) : Out :=
  runOp { code := 0x1501, states := stIA } r s fun p s =>
    let m := u64 p 0
    chk [lenIs p 8, (m / 2 ^ 50 != 0, .badParam, 6)] fun _ =>
      let input := s.gnt.input.map fun e =>
        (e.1, if m.testBit e.1 ∧ ¬ s.gnt.enable.testBit e.1 ∧ e.2.asserted then
          { e.2 with since := s.now, recognised := false, inWindow := decide (s.now < e.2.blankTo), outlived := none } else e.2)
      .done { s with gnt := { s.gnt with enable := m, input := input } }

/-- OP_GNT_SET_BLANK (R170). -/
def execOpGntSetBlank (r : Req) (s : State) : Out :=
  runOp { code := 0x1502, states := stIA } r s fun p s =>
    chk (lenIs p 32 :: (List.range 16).map fun k => outOf (u16 p (2 * k)) 0 6400 (2 * k)) fun _ =>
      .done { s with gnt := { s.gnt with bt := (List.range 16).map fun k => (k, u16 p (2 * k)) } }

/-! ### Records (R173) -/

/-- OP_GNT_GET_RECORDS (R173). -/
def execOpGntGetRecords (r : Req) (s : State) : Out :=
  runOp { code := 0x1503, states := stIARTS } r s fun p s =>
    chk [lenIs p 12, outOf (u8 p 8) 1 80 8, rsv p 9 3] fun _ =>
      let l := (s.gnt.ring.filter fun x => decide (u64 p 0 ≤ x.recNo)).take (u8 p 8)
      .give s (le 1 l.length ++ le 3 0 ++ l.flatMap FRec.bytes)

/-- OP_GNT_UNPIN (R173). -/
def execOpGntUnpin (r : Req) (s : State) : Out :=
  runOp { code := 0x1504, states := stIARTS } r s fun p s =>
    fourReserved p fun _ =>
      .done { s with gnt := { s.gnt with ring := s.gnt.ring.map fun x => { x with pinned := false } } }

/-! ### The reaction table (R176, R177) -/

/-- The entry at an offset of a payload (Table 7.3). -/
def entryAt (p : Bytes) (o : Nat) : Entry :=
  { actions := u16 p o, group := u8 p (o + 2), armMask := u8 p (o + 3), brkPio := u8 p (o + 4), chopMask := u8 p (o + 5) }

/-- Entry `id` is refused (R177). -/
def tableEntryBad (s : State) (p : Bytes) (id : Nat) : Bool :=
  let o := 4 + 8 * id
  let e := entryAt p o
  let isl := s.grid.par.target.getD 0x15 0
  let sync := s.grid.par.target.getD 0x1A 0xFF
  let ball : Int := e.brkPio % 32
  e.actions / 512 != 0 || bits e.brkPio 6 5 != 0 || e.chopMask / 4 != 0 || u16 p (o + 6) != 0 ||
    (decide (29 ≤ id) && e.actions != 0) || (decide (15 < e.group) && e.group != 0xFF) ||
    (e.actions.testBit 2 && e.group == 0xFF) || (e.actions.testBit 4 && e.armMask == 0) ||
    (e.actions.testBit 6 && e.chopMask == 0) || (e.actions.testBit 7 && (ball == isl || ball == sync))

def stage (t : List Entry) (s : State) : State := { s with gnt := { s.gnt with staging := some t } }

/-- The length and SOURCE of an OP_GNT_LOAD_TABLE payload. -/
def loadTableChecks (p : Bytes) (source : Nat) : List (Bool × Status × Nat) :=
  [((u8 p 0 == 0 && p.length != 516) || (u8 p 0 == 1 && p.length != 4), .badLength, 0), (u8 p 0 != source, .badParam, 0),
   rsv p 1 3]

/-- OP_GNT_LOAD_TABLE with SOURCE PAYLOAD (R177). -/
def execOpGntLoadTable (r : Req) (s : State) : Out :=
  runOp { code := 0x1505, states := stIAT } r s fun p s =>
    chk (loadTableChecks p 0) fun _ =>
      match (List.range 64).find? (tableEntryBad s p) with
      | some k => .no .badParam k
      | none => .done (stage ((List.range 64).map fun k => entryAt p (4 + 8 * k)) s)

/-- OP_GNT_LOAD_TABLE with SOURCE FACTORY (R177). -/
def execOpGntLoadTableFactory (r : Req) (s : State) : Out :=
  runOp { code := 0x1505, states := stIAT } r s fun p s => chk (loadTableChecks p 1) fun _ => .done (stage factoryTable s)

/-- OP_GNT_CONFIRM (R177): the staged table becomes active at the next tick. -/
def execOpGntConfirm (r : Req) (s : State) : Out :=
  runOp { code := 0x1506, states := stIAT } r s fun p s =>
    chk [lenIs p 4] fun _ =>
      match s.gnt.staging with
      | none => .no .notReady 0
      | some t =>
        if u32 p 0 ≠ crc32c (tableBytes t) then .no .check 0
        else .done (notePins (raise 0x1505 0 (le 4 (u32 p 0))
          { s with gnt := { s.gnt with table := tableAt s, tableNext := some (t, s.now + 1), staging := none, confirmed := true } }))

/-- OP_GNT_GET_TABLE (R177). -/
def execOpGntGetTable (r : Req) (s : State) : Out :=
  runOp { code := 0x1507, states := stIARTS } r s fun p s =>
    fourReserved p fun _ =>
      let b := tableBytes (activeTable s)
      .give s (b ++ le 4 (crc32c b) ++ le 1 (b2n s.gnt.confirmed) ++ le 3 0)

/-! ### Choppers (R182 to R186) -/

/-- OP_GNT_SET_CHOP (R182). -/
def execOpGntSetChop (r : Req) (s : State) : Out :=
  runOp { code := 0x1508, states := stIA } r s fun p s =>
    let k := u8 p 0
    let src := u16 p 4
    chk [lenIs p 40, outOf k 0 1 0, rsvBits p 1 1, (decide (15 < u8 p 2) && u8 p 2 != 0xFF, .range, 2), rsvBits p 3 4,
         (src / 256 != 0 || selReserved 0 (src / 16), .badParam, 4), rsv p 18 2, outOf (u32 p 20) 1 4000000 20,
         outOf (u32 p 24) 100 100000 24, outOf (u32 p 28) 1000 3600000 28, outOf (u32 p 32) 100 100000000 32, rsv p 36 4,
         (decide (i16 p 8 ≤ i16 p 10) || decide (i16 p 12 ≤ i16 p 8), .range, 8)] fun _ =>
      let c := chop s k
      .done (chopSettle (setChop k
        { c with written := true, autoRun := (u8 p 1).testBit 0, group := u8 p 2, blankSel := u8 p 3, srcConv := src % 16,
                 srcSel := src / 16, ofsCode := i16 p 6, codeOn := i16 p 8, codeOff := i16 p 10, codeTrip := i16 p 12,
                 minOn := u16 p 14, minOff := u16 p 16, scaleMv := u32 p 20, rMohm := u32 p 24, tauMs := u32 p 28, eHot := u32 p 32,
                 inq := [], tripRun := 0 } s))

/-- Checks of an OP_GNT_CHOP_CTRL payload whose ACTION is this row's. -/
def chopCtrlChecks (p : Bytes) (action : Nat) : List (Bool × Status × Nat) :=
  [lenIs p 4, outOf (u8 p 0) 0 1 0, (u8 p 1 != action, .badParam, 1), rsv p 2 2]

/-- OP_GNT_CHOP_CTRL with ACTION RELEASE (R183, R186). -/
def execOpGntChopCtrlRelease (r : Req) (s : State) : Out :=
  runOp { code := 0x1509, states := stIARTS } r s fun p s =>
    chk (chopCtrlChecks p 0) fun _ => .done (chopSettle (setChop (u8 p 0) { chop s (u8 p 0) with forced := false } s))

/-- OP_GNT_CHOP_CTRL with ACTION ENABLE (R186). -/
def execOpGntChopCtrlEnable (r : Req) (s : State) : Out :=
  runOp { code := 0x1509, states := stIARTS } r s fun p s =>
    let i := 48 + u8 p 0
    chk (chopCtrlChecks p 1 ++ [((finput s i).asserted && s.gnt.enable.testBit i, .refused, 0)]) fun _ =>
      .done (setChop (u8 p 0) { chop s (u8 p 0) with inMitten := false } s)

/-! ### OP_GNT_RAISE and OP_GNT_GET_INPUT (R189, R190) -/

/-- OP_GNT_RAISE (R189). -/
def execOpGntRaise (r : Req) (s : State) : Out :=
  runOp { code := 0x150B, states := stIARTS } r s fun p s =>
    chk [lenIs p 4, rsv p 2 2] fun _ => .done (raiseClass 28 0x1507 (u16 p 0) [] s)

/-- OP_GNT_GET_INPUT (Table 7.7). -/
def execOpGntGetInput (r : Req) (s : State) : Out :=
  runOp { code := 0x150C, states := stIARTS } r s fun p s =>
    oneByte p 49 fun n =>
      let x := finput s n
      let c := chop s (n - 48)
      let ch := decide (48 ≤ n)
      let flags := b2n (s.gnt.enable.testBit n) + 2 * b2n x.asserted + 4 * b2n (decide (s.now < x.blankTo)) + 8 * b2n (ch && c.on) +
        16 * b2n (ch && c.inMitten) + 32 * b2n (ch && c.forced)
      let k (o : Nat) : Bytes := le 4 (c32 s 0x150C n o)
      .give s (le 2 flags ++ le 2 0 ++ k 8 ++ k 12 ++ k 16 ++ k 20 ++
        fieldU 1 4 (if ch then (rnd c.e).toNat else 0) ++ le 4 (c32 s 0x150C 0 28))

/-! ### Fault inputs (R169 to R172) -/

/-- The open record closes once its 100 ns have passed (R172). -/
def closeDue (s : State) : State :=
  match s.gnt.openRec with
  | some (n, at_) => if due s at_ then closeRecord n { s with gnt := { s.gnt with openRec := none } } else s
  | none => s

/-- An asserted input is recognised where its qualification and its blanking allow (R169, R171). -/
def recogniseIf (i : Nat) (s : State) : State :=
  let x := finput s i
  if x.asserted ∧ ¬ x.recognised ∧ s.gnt.enable.testBit i ∧ due s (x.since + 8) ∧ (¬ x.inWindow ∨ due s (x.outlived.getD x.blankTo)) then
    recognise i (if x.inWindow then max (x.outlived.getD x.blankTo) (x.since + 8) else x.since) x.inWindow (closeDue s)
  else s

/-- FAULT_INPUT_ASSERT (R169). -/
def execFaultInputAssert (t : Nat) (i : Nat) (s : State) : Out :=
  evAny t s fun s =>
    let x := finput s i
    if 50 ≤ i ∨ x.asserted then s
    else notePins (setFinput i { x with asserted := true, since := s.now, recognised := false,
                                        inWindow := decide (s.now < x.blankTo), outlived := none } s)

/-- FAULT_INPUT_RELEASE (R169, R171): before recognition it is a glitch, or a blanked assertion inside its window. -/
def execFaultInputRelease (t : Nat) (i : Nat) (s : State) : Out :=
  evAny t s fun s0 =>
    let s := recogniseIf i s0
    let x := finput s i
    if ¬ x.asserted then s
    else
      let s1 := notePins (setFinput i { x with asserted := false, recognised := false, inWindow := false, outlived := none } s)
      if x.recognised ∨ ¬ s.gnt.enable.testBit i then s1
      else if x.inWindow ∧ s.now < x.outlived.getD x.blankTo then bump 0x150C i 16 s1 else bump 0x150C i 20 s1

/-- FAULT_INPUT_RECOGNISED (R172). -/
def execFaultInputRecognised (t : Nat) (i : Nat) (s : State) : Out := ev t s fun s => recogniseIf i s

/-- BLANKING_WINDOW_END (R171). -/
def execBlankingWindowEnd (t : Nat) (i : Nat) (s : State) : Out :=
  ev t s fun s => if due s (finput s i).blankTo then recogniseIf i s else s

/-- FAULT_RECORD_CLOSE (R172, R173). -/
def execFaultRecordClose (t : Nat) (s : State) : Out := ev t s closeDue

/-! ### MITTEN_N (R181) -/

/-- MITTEN_N_ASSERT (R181). -/
def execMittenNAssert (t : Nat) (s : State) : Out :=
  evAny t s fun s => if s.gnt.mitLow.isSome then s else notePins { s with gnt := { s.gnt with mitLow := some s.now, mitQual := false } }

/-- MITTEN_N_QUALIFIED (R181): every leg is held in mitten and disabled in hardware, and class MITTEN_IN is raised (DEDUCED,
notes/assumptions/60.md). -/
def execMittenNQualified (t : Nat) (s : State) : Out :=
  ev t s fun s =>
    match s.gnt.mitLow with
    | some since =>
      if s.gnt.mitQual ∨ ¬ due s (since + 8) then s
      else
        let s1 := disableAll 2 { s with gnt := { s.gnt with mitQual := true } }
        raiseClass 3 0x1502 0 [] (dropLegPending s1)
    | none => s

/-- MITTEN_N_RELEASE (R181). -/
def execMittenNRelease (t : Nat) (s : State) : Out :=
  evAny t s fun s => notePins { s with gnt := { s.gnt with mitLow := none, mitQual := false } }

/-! ### Chopper regulation (R183 to R185) -/

/-- EV_GNT_DC_OV (R184): two consecutive samples at or above CODE_TRIP, from ARMED onward. -/
def chopTrip (k : Nat) (code : Int) (s : State) : State :=
  let c := chop s k
  let live := s.sys.state == .armed || s.sys.state == .run || s.sys.state == .tripped
  let run := if c.codeTrip ≤ code then c.tripRun + 1 else 0
  let armed := c.ovArmed || decide (code ≤ c.codeOff)
  if live ∧ armed ∧ 2 ≤ run then raiseClass 4 0x1503 k [] (setChop k { c with tripRun := run, ovArmed := false } s)
  else setChop k { c with tripRun := run, ovArmed := armed } s

/-- CHOPPER_SAMPLE (R183, R184). -/
def execChopperSample (t : Nat) (k : Nat) (s : State) : Out :=
  ev t s fun s =>
    let c := chop s k
    match c.inq with
    | [] => s
    | (inst, w) :: rest =>
      if wInv w ∨ wChk w then setChop k { c with inq := rest } s
      else
        let code := wCode w
        let s1 := chopTrip k code (setChop k { c with inq := rest, code := code } s)
        let x := chop s1 k
        let want := if x.codeOn ≤ code then some true else if code ≤ x.codeOff then some false else none
        match want with
        | some lvl =>
          if chopRegulates s1 k ∧ lvl ≠ x.on ∧ x.edge.isNone then
            setChop k { x with edge := some (lvl, max (inst + 256) (x.changed + (if x.on then x.minOn else x.minOff))) } s1
          else s1
        | none => s1

/-- CHOPPER_EDGE (R183). -/
def execChopperEdge (t : Nat) (k : Nat) (s : State) : Out :=
  ev t s fun s =>
    match (chop s k).edge with
    | some (lvl, at_) =>
      if ¬ due s at_ then s
      else
        let s1 := setChop k { chop s k with edge := none } s
        if chopRegulates s1 k then chopBall k lvl s1 else s1
    | none => s

/-- CHOPPER_ENERGY_UPDATE (R185), every 1,600 ticks. -/
def execChopperEnergyUpdate (t : Nat) (k : Nat) (s : State) : Out :=
  ev t s fun s =>
    let c := chop s k
    if ¬ c.written ∨ ¬ tbRuns s ∨ t % 1600 ≠ 0 then s
    else
      let v : Rat := ((c.code - c.ofsCode : Int) : Rat) * c.scaleMv / 32768 / 1000
      let e1 := if c.on then c.e + v * v / ((c.rMohm : Rat) / 1000) / 1000000 else c.e
      let e2 := e1 - e1 / 1000 / c.tauMs
      let armed := c.hotArmed || decide (e2 < 3 / 4 * (c.eHot : Rat))
      if armed ∧ (c.eHot : Rat) < e2 then raiseClass 5 0x1504 k [] (setChop k { c with e := e2, hotArmed := false } s)
      else setChop k { c with e := e2, hotArmed := armed } s

end Sys2Proof.Machine
end

