-- ==== Sys2Proof/Machine/Brim.lean ====
section
/-! DEFINITION. The Brim engine's commands: channel and arm configuration, decisions, output slots and status
(04_brim_engine.md). -/

namespace Sys2Proof.Machine

open Sys2Proof

/-! ### Channel configuration (R95, R98, R99) -/

/-- The configuration of an OP_BRIM_SET_CHANNEL payload (Table 4.1). -/
def chanCfgOf (p : Bytes) : ChanCfg :=
  { outType := u8 p 1, ctrl := u16 p 2, src := u16 p 4, ofsCode := i16 p 6, scale := u32 p 8, band := u32 p 12,
    bandMin := u32 p 16, bandMax := u32 p 20, fTgt := u32 p 24, tServo := u32 p 28, iClamp := u32 p 32, minOn := u16 p 36,
    minOff := u16 p 38, tOut := u16 p 40, slopeWin := u8 p 42, shapeAt := u8 p 43, slopeStep := u32 p 44, legA := u8 p 48,
    legB := u8 p 49, legC := u8 p 50, arm := u8 p 51, tChain := u16 p 52 }

/-- The class S fields of a configuration. -/
def ChanCfg.structure (c : ChanCfg) : Nat × Nat × Nat × Nat × Nat × Nat × Nat :=
  (c.outType, c.src, c.tOut, c.legA, c.legB, c.legC, c.arm)

/-- A leg field at an offset does not fit: unused where the output type needs it or named where it does not, bound to
another channel, named twice, or with REFRESH_EN on a map (R95, 06_legs_pwm.md R142). -/
def legFieldBad (s : State) (ch k : Nat) (c : ChanCfg) : Bool :=
  let v := [c.legA, c.legB, c.legC].getD k 0xFF
  let needs := match c.outType with | 1 => 1 | 2 => 2 | 3 => 2 | 4 => 3 | _ => 0
  let other := match chanOfLeg s v with | some o => o != ch | none => false
  let twice := ([c.legA, c.legB, c.legC].take k).contains v
  if k < needs then v == 0xFF || other || twice || (c.isMap && (leg s v).cfg.refreshEn) else v != 0xFF

/-- Mapped to ARM_UPPER or ARM_LOWER (R99). -/
def armMapped (s : State) (ch : Nat) : Bool := (chMap s ch).src == 2 || (chMap s ch).src == 3

def chanCfgChecks (s : State) (p : Bytes) : List (Bool × Status × Nat) :=
  let c := chanCfgOf p
  let ch := u8 p 0
  let pu (v lo hi o : Nat) : Bool × Status × Nat := outOf v lo hi o
  let legRange (o : Nat) : Bool × Status × Nat := (decide (47 < u8 p o) && u8 p o != 0xFF, .range, o)
  let sel := c.sel
  [lenIs p 56, outOf ch 0 63 0, (decide (5 < c.outType), .badParam, 1),
   (c.ctrl / 64 != 0 || c.ctrl.testBit 0 || c.bandMode == 3 || (c.predict && c.outType != 5), .badParam, 2),
   (c.src / 256 != 0 || (decide (4 ≤ sel) && decide (sel < 8)) || decide (12 ≤ sel), .badParam, 4),
   pu c.scale (cPu (1 / 100)).toNat (cPu (1599 / 100)).toNat 8, outOf c.band c.bandMin c.bandMax 12,
   pu c.bandMin (cPu (5 / 10000)).toNat (2 ^ 27) 16, pu c.bandMax c.bandMin (2 ^ 28) 20, outOf c.fTgt 100 200000 24,
   outOf c.tServo 1000 1000000 28, pu c.iClamp (cPu (1 / 10)).toNat (2 ^ 29) 32,
   (c.outType == 5 && decide (c.minOn < 320), .range, 36), (c.outType == 5 && decide (c.minOff < 320), .range, 38),
   outOf c.tOut 128 512 40,
   (c.predict && (decide (c.slopeWin < 2) || decide (64 < c.slopeWin) || c.slopeWin % 2 == 1), .range, 42),
   rsvBits p 43 3, pu c.slopeStep 0 (cPu (1599 / 100)).toNat 44, legRange 48, (legFieldBad s ch 0 c, .badParam, 48),
   legRange 49, (legFieldBad s ch 1 c, .badParam, 49), legRange 50, (legFieldBad s ch 2 c, .badParam, 50),
   (decide (7 < c.arm) && c.arm != 0xFF, .range, 51), ((if c.outType = 5 then c.arm == 0xFF || (decide (6 ≤ c.arm) && armMapped s ch) else c.arm != 0xFF), .badParam, 51),
   outOf c.tChain 0 3200 52, rsv p 54 2]

/-- OP_BRIM_SET_CHANNEL (R98): in RUN the class I fields wait for the next publish tick; in SERVICE, which the rule does not name,
they take effect at once (DESIGN CHOICE, notes/assumptions/165.md). -/
def execOpBrimSetChannel (r : Req) (s : State) : Out :=
  runOp { code := 0x1201, states := stIARTS } r s fun p s =>
    let c := chanCfgOf p
    let ch := u8 p 0
    let cur := (chan s ch).cfgPend.getD (chan s ch).cfg
    let sBad := !structOk s && decide (56 ≤ p.length) && decide (ch < 64) && c.structure != cur.structure
    chk ((sBad, .badState, 0) :: chanCfgChecks s p) fun _ =>
      .done (if s.sys.state = .run then setChan ch { chan s ch with cfgPend := some c } s else takeChan ch c s)

/-! ### Arms (R111, 11_strands_cells.md R274) -/

/-- Cells listed in the arms other than one. -/
def otherCells (s : State) (a : Nat) : List Nat := (s.arm.filter fun e => e.1 != a).flatMap fun e => e.2.cells

/-- Cell k of an OP_BRIM_SET_ARM payload cannot be listed. -/
def cellBad (s : State) (p : Bytes) (a k : Nat) : Bool :=
  let v := u16 p (24 + 2 * k)
  decide (4096 ≤ v) || (partner s v).type != 1 || (otherCells s a).contains v ||
    ((List.range k).any fun j => u16 p (24 + 2 * j) == v)

/-- A strand of the cells named would carry more than 60 cells of version 1.2, those of other arms among them. -/
def tooMany12 (s : State) (ids others : List Nat) : Bool :=
  let v12 (l : List Nat) : List Nat := l.filter fun id => (cell s id).ver == 0x12
  (v12 ids).any fun id => decide (60 < ((v12 (ids ++ others)).filter fun j => cellStrand s j == cellStrand s id).length)

/-- The cells whose NODE_SET fields change with an arm's definition get a new one (11_strands_cells.md R258). -/
def armSets (a : Nat) (old : Arm) (s : State) : State :=
  let new := arm s a
  let changed := (new.cells.filter fun id => !old.cells.contains id || old.safe != new.safe) ++
    (old.cells.filter fun id => !new.cells.contains id)
  let s1 := changed.foldl (fun t id => dueSet id false t) s
  ((new.cells ++ old.cells).map (cellStrand s)).dedup.foldl (fun t n => updStrand n (recomputeD n t)) s1

/-- OP_BRIM_SET_ARM (R111; DEDUCED, notes/assumptions/129.md). -/
def execOpBrimSetArm (r : Req) (s : State) : Out :=
  runOp { code := 0x1202, states := stIA } r s fun p s =>
    let n := u16 p 2
    let a := u8 p 0
    chk [(p.length != 24 + 2 * n, .badLength, 0), outOf a 0 7 0, (decide (1 < u8 p 1), .badParam, 1), outOf n 1 320 2,
         outOf (u32 p 4) 10 5000 4, outOf (u32 p 8) 0 (cPu (1 / 10)).toNat 8, outOf (u32 p 12) (2 ^ 27) (cPu (3 / 2)).toNat 12,
         outOf (u32 p 16) (2 ^ 26) (2 ^ 27) 16, outOfI (i16 p 20) 0 1500 20, outOf (u8 p 22) 1 16 22, rsv p 23 1] fun _ =>
      match (List.range n).find? (cellBad s p a) with
      | some k => .no .badParam k
      | none =>
        let ids := (List.range n).map fun k => u16 p (24 + 2 * k)
        chk [(decide (2048 < (otherCells s a).length + n), .noResource, 0), (tooMany12 s ids (otherCells s a), .noResource, 0)]
          fun _ =>
            let old := arm s a
            let x : Arm := { old with safe := u8 p 1, fCellMax := u32 p 4, socHyst := u32 p 8, vHi := u32 p 12, vLo := u32 p 16,
                                      tHot := i16 p 20, staleN := u8 p 22, cells := ids }
            let s1 := armSets a old (setArm a x s)
            .done (setArm a { arm s1 a with order := rebuildArm s1 a } s1)

/-- Path A's copy of a channel (R119). -/
def Chan.own (x : Chan) : PathCopy :=
  { cfg := x.cfg, bS := x.bS, fMeas := x.fMeas, n := x.n, clampStep := x.clampStep, pend := x.pend, win := x.win, slope := x.slope,
    issued := x.issued, lastSample := x.lastSample }

/-- The channel as the path with a copy sees it (R119). -/
def Chan.seenBy (x : Chan) (p : PathCopy) : Chan :=
  { x with cfg := p.cfg, bS := p.bS, fMeas := p.fMeas, n := p.n, clampStep := p.clampStep, pend := p.pend, win := p.win,
           slope := p.slope, issued := p.issued, lastSample := p.lastSample }

/-- Path B's copy of a channel (R119). -/
def Chan.copyB (x : Chan) : PathCopy := x.pathB.getD x.own

/-- A fault that changes path B's copy: it stands for any copy other than path A's (DESIGN CHOICE, notes/assumptions/50.md). -/
def Chan.upset (x : Chan) : Chan := { x with pathB := some { x.own with bS := x.own.bS + 1 } }

/-- The copies differ (R119). -/
def Chan.split (x : Chan) : Bool := decide (x.copyB ≠ x.own)

/-- FLAGS of a channel (Table 4.9): all zero on one not written since reset, DISABLED included (R99). STALE_CELLS counts cells
that have been heard (DESIGN CHOICE, notes/assumptions/167.md). -/
def chanFlags (s : State) (ch : Nat) : Nat :=
  let x := chan s ch
  let stale := x.cfg.outType == 5 && ((arm s x.cfg.arm).cells.any fun id => (cell s id).tlmSeen && !tlmFresh s id)
  let pend := match x.pend with | some p => p.deferred || p.chain || p.second | none => false
  b2n (x.written && (chMap s ch).src == 0) + 2 * b2n (chanLive s ch) + 4 * b2n x.holding + 8 * b2n x.clamping + 16 * b2n x.bandHeld +
    32 * b2n pend + 64 * b2n stale + 128 * b2n x.split

/-- What Pond sees of a channel's state (15_pond.md Table 15.2, BRIM_STATE). -/
def noteChan (ch : Nat) (s : State) : State :=
  pondNote 5 ch s.now (((chanState s ch).1 % 65536).toNat + chanFlags s ch * 65536) s

/-! ### Decisions (R101 to R103, R119) -/

/-- A sample that is not decided on (R101). -/
def holdSample (ch w : Nat) (s : State) : State :=
  let x := chan s ch
  let run := if wOvr w then x.ovrRun + 1 else 0
  let s1 := bump 0x1203 ch 48
    (setChan ch { x with holding := true, ovrRun := run, win := (none :: x.win).take 64 } s)
  if run = 8 then raiseClass 8 0x1602 (det ch 0) [] s1 else s1

/-- The paths differ: no new decision on the sample (R119; DESIGN CHOICE, notes/assumptions/50.md). -/
def splitSample (ch kind : Nat) (s : State) : State :=
  let s1 := bump 0x1203 ch 40 s
  if s1.once.contains (0x1201, ch) then s1 else raiseClass 7 0x1201 (det ch kind) [] (mark 0x1201 ch s1)

/-- A clamp decision: counted, and its class once per step; an injection ends with it (R103,
05_angle_tables_injection.md R135; DEDUCED, notes/assumptions/51.md). -/
def clampSample (ch : Nat) (s : State) : State :=
  let x := chan s ch
  let s1 := bump 0x1203 ch 36 (setChan ch { x with clampStep := true } s)
  if s1.once.contains (0x1202, ch) then s1 else injAbort 4 (raiseClass 6 0x1202 ch [] (mark 0x1202 ch s1))

/-- What a decided sample wants: up, down or nothing, and whether it is a clamp decision (R102). -/
def wantOf (i e b lim : Rat) : Option Bool × Bool :=
  if lim < i then (some false, true)
  else if i < -lim then (some true, true)
  else if b < e then (some true, false)
  else if e < -b then (some false, false)
  else (none, false)

/-- Act on what a sample wants (R102, R103). Off a live output no request is formed: DEFER_CNT, DEFER_TICKS, CLAMP_REPLACE and
PENDING do not move there (DESIGN CHOICE, notes/assumptions/164.md). -/
def actOn (ch : Nat) (up clamp slips : Bool) (ts tx : Nat) (s : State) : State :=
  let x := chan s ch
  -- an opposite clamp withdraws what is pending
  let opposite := match x.pend with | some p => clamp && p.up != up | none => false
  let s1 := if opposite then bump 0x1203 ch 60 (setChan ch { x with pend := none } s) else s
  let st := chanState s1 ch
  let bnd := chanBounds s1 ch
  if (if up then decide (bnd.2 ≤ st.1) else decide (st.1 ≤ bnd.1)) then raiseFirst 0x1204 ch ch [] (bump 0x1203 ch 52 s1)
  else if (chan s1 ch).pend.isSome then s1
  else
    let c := x.cfg
    let after := match (arm s1 c.arm).liveFrom with | some f => decide (f < tx) | none => false
    let able := if c.outType = 0 then true else if c.outType = 5 then chanLive s1 ch && after
      else chanLive s1 ch || ((chan s1 ch).release.isSome)
    if able then requestChange ch up ts slips s1
    -- off a live output the decision path runs on, and its counters advance (R96, R106)
    else if slips ∧ c.outType ≠ 5 then raiseFirst 0x1205 ch ch [] (bump 0x1203 ch 44 s1)
    else s1

/-- What one decision path makes of an accepted sample: its channel after it, reference and error, the want of R102, and the
cell it picks for an arm (R102, R115, R119). -/
structure PathResult where
  chan : Chan
  tx : Nat
  r : Rat
  e : Rat
  want : Option Bool × Bool
  cell : Option Nat

/-- One path's decision on an accepted sample, from its own copy of the channel (R102, R119; DEDUCED, notes/assumptions/53.md). -/
def pathDecide (ch ts w : Nat) (s : State) : PathResult :=
  let x := chan s ch
  let i := brimCurrent x.cfg (wCode w)
  let isArm := x.cfg.outType == 5
  let tx := if isArm then ts + armD s x.cfg.arm else ts
  let win := (some i :: x.win).take 64
  let slope := (windowSlope x.cfg.slopeWin (ts - x.lastSample) win).getD x.slope
  let lim := puOf x.cfg.iClamp
  let r := clampQ (-lim) lim (refAt s ch tx)
  let y := { x with holding := false, ovrRun := 0, win := win, slope := slope, lastI := i, lastSample := ts,
                    issued := x.issued.filter fun k => decide (ts < k.2) }
  let iX := if isArm && x.cfg.predict then predictI y i ts tx else i
  let e := r - iX
  let want := wantOf i e (bandEff s ch tx) lim
  let cell := match isArm, want.1 with | true, some up => (pick s x.cfg.arm up i tx).map (·.1) | _, _ => none
  { chan := y, tx := tx, r := r, e := e, want := want, cell := cell }

/-- Path B's result on a sample, from its own copy; an upset of 1 changes its decision, one of 2 the cell it picks for an arm
(R119; DESIGN CHOICE, notes/assumptions/50.md). -/
def pathBResult (ch ts w upset : Nat) (s : State) : PathResult :=
  let x := chan s ch
  let p := pathDecide ch ts w (setChan ch (x.seenBy x.copyB) s)
  if upset = 1 then { p with want := ((match p.want.1 with | none => some true | some up => some (!up)), p.want.2) }
  else if upset = 2 then { p with cell := p.cell.map (· + 1) }
  else p

/-- The kind of difference that the device finds between the paths: 3 STATE, 1 DECISION, 2 PICK, 0 none (R119; where several hold,
the order is a DESIGN CHOICE, notes/assumptions/50.md). -/
def splitKind (x : Chan) (a b : PathResult) : Nat :=
  if x.split then 3 else if a.want ≠ b.want then 1 else if a.cell ≠ b.cell then 2 else 0

/-- One accepted sample on one channel: both paths decide, and the result acts where they agree (R102, R119). -/
def decideSample (ch ts w upset : Nat) (slips : Bool) (s : State) : State :=
  let x := chan s ch
  let a := pathDecide ch ts w s
  let kind := splitKind x a (pathBResult ch ts w upset s)
  let s1 := setChan ch { a.chan with clamping := if kind = 0 then a.want.2 else x.clamping, lastR := puCode a.r, lastE := puCode a.e } s
  -- the first accepted sample after an enable fixes the slot at which the legs leave mitten
  let s2 := if chanOn s1 ch && legsWaiting s1 x.cfg && x.release.isNone && (x.cfg.legs.all fun k => decide ((leg s1 k).leaving.getD 0 ≤ ts))
      && !x.cfg.legs.isEmpty then setChan ch { chan s1 ch with release := some (ts + x.cfg.tOut) } s1 else s1
  if kind ≠ 0 then splitSample ch kind s2
  else
    let s4 := if a.want.2 then clampSample ch s2 else s2
    let s5 := match a.want.1 with | none => s4 | some up => actOn ch up a.want.2 slips ts a.tx s4
    if x.cfg.outType == 5 && chanLive s5 ch then replan ch none s5 else s5

/-- Clean words end a run of over-range words on every channel in every state (08_acquisition.md R207). -/
def endRun (ch w : Nat) (s : State) : State :=
  let x := chan s ch
  if wOvr w ∨ x.ovrRun = 0 then s else setChan ch { x with ovrRun := 0 } s

/-- Each decision path decides on a sample (R102); `upset` is a fault of path B on it (1 its decision, 2 its pick, 3 its
copy; R119), `slips` says that the decision misses its slot. -/
def execBrimDecision (t ch upset : Nat) (slips : Bool) (s : State) : Out :=
  ev t s fun s =>
    let x := chan s ch
    match x.inq with
    | [] => s
    | (ts, w) :: rest =>
      let on := tbRuns s && (s.sys.state == .armed || s.sys.state == .run || s.sys.state == .tripped)
      let x1 := { x with inq := rest }
      let s1 := setChan ch (if on ∧ upset = 3 then x1.upset else x1) s
      if ¬ x.written ∨ ¬ on then endRun ch w s1
      else
        if wOvr w || wInv w || wChk w then
          -- the states of the paths are compared on a sample that is held, too (R119)
          let s2 := holdSample ch w s1
          noteChan ch (if (chan s1 ch).split then splitSample ch 3 s2 else s2)
        else
          let s2 := decideSample ch ts w upset slips s1
          let code (v : Int) : Nat := (v % 2 ^ 32).toNat
          noteChan ch (pondNote 4 ch ts (code (chan s2 ch).lastE) (pondNote 3 ch ts (code (chan s2 ch).lastR) s2))

/-! ### Output slots (R105, R106, R109) -/

/-- A change of a channel whose output is live, or of a notional output; one within a forced refresh low is deferred to its
end (R105, 06_legs_pwm.md R157). -/
def changeIf (ch : Nat) (p : Pend) (s : State) : State :=
  let x := chan s ch
  let held := refreshHold s ch
  if held ≠ 0 ∧ chanLive s ch then
    bump64 0x1203 ch 16 (held - p.at_)
      (bumpN 0x1203 ch 32 (b2n (!p.deferred)) (setChan ch { x with pend := some { p with at_ := held, deferred := true } } s))
  else if x.cfg.outType = 5 then armChange ch p.up p.at_ (setChan ch { x with pend := none } s)
  else if x.cfg.outType = 0 ∨ chanLive s ch then makeChange ch p s
  else setChan ch { x with pend := none } s

/-- The enabled legs leave mitten at their slot. -/
def releaseIf (ch : Nat) (s : State) : State :=
  match (chan s ch).release with
  | some r => if reached s r then (if legsWaiting s (chan s ch).cfg then releaseLegs ch (8 * r) s else setChan ch { chan s ch with release := none } s) else s
  | none => s

/-- A decision takes effect at its output slot (R106). -/
def execBrimOutputSlot (t ch : Nat) (s : State) : Out :=
  ev t s fun s =>
    let s1 := releaseIf ch s
    match (chan s1 ch).pend with
    | some p => if ¬ p.deferred ∧ ¬ p.second ∧ reached s1 p.at_ then noteChan ch (changeIf ch p s1) else s1
    | none => s1

/-- A deferred transition takes effect when the minimum time expires (R105); the command of an arm's is sent its D ahead,
so that it executes then. -/
def execMinTimeExpiry (t ch : Nat) (s : State) : Out :=
  ev t s fun s =>
    let s1 := releaseIf ch s
    match (chan s1 ch).pend with
    | some p =>
      let lead := if (chan s1 ch).cfg.outType = 5 then armD s1 (chan s1 ch).cfg.arm else 0
      if p.deferred ∧ reached s1 (p.at_ - lead) then noteChan ch (changeIf ch p s1) else s1
    | none => s1

/-- The second change of an ANPC3 chain (R109). -/
def execAnpcChainSecondChange (t ch : Nat) (s : State) : Out :=
  ev t s fun s =>
    match (chan s ch).pend with
    | some p => if p.second ∧ reached s p.at_ then noteChan ch (changeIf ch p s) else s
    | none => s

/-! ### Status (R121) -/

/-- OP_BRIM_GET_STATUS (R121). -/
def execOpBrimGetStatus (r : Req) (s : State) : Out :=
  runOp { code := 0x1203, states := stIARTS } r s fun p s =>
    oneByte p 63 fun ch =>
      let x := chan s ch
      let c (o : Nat) : Bytes := le 4 (c32 s 0x1203 ch o)
      let lvl := if x.written then (chanState s ch).1 else 0
      .give s (leI 4 (puCode (bandServo x)) ++ le 4 (rnd x.fMeas).toNat ++ leI 2 lvl ++ le 2 (chanFlags s ch) ++
        le 8 (c64 s 0x1203 ch 16) ++ le 8 (c64 s 0x1203 ch 24) ++ c 32 ++ c 36 ++ c 40 ++ c 44 ++ c 48 ++ c 52 ++ c 56 ++ c 60)

end Sys2Proof.Machine
end

