-- ==== Sys2Proof/Machine/Gfm.lean ====
section
/-! DEFINITION. The grid-forming opcodes and their time events (02_grid_forming.md). -/

namespace Sys2Proof.Machine

open Sys2Proof

/-- OP_GFM_SET_PARAM (R37). -/
def execOpGfmSetParam (r : Req) (s : State) : Out :=
  runOp { code := 0x1001, states := stIARTS } r s fun p s =>
    match setParams false gfmTable s.gfm.par p s with
    | .error (st, d) => .no st d
    | .ok x => .done { s with gfm := { s.gfm with par := x } }

/-- A hand-over blend is in progress (R41). -/
def hoBlending (s : State) : Bool := match s.gfm.run.ho with | some h => h.blending | none => false

/-- The class S parameters of a staging copy that differ outside IDLE and ARMED (R38). -/
def lateStruct (t : List Par) (x : PSet) (s : State) : Option Nat := if structOk s then none else structDiffers t x

/-- The first relation of R38 that fails, by the identifier of the bounded parameter (DEDUCED, notes/assumptions/27.md). -/
def gfmRelation (x : PSet) : Option Nat :=
  let v (id : Nat) : Int := x.st gfmTable id
  if v 0x0B < v 0x0D ∨ v 0x0C < v 0x0B then some 0x0B
  else if v 0x12 < v 0x15 ∨ v 0x16 < v 0x12 then some 0x12
  else if v 0x04 = 1 ∧ v 0x18 < cPu (5 / 100) then some 0x18
  else none

/-- OP_GFM_COMMIT (R38, R41). -/
def execOpGfmCommit (r : Req) (s : State) : Out :=
  runOp { code := 0x1002, states := stIARTS } r s fun p s =>
    match lateStruct gfmTable s.gfm.par s with
    | some id => .no .badState id
    | none =>
      chk [lenIs p 4, rsv p 0 4, (hoBlending s, .busy, 0), ((gfmRelation s.gfm.par).isSome, .range, (gfmRelation s.gfm.par).getD 0)]
        fun _ => .yes { s with gfm := { s.gfm with par := commitSet s.gfm.par } } .accepted 0 []

/-- OP_GFM_DISCARD (R38). -/
def execOpGfmDiscard (r : Req) (s : State) : Out :=
  runOp { code := 0x1003, states := stIARTS } r s fun p s =>
    fourReserved p fun _ => .done { s with gfm := { s.gfm with par := discardSet s.gfm.par } }

/-- The code of a present value: rounded and saturated in the parameter's format (00_scope.md R4, R7). -/
def presentCode (t : List Par) (x : PSet) (id : Nat) : Int :=
  match parOf t id with
  | some p => if p.signed then clampI (-(2 ^ 31)) (2 ^ 31 - 1) (rnd (x.pr t id)) else clampI 0 (2 ^ 32 - 1) (rnd (x.pr t id))
  | none => 0

/-- Reply of OP_GFM_GET_PARAM and OP_GRID_GET_PARAM (17_opcodes.md Table 17.2). -/
def paramReply (t : List Par) (x : PSet) (id : Nat) : Bytes :=
  le 2 id ++ le 2 0 ++ leI 4 (x.st t id) ++ leI 4 (x.tg t id) ++ leI 4 (presentCode t x id)

/-- OP_GFM_GET_PARAM. -/
def execOpGfmGetParam (r : Req) (s : State) : Out :=
  runOp { code := 0x1004, states := stIARTS } r s fun p s =>
    chk [lenIs p 4, rsv p 2 2, ((parOf gfmTable (u16 p 0)).isNone, .badParam, 0)] fun _ =>
      .give s (paramReply gfmTable s.gfm.par (u16 p 0))

/-- The observer is reported: from ARMED onward (R60). -/
def observed (s : State) : Bool := s.sys.state == .armed || s.sys.state == .run || s.sys.state == .tripped

/-- TICK of the state replies: the latest step boundary once TBASE has run (R60). -/
def stateTick (s : State) : Nat := if s.clk.everRan then s.gfm.boundary else 0

/-- OP_GFM_GET_STATE (R60, Table 2.4): in RUN the values of the last completed step, TICK the latest boundary. Before
RUN's first step has completed its fields read zero, but for MODE, OBS_LOCK, SEC_STALE, F_GRID and THETA_GRID, which stand
(DESIGN CHOICE, notes/assumptions/160.md). -/
def gfmStateReply (s : State) : Bytes :=
  let run := s.sys.state == .run
  let o := if run then s.gfm.run.out else {}
  let seen := observed s
  let done := run && s.gfm.run.pub.ok
  let fl := if done then o.flags else b2n (seen && s.gfm.obs.lock) * 128 + b2n (run && s.gfm.secStale) * 256
  le 8 (stateTick s) ++ leI 4 o.freq ++ le 4 o.thetaPub ++
    leI 4 (if done then o.fGrid else if seen then hzCode (s.gfm.obs.w * fNom s) else 0) ++
    le 4 (if done then o.thetaGrid else if seen then turnCode s.gfm.obs.theta else 0) ++
    leI 4 o.pF ++ leI 4 o.qF ++ leI 4 o.pRef ++ leI 4 o.eRef ++ leI 4 o.iD ++ leI 4 o.iQ ++ leI 4 o.dfSec ++ le 2 fl ++
    le 1 (if done then o.mode else if run then s.sys.mode.code else 0) ++ le 1 0

def execOpGfmGetState (r : Req) (s : State) : Out :=
  runOp { code := 0x1005, states := stIARTS } r s fun p s => fourReserved p fun _ => .give s (gfmStateReply s)

/-- OP_GFM_MAP_CHANNEL (R53; 04_brim_engine.md R99). Outside IDLE and ARMED a packet that changes more than VALUE is refused
whole (DESIGN CHOICE, notes/assumptions/135.md). -/
def execOpGfmMapChannel (r : Req) (s : State) : Out :=
  runOp { code := 0x1006, states := stIARTS } r s fun p s =>
    let ch := u8 p 0
    let m := chMap s ch
    let host := u8 p 1 == 4 && m.src == 4 && i32 p 4 == m.gain && u32 p 8 == m.phi
    let armAux := (chan s ch).cfg.outType == 5 && decide (6 ≤ (chan s ch).cfg.arm) && (u8 p 1 == 2 || u8 p 1 == 3)
    chk [(!structOk s && decide (16 ≤ p.length) && decide (ch < 64) && !host, .badState, 0), lenIs p 16, outOf ch 0 63 0,
         (decide (4 < u8 p 1), .badParam, 1), rsv p 2 2, outOfI (i32 p 4) (-(2 ^ 28)) (2 ^ 28) 4,
         (u8 p 1 != 4 && u32 p 12 != 0, .badParam, 12), (armAux, .badParam, 1)] fun _ =>
      let put (y : ChMap) : Ans := .done { s with gfm := { s.gfm with map := s.gfm.map.put ch y } }
      if structOk s then put { src := u8 p 1, gain := i32 p 4, phi := u32 p 8, value := i32 p 12 }
      else put { m with pend := some (i32 p 12) }

/-- The originator is the host: the QSPI port or a partner of type HOST (R58). -/
def fromHost (s : State) (org : Nat) : Bool := org == 0 || (partner s org).type == 4

/-- The originator is a partner of type PEER or PLANT in a session (R58). -/
def fromPeer (s : State) (org : Nat) : Bool :=
  org != 0 && ((partner s org).type == 3 || (partner s org).type == 5) && (orig s org).path.isSome

/-- OP_GFM_SET_SEC (R58). A host value beyond SEC_MAX is refused whatever SEC_SRC names (DESIGN CHOICE,
notes/assumptions/131.md). -/
def execOpGfmSetSec (r : Req) (s : State) : Out :=
  runOp { code := 0x1007, states := stIARTS } r s fun p s =>
    let v := hzOf (i32 p 0)
    let src := gp s 0x21
    chk [lenIs p 4, (fromHost s r.org && decide (gpHz s 0x23 < |v|), .range, 0)] fun _ =>
      .done (if (src = 1 ∧ fromHost s r.org) ∨ (src = 3 ∧ fromPeer s r.org) then secValue v s else s)

/-- Every class B blend has ended (R39). -/
def execEvGfmBlendDone (t : Nat) (s : State) : Out :=
  ev t s fun s =>
    if s.gfm.par.blendDue then raise 0x1002 0 [] { s with gfm := { s.gfm with par := { s.gfm.par with blendDue := false } } } else s

/-- No Δf_sec within SEC_TO (R59). -/
def execEvGfmSecStale (t : Nat) (s : State) : Out :=
  ev t s fun s =>
    if gp s 0x21 ≠ 0 ∧ ¬ s.gfm.secStale ∧ due s (s.gfm.secAt + (gp s 0x24 * 1600).floor.toNat) then
      raise 0x1009 0 [] { s with gfm := { s.gfm with secStale := true } }
    else s

/-- The observer's conditions have held for 100 ms (R49). -/
def execObsLockGained (t : Nat) (s : State) : Out := ev t s gainLock

end Sys2Proof.Machine
end

