-- ==== Sys2Proof/Machine/BsOps.lean ====
section
/-! DEFINITION. Black-start programs: the lead's side of every step (03_grid_events.md R87 to R91). -/

namespace Sys2Proof.Machine

open Sys2Proof

/-! ### Parameter commits from inside the device -/

/-- Stage and commit one class R parameter of Table 2.1, as a SETPOINT step does: the refusal, or the state. -/
def commitOne (id : Nat) (v : Nat) (s : State) : Except Status State :=
  match parOf gfmTable id with
  | none => .error .badParam
  | some p =>
    let x := if p.signed then sgn 32 v else (v : Int)
    if p.cls != .r then .error .badParam
    else if ¬ parOk false p x then .error .range
    else
      let y := { s.gfm.par with staged := s.gfm.par.staged.put id x, touched := s.gfm.par.touched ++ [id] }
      if (lateStruct gfmTable y s).isSome then .error .badState
      else if hoBlending s then .error .busy
      else if (gfmRelation y).isSome then .error .range
      else .ok { s with gfm := { s.gfm with par := commitSet y } }

/-! ### The program -/

/-- The step of the program that runs. -/
def bsStepOf (s : State) (b : BsRun) : BsStep :=
  s.grid.bsProg.getD b.step { action := 0, group := 0xFF, minMembers := 0, timeout := 0, arg0 := 0, arg1 := 0 }

def setBs (b : BsRun) (s : State) : State := { s with grid := { s.grid with bs := some b } }

/-- Partner ids of a group step. -/
def bsGroupIds (s : State) (x : BsStep) : List Nat := if x.group = 0xFF then [] else s.grid.bsGroup.getD x.group []

/-- The step sends a group command. -/
def bsGrouped (x : BsStep) : Bool := x.group != 0xFF && (x.action == 1 || x.action == 4 || x.action == 5 || x.action == 7)

/-- A step fails: the program halts, and the lead stays in BS (R89). A group command that the step has sent goes on to its own
end, outside the program (DESIGN CHOICE, notes/assumptions/158.md). -/
def bsFail (st : Status) (s : State) : State :=
  match s.grid.bs with
  | none => s
  | some b =>
    raiseClass 22 0x1115 b.step (le 2 st.code ++ le 2 0)
      (updRun Run.dropBsHandOver (setBs { b with halted := true, txn := none, result := none } s))

/-- A step is complete: EV_GRID_BS_STEP with the executing members as indexes of the group (R88). -/
def bsAdvance (executed : List Nat) (s : State) : State :=
  match s.grid.bs with
  | none => s
  | some b => raise 0x1114 b.step (le 32 (maskOf executed)) (setBs { step := b.step + 1 } s)

/-- Begin the energisation ramp with a ramp time in µs (0: BS_RAMP) (R84, Table 3.7; DESIGN CHOICE, notes/assumptions/184.md). -/
def startRamp (us : Nat) (s : State) : State :=
  let ramp : Rat := if us = 0 then epSec s 0x20 else (us : Rat) / 1000000
  let tgt := puOf (s.gfm.par.tg gfmTable 0x12)
  updRun (fun r => { r with bsRun := true, bsRate := (tgt - epPu s 0x1F) / ramp, bsDone := false }) s

/-- Inner packet of a group step: a complete command packet (12_partners_sessions.md Table 12.5). -/
def innerPacket (opcode : Nat) (p : Bytes) : Bytes :=
  OutPkt.bytes { flags := 0x05, opcode := opcode, seq := 0, tag := 0, target := 0, payload := p }

/-- One entry of an OP_*_SET_PARAM payload (Table 2.2). -/
def oneParam (id : Nat) (v : Bytes) : Bytes := le 2 1 ++ le 2 0 ++ le 2 id ++ le 2 0 ++ v

/-- The inner packets of a group step (Table 3.7). -/
def bsInner (s : State) (x : BsStep) : List Bytes :=
  match x.action with
  | 1 =>
    [innerPacket 0x1001 (oneParam 0x12 (leI 4 (s.gfm.par.tg gfmTable 0x12))),
     innerPacket 0x1101
       (le 2 2 ++ le 2 0 ++ le 2 0x1F ++ le 2 0 ++ leI 4 (rnd (ep s 0x1F)) ++ le 2 0x20 ++ le 2 0 ++
         (if x.arg0 = 0 then leI 4 (rnd (ep s 0x20)) else le 4 x.arg0)),
     innerPacket 0x0008 (le 1 4 ++ le 3 0)]
  | 4 => [innerPacket 0x0008 (le 1 1 ++ le 3 0)]
  | 5 => [innerPacket 0x1001 (oneParam x.arg0 (le 4 x.arg1))]
  | _ => [innerPacket 0x110A (le 1 1 ++ le 3 0)]

/-- Why a group command cannot start (12_partners_sessions.md R295). -/
def groupRefusal (s : State) (ids : List Nat) : Option Status :=
  if ids.any fun id => (partner s id).session == 0xFFFF || (sess s (partner s id).session).state != 2 then some .badParam
  else if ¬ timeUsable s then some .notReady
  else if 8 ≤ s.part.group.length ∨ 1024 < txns s + ids.length then some .noResource
  else none

/-- Send the prepare phase of a group step, without the members excluded by the retry (R88). The prepare limit is the
step's TIMEOUT, at most the 10 s that PREP_TO may take (DESIGN CHOICE, notes/assumptions/28.md). -/
def bsGroupStart (b : BsRun) (s : State) : State :=
  let x := bsStepOf s b
  let all := bsGroupIds s x
  let ids := ((List.range all.length).filter fun k => !b.excluded.contains k).map fun k => all.getD k 0
  match groupRefusal s ids with
  | some st => bsFail st (setBs b s)
  | none =>
    let inner := bsInner s x
    let txn := s.part.nextTxn
    groupStart none true ids inner.flatten inner.length (min x.timeout 10000000) (ep s 0x21).floor.toNat
      (setBs { b with txn := some txn, result := none } s)

/-- Pulse a CLOSE ball. -/
def bsPulse (b : BsRun) (x : BsStep) (s : State) : State :=
  let e := s.now + usT x.arg1
  setBs { b with pulseTo := some e } { s with balls := { s.balls with close := s.balls.close.put (x.arg0 % 32) e } }

/-- Start the synchroniser (R76). -/
def startSync (s : State) : State :=
  updRun (fun r => { r with syncRun := true, syncSince := none, syncOkSaid := false, syncPerm := false, closeSince := none }) s

/-- Stop the synchroniser; df_sync ramps to zero (R76). -/
def stopSync (s : State) : State :=
  updRun (fun r => { r with syncRun := false, syncPerm := false, syncSince := none, syncOkSaid := false, closeSince := none }) s

/-- Start the next step of the program (R88). A program shorter than 32 steps without END ends after its last step, with no
EV_GRID_BS_DONE (DESIGN CHOICE, notes/assumptions/138.md; DESIGN CHOICE, notes/assumptions/186.md). -/
def bsBegin (s : State) : State :=
  match s.grid.bs with
  | none => s
  | some b =>
    if b.begun ∨ b.halted ∨ bsPaused s ∨ s.sys.state ≠ .run then s
    else
      let x := bsStepOf s b
      let c := { b with begun := true, started := s.now, execAt := some s.now }
      if x.action = 0 then
        let s1 := { s with grid := { s.grid with bs := none } }
        if b.step < s.grid.bsProg.length then raise 0x1116 0 [] s1 else s1
      else if bsGrouped x then bsGroupStart c s
      else if x.action = 3 then
        if ¬ x.arg0.testBit 31 then bsPulse c x s
        else if s.gfm.run.syncPerm then bsPulse c x s
        else if s.gfm.run.syncRun then setBs c s
        else if s.sys.mode = .gf ∧ s.grid.sync.isSome then startSync (setBs c s)
        else bsFail .badState (setBs c s)
      else setBs c s

/-- The execute-at of the step has come (R88). -/
def bsDue (s : State) (b : BsRun) (x : BsStep) : Bool :=
  if bsGrouped x then
    match b.txn with
    | none => false
    | some t =>
      match s.part.group.find? fun (g : Group) => g.txn == t with
      | some g => match g.execAt with | some e => decide ((e : Rat) ≤ ntAt s s.now) | none => false
      | none => match b.result with | some (st, _) => st != Status.aborted.code | none => false
  else match b.execAt with | some e => decide (e ≤ s.now) | none => false

/-- The lead's own part of a step at its execute-at (Table 3.7; DEDUCED, notes/assumptions/128.md). -/
def bsAct (b : BsRun) (x : BsStep) (s : State) : State :=
  let done := setBs { b with acted := true } s
  match x.action with
  | 1 => if s.sys.mode = .bs then startRamp x.arg0 done else bsFail .badState s
  | 5 => match commitOne x.arg0 x.arg1 s with
    | .ok s1 => setBs { b with acted := true } s1
    | .error st => bsFail st s
  | 7 =>
    if s.sys.mode ≠ .bs ∨ s.gfm.run.ho.isSome then bsFail .badState s
    else if ¬ s.gfm.run.bsDone then bsFail .refused s
    else updRun (fun r => { r with ho := some { from_ := .bs, target := .gf, passed := true, forBs := true } }) done
  | _ => done

/-- Original indexes of members of a group command that leaves some out. -/
def bsIndexes (s : State) (b : BsRun) (l : List Nat) : List Nat :=
  let kept := (List.range (bsGroupIds s (bsStepOf s b)).length).filter fun k => !b.excluded.contains k
  l.map fun k => kept.getD k 0

/-- The outcome of a group step: the retry of R88, or the failure of R89. -/
def bsOutcome (s : State) : State :=
  match s.grid.bs with
  | none => s
  | some b =>
    let x := bsStepOf s b
    if b.halted then s
    else match b.result with
      | none => s
      | some (st, l) =>
        if st = Status.aborted.code then
          let n := (bsGroupIds s x).length
          let kept := bsIndexes s b l
          let out := (List.range n).filter fun k => !kept.contains k
          if ¬ b.retried ∧ x.minMembers ≤ kept.length then
            bsGroupStart { b with retried := true, excluded := out } s
          else bsFail .aborted s
        else if l.length < x.minMembers then bsFail .partial_ s
        else s

/-- A group step whose members have all prepared while it was paused sends its commit when the pause has ended (R85). -/
def bsResume (s : State) : State :=
  match s.grid.bs.bind BsRun.txn with
  | none => s
  | some t =>
    match s.part.group.find? fun (g : Group) => g.txn == t with
    | none => s
    | some g => if groupHeld s g ∨ ¬ g.allPrepared ∨ g.execAt.isSome then s else groupCommit g s

/-- What the program does at a step boundary in RUN: outcome of a group, the lead's part, and WAIT_V (R88, R89). A paused step
does nothing, and the time of a WAIT_V stands still (R85). -/
def bsBoundary (b : Nat) (s : State) : State :=
  let s1 := if bsPaused s then s else bsOutcome (bsResume s)
  match s1.grid.bs with
  | none => s1
  | some r =>
    let x := bsStepOf s1 r
    let ok := decide (puOf (sgn 32 x.arg0) ≤ s1.gfm.vLineMin)
    if ¬ r.begun ∨ r.halted then s1
    else if bsPaused s1 then
      if x.action = 2 then setBs { r with vSince := if ok then r.vSince.map (· + (b - s1.gfm.boundary)) else none } s1 else s1
    else if x.action = 2 then setBs { r with vSince := if ok then some (r.vSince.getD b) else none } s1
    else if ¬ r.acted ∧ bsDue s1 r x then bsAct r x s1
    else s1

/-- The completion condition of the present step (Table 3.7). A group step also waits for its outcome, which EV_GRID_BS_STEP
and MIN_MEMBERS need (DESIGN CHOICE, notes/assumptions/137.md; DESIGN CHOICE, notes/assumptions/187.md). -/
def bsMet (s : State) (b : BsRun) (x : BsStep) : Bool :=
  let group := !bsGrouped x || b.result.isSome
  match x.action with
  | 2 => match b.vSince with | some v => due s (v + usT x.arg1) | none => false
  | 3 => match b.pulseTo with | some e => due s e | none => false
  | 6 => b.proceed
  | 7 => b.acted && group && s.sys.mode == .gf && s.gfm.run.ho.isNone
  | _ => b.acted && group

/-- Complete the present step where its condition is met and it is not paused (R85); `only` names the one action an event is
about. -/
def bsTryComplete (only : Option Nat) (s : State) : State :=
  let s1 := if bsPaused s then s else bsOutcome s
  match s1.grid.bs with
  | none => s1
  | some b =>
    let x := bsStepOf s1 b
    if b.begun && !b.halted && !bsPaused s1 && (only.isNone || only == some x.action) && bsMet s1 b x then
      bsAdvance (match b.result with | some (_, l) => bsIndexes s1 b l | none => []) s1
    else s1

end Sys2Proof.Machine
end

