-- ==== Sys2Proof/Machine/TwinOps.lean ====
section
/-! DEFINITION. The configuration in force as one value, and what twin operation computes: readiness, the health
report, epochs, taking and giving up the cap, and mirroring (14_twin.md, 20_security.md R448). -/

namespace Sys2Proof.Machine

open Sys2Proof

/-! ### The configuration in force -/

/-- The configuration of a chopper, without its present state. -/
def Chop.plain (c : Chop) : Chop :=
  { c with on := false, inMitten := true, forced := false, changed := 0, inq := [], edge := none, tripRun := 0,
           ovArmed := true, code := 0, e := 0, hotArmed := true }

/-- A configuration in a chopper whose present state goes on: its ball, its mitten, its forcing and its energy
(07_gauntlet.md R183, R185, R186). -/
def Chop.take (v x : Chop) : Chop :=
  { v with on := x.on, inMitten := x.inMitten, forced := x.forced, changed := x.changed, ovArmed := x.ovArmed, code := x.code,
           e := x.e, hotArmed := x.hotArmed }

/-- The parameters of Table 14.1. -/
def twinParams (w : Twin) : List Nat :=
  [b2n w.enable + 2 * b2n w.takeUnready, w.mirrorMax, w.cmpN, w.lease, w.planH, w.planTol, w.cmpDi, w.cmpDang]

/-- The entries of a table that differ from the default: one that was written back to its default is as if never written. -/
def trim {α : Type} [DecidableEq α] (d : α) (t : Tbl α) : Tbl α := t.filter fun e => e.2 != d

/-- The values of a parameter set that differ from the defaults of its table. -/
def trimPar (t : List Par) (v : Tbl Int) : Tbl Int := v.filter fun e => e.2 != parDflt t e.1

def legItem (x : Leg) : LegCfg × List Cmp := (x.cfg, (List.range 4).map fun k => x.cmp.getD k {})
def tabItem (x : AngTab) : Tbl Int × Nat × Nat × Nat := (x.act, x.src, x.mult, x.offset)
def armItem (x : Arm) : Arm := { x with order := [], d := 0, liveFrom := none }
def pairItem (x : ConvPair) : Nat × Nat × Nat := (x.mode, x.tol, x.n)

/-- The items that the twin's CRC and a saved record have in common (14_twin.md R327, 20_security.md R448). -/
def coreSnap (s : State) : CfgSnap :=
  { gfm := trimPar gfmTable s.gfm.par.target, grid := trimPar gridTable s.grid.par.target, env := s.grid.env,
    bsGroup := s.grid.bsGroup, bsProg := s.grid.bsProg,
    map := trim {} (s.gfm.map.map fun e => (e.1, { e.2 with pend := none })),
    chan := (s.chan.filter fun e => e.2.written).map fun e => (e.1, e.2.cfg),
    arm := trim (armItem {}) (s.arm.map fun e => (e.1, armItem e.2)),
    tab := trim (tabItem {}) (s.angle.tab.map fun e => (e.1, tabItem e.2)),
    bind := s.angle.bind.map fun b => { b with pend := none },
    leg := trim (legItem {}) (s.leg.map fun e => (e.1, legItem e.2)),
    conv := (s.conv.map fun e => (e.1, e.2.cfg)).filter fun e => e.2 != (convReset e.1).cfg, pair := trim (pairItem {}) (s.pair.map fun e => (e.1, pairItem e.2)),
    filt := s.filt.filterMap fun e => e.2.act.map fun f => (e.1, f),
    enable := s.gnt.enable, bt := s.gnt.bt, chop := trim (Chop.plain {}) (s.gnt.chop.map fun e => (e.1, e.2.plain)),
    table := activeTable s, twin := twinParams s.twin }

/-- What the configuration CRC covers (R327). -/
def crcSnap (s : State) : CfgSnap :=
  { coreSnap s with step := some (s.sys.tStep, s.sys.tPub),
                    strand := trim {} (s.strand.map fun e => (e.1, { watch := e.2.watch, dMargin := e.2.dMargin })) }

/-- The configuration of a lane, without its present state. -/
def Lane.plain (x : Lane) : Lane :=
  { role := x.role, txPol := x.txPol, rxPol := x.rxPol, autoTrain := x.autoTrain, shed := x.shed, txAmp := x.txAmp,
    txPre := x.txPre, txPost := x.txPost, rxEq := x.rxEq, idleAfter := x.idleAfter }

def Strand.plain (x : Strand) : Strand :=
  { dAuto := x.dAuto, autoRejoin := x.autoRejoin, watch := x.watch, d := x.d, dMargin := x.dMargin, tlmOfs := x.tlmOfs }

def Partner.plain (q : Partner) : Partner :=
  { type := q.type, path := q.path, strand := q.strand, hop := q.hop, ports := q.ports, autoSession := q.autoSession,
    mac := q.mac, vlan := q.vlan, ipv4 := q.ipv4, udpPort := q.udpPort, liveTo := q.liveTo }

def Port.plain (p : Port) : Port :=
  { mode := p.mode, prp := p.prp, tc := p.tc, icmp := p.icmp, mac := p.mac, vlan := p.vlan, ipv4 := p.ipv4, etype := p.etype,
    udpPort := p.udpPort, maxFrame := p.maxFrame }

def GPub.plain (g : GPub) : GPub :=
  { enable := g.enable, stamp := g.stamp, ports := g.ports, dst := g.dst, appid := g.appid, vlan := g.vlan, confRev := g.confRev,
    tMin := g.tMin, tMax := g.tMax, gocbRef := g.gocbRef, datSet := g.datSet, goId := g.goId, mem := g.mem }

def GSub.plain (g : GSub) : GSub :=
  { enable := g.enable, simOk := g.simOk, ports := g.ports, srcMac := g.srcMac, appid := g.appid, confRev := g.confRev,
    nMem := g.nMem, gocbRef := g.gocbRef, binds := g.binds }

def SvPub.plain (v : SvPub) : SvPub :=
  { enable := v.enable, ports := v.ports, rate := v.rate, noAsdu := v.noAsdu, appid := v.appid, dst := v.dst, vlan := v.vlan,
    confRev := v.confRev, svId := v.svId, chans := v.chans }

/-- What OP_SEC_CFG_SAVE records (20_security.md R448). -/
def saveSnap (s : State) : CfgSnap :=
  { coreSnap s with quads := s.lane.quadTbase, lane := trim {} (s.lane.ln.map fun e => (e.1, e.2.plain)),
                    strand := trim {} (s.strand.map fun e => (e.1, e.2.plain)), part := s.part.entry.map fun e => (e.1, e.2.plain),
                    port := trim {} (s.net.port.map fun e => (e.1, e.2.plain)), dom := trim {} (s.time.dom.map fun e => (e.1, e.2.cfg)),
                    pub := s.net.pub.map fun e => (e.1, e.2.plain), sub := s.net.sub.map fun e => (e.1, e.2.plain),
                    sv := s.net.sv.map fun e => (e.1, e.2.plain), pondCfg := s.pond.cfg, pondTrig := s.pond.trig }

/-- The configuration CRC (R327). -/
def twinCrc (s : State) : Nat := crc32c (Config.cfgBytes (crcSnap s))

/-! ### Readiness and the health report (R334, R343, R347) -/

/-- Compare the configuration CRCs; a mismatch raises EV_TWIN_CFG (R343). -/
def compareCfg (crc : Nat) (s : State) : State :=
  let m := crc == twinCrc s
  let s1 := { s with twin := { s.twin with cfgMatch := m, cfgSaid := !m } }
  if m ∨ s.twin.cfgSaid then s1 else raise 0x2407 0 [] s1

/-- ROLE of Table 14.5. -/
def twinRole (s : State) : Nat := if s.twin.enable then (if s.twin.holder then 2 else 1) else 0

/-- FLAGS of Table 14.6. -/
def healthFlags (s : State) : Nat :=
  let seen := match s.twin.lastIn with | some t => decide (s.now ≤ t + usT s.twin.lease) | none => false
  b2n s.twin.ready + 2 * b2n (mirrorOk s) + 4 * b2n s.twin.cfgMatch + 8 * b2n (s.test.fail == 0 && s.sys.state != .boot) + 16 * b2n s.twin.linkUp +
    32 * b2n seen + 64 * b2n (timeAligned s) + 128 * b2n s.twin.checkOn

/-- The health report (Table 14.5). -/
def healthReport (s : State) : Bytes :=
  le 8 (twinTime s s.now) ++ le 1 (twinRole s) ++ le 1 s.sys.state.code ++ le 1 s.twin.epoch ++ le 1 (healthFlags s) ++
    le 4 (twinCrc s) ++ le 4 s.twin.diMax ++ le 4 s.twin.dangMax ++ le 4 (c32 s 0x2403 0 28) ++ le 4 (c32 s 0x2403 0 32) ++
    le 4 (c32 s 0x2403 0 36) ++ fieldU 2 2 s.twin.mirrorAge ++ le 2 0 ++ leI 8 s.twin.ofs

/-! ### Epochs (R333) -/

/-- The newer of two epochs under the half-space rule of 11_strands_cells.md R264. -/
def newerEpoch (a b : Nat) : Nat := if a ≠ b ∧ (b + 256 - a % 256) % 256 < 128 then b else a

/-- Epochs that the cells have reported; version 1.2 cells have none (R339). -/
def cellEpochs (s : State) : List Nat := (s.cell.filter fun e => e.2.tlmSeen && e.2.ver != 0x12).map fun e => u8 e.2.tlm 5

/-- (M + 1) mod 256. -/
def nextEpoch (s : State) : Nat :=
  let l := (if s.twin.rx.isEmpty then [] else [u8 s.twin.rx 10]) ++ cellEpochs s
  (l.foldl newerEpoch s.twin.epoch + 1) % 256

/-- Device A after a split: the epoch is recomputed at a telemetry cycle while a cell reports a newer one. -/
def splitEpoch (s : State) : State :=
  if ¬ s.twin.splitOn then s
  else if (cellEpochs s).any fun e => newerEpoch s.twin.epoch e != s.twin.epoch then
    { s with twin := { s.twin with epoch := nextEpoch s } }
  else { s with twin := { s.twin with splitOn := false } }

/-! ### The cap (R328 to R332) -/

/-- States in which the cap is taken and the heartbeat runs (Table 14.2, 01_architecture.md R25). -/
def capState (s : State) : Bool := s.sys.state == .armed || s.sys.state == .run || s.sys.state == .tripped

/-- EV_TWIN_CAP with its cause, UNREADY and the epoch. -/
def sayCap (cause : Nat) (unready : Bool) (s : State) : State :=
  raise 0x2401 (det cause (b2n unready)) (le 1 s.twin.epoch ++ le 3 0) s

/-- The cap is given up: pulses stop, the twins exchange D outside RUN (R335), the legs enter mitten, cell commands stop, and an
injection aborts (R328, R331, R332; 05_angle_tables_injection.md R135). -/
def dropCap (s : State) : State :=
  let s1 := injAbort 7 (disableAll 6 s)
  exchangeAll { s1 with
            arm := s1.arm.map fun e => (e.1, { e.2 with liveFrom := none }),
            chan := s1.chan.map fun e => (e.1, e.2.dropped),
            twin := { s1.twin with holder := false, releasing := false, leaseFrom := some s1.now, leaseOut := false, splitOn := false } }

/-- No further pulse: the holder gives up the cap, and a holder that has released it sends no last one (R328). -/
def stopCap (s : State) : State := if s.twin.holder then dropCap s else { s with twin := { s.twin with releasing := false } }

/-- The level of a cell state in the ranker's books. -/
def cellLevel (st : Nat) : Int := if st = 1 then 1 else if st = 4 then -1 else 0

/-- A relayed event is adopted as commanded after an event before it: the books and the sum of 04_brim_engine.md R112 take it
(R338). -/
def adoptEvent (prev : Nat) (e : Relayed) (s : State) : State :=
  let d := cellLevel e.st - cellLevel prev
  let s1 := setCell e.cell { cell s e.cell with cmdState := some (e.st, e.at_) } s
  if d = 0 then s1
  else
    { s1 with chan := s1.chan.map fun x =>
        (x.1, if x.2.cfg.outType = 5 ∧ armOf s e.cell = some x.2.cfg.arm then
          { x.2 with issued := x.2.issued ++ [(decide (0 < d), e.at_)] } else x.2) }

/-- The events of one cell, in execute-at order: each is adopted against the state that the one before it has set. What the
cell had before the first is what was commanded before it (R338). -/
def adoptCell (id : Nat) (l : List Relayed) (s : State) : State :=
  let before := match (l.filter fun e => decide (e.at_ ≤ s.now)).getLast? with | some e => e.st | none => cmdOf s id
  ((l.filter fun e => decide (s.now < e.at_)).foldl (fun (a : Nat × State) e => (e.st, adoptEvent a.1 e a.2)) (before, s)).2

/-- What the new holder does with the relayed events at the take: those before take + D stand, later ones are cancelled
by a refresh of the new epoch (R337, R338). -/
def adoptCells (s : State) : State :=
  let dOf (id : Nat) : Nat := match armOf s id with | some a => armD s a | none => 0
  let near (e : Relayed) : Bool := decide (e.at_ < s.now + dOf e.cell)
  let ids := (s.twin.relayed.map Relayed.cell).dedup
  let s1 := ids.foldl (fun (a : State) id => adoptCell id (s.twin.relayed.filter fun e => e.cell == id && near e) a) s
  let late := ((s.twin.relayed.filter fun e => !near e).map Relayed.cell).dedup
  let s2 := late.foldl (fun (a : State) id => sendUnicast id (cmdOf a id) (s.now + dOf id) [] a) s1
  { s2 with twin := { s2.twin with relayed := [] },
            arm := s2.arm.map fun e => (e.1, if s.sys.state = .run then { e.2 with liveFrom := some (s.now + armD s e.1 - 1) } else e.2) }

/-- What is left of an interval from a fine tick on. -/
def restOf (f : Nat) (i : Option (Nat × Nat)) : Option (Nat × Nat) := i.bind fun k => if k.2 ≤ f then none else some (max f k.1, k.2)

/-- A carrier-mode leg leaves mitten at the take with the output its counter commands (R344); one with REFRESH_EN first has
the forced low of 06_legs_pwm.md R157 (DEDUCED, notes/assumptions/192.md). -/
def carrierTake (n : Nat) (s : State) : State :=
  let x := { leg s n with carry := 0 }
  let b := (x.start.getD (s.now : Int)).toNat
  if x.cfg.indep then
    let r := indepSpans x b
    let s1 := leaveIndep n (setLeg n x s)
    let s2 := setLeg n { leg s1 n with hi := r.1, lo := r.2.1 } s1
    indepEdges n (if x.cfg.refreshEn then forceLow n false s2 else s2)
  else if x.cfg.refreshEn then
    let hi := restOf (8 * s.now) (pulseAt x b (emitPulse x).1)
    forceLow n false (leaveMitten n (8 * s.now) false (setLeg n { x with hi := hi } s))
  else
    let e := emitPulse x
    let hi := pulseAt x b e.1
    let high := match hi with | some (u, v) => decide (u ≤ 8 * s.now) && decide (8 * s.now < v) | none => false
    leaveMitten n (8 * s.now) high (setLeg n { x with hi := hi } s)

/-- The channel that drives a Brim-mode leg lets it leave mitten at its present decision (R344). -/
def takeLevel (n : Nat) (s : State) : State :=
  { s with chan := s.chan.map fun e => (e.1, if e.2.cfg.legs.contains n ∧ ¬ legsLive s e.2.cfg then { e.2 with taken := true } else e.2) }

/-- Every leg that the last mirror update marked as enabled is enabled (R344). -/
def legsTake (s : State) : State :=
  match s.twin.mirror with
  | none => s
  | some m =>
    if s.sys.state ≠ .run then s
    else (m.legs.filter fun l => l.enabled).foldl
      (fun a l =>
        let a1 := takeLevel l.leg (enableLeg a l.leg)
        if brimMode a1 l.leg || !(leg a1 l.leg).mitten || !(leg a1 l.leg).enabled then a1 else carrierTake l.leg a1) s

/-- The device takes the cap; the take is the instant of its first pulse (R329, R333, R338, R344). Outside RUN the twins exchange
D anew (R335). -/
def takeCap (cause : Nat) (unready : Bool) (s : State) : State :=
  let s1 := { s with twin := { s.twin with holder := true, releasing := false, leaseOut := false, noTakeSaid := false,
                                           tookOnce := true, relTold := none,
                                           epoch := nextEpoch s, pulseTo := s.now + 13, applied := [] } }
  notePins (updReady (exchangeAll (legsTake (adoptCells (sayCap cause unready s1)))))

/-- The outcome of Table 14.2 at the moment the cap would be taken. -/
def capOutcome (cause : Nat) (s : State) : State :=
  if ¬ capState s then s
  else if s.twin.ready then takeCap cause false s
  else if s.twin.takeUnready then takeCap cause true s
  else if s.twin.noTakeSaid then s
  else raiseClass 25 0x2405 0 [] { s with twin := { s.twin with noTakeSaid := true } }

/-! ### The twin link (R334, R346) -/

/-- The twin link comes UP; a standby outside RUN measures TWIN_OFS, whose value is the environment's (R334, R346), and the twins
exchange D (R335). -/
def twinLinkUp (ofs : Int) (s : State) : State :=
  if s.twin.linkUp then s
  else
    let meas := standby s && s.sys.state != .run
    let s1 := { s with twin := { s.twin with linkUp := true, ofs := (if meas then ofs else s.twin.ofs),
                                             ofsValid := s.twin.ofsValid || meas } }
    updReady (exchangeAll (raiseClass 25 0x2403 1 [] s1))

/-- The twin link drops (R346). -/
def twinLinkDown (s : State) : State :=
  if ¬ s.twin.linkUp then s else updReady (raiseClass 25 0x2403 0 [] { s with twin := { s.twin with linkUp := false } })

/-- A link of a pair carries traffic: both lanes are UP, or one is and the other is lost. -/
def pairUp (s : State) (k : Nat) : Bool :=
  let a := (lane s (2 * k)).up
  let b := (lane s (2 * k + 1)).up
  (a && b) || ((a || b) && (bond s k).lost.isSome)

/-- The bonded link of a pair has come UP or gone down: a twin link reports it (14_twin.md R346). What the
measurement of TWIN_OFS gives is the environment's; it is a free value (DESIGN CHOICE, notes/assumptions/2.md). -/
def linkChanged (n : Nat) (s : State) : State :=
  if (lane s n).role = 5 then
    if pairUp s (n / 2) then
      if s.twin.linkUp then s
      else
        let d := drawNat s
        twinLinkUp (((d.1 % 2 ^ 64 : Nat) : Int) - 2 ^ 63) d.2
    else twinLinkDown s
  else s

/-- This device follows a holder: it is standby, and at start-up only while its twin's heartbeat is heard (R330, R341;
DEDUCED, notes/assumptions/17.md). -/
def follows (s : State) : Bool :=
  standby s && (s.sys.state != .idle ||
    match s.twin.lastIn with | some t => decide (s.now < t + usT s.twin.lease + 320) | none => false)

/-- A state opcode that this device has taken and that is not its twin's to give is forwarded (R341). -/
def forwardOp (opcode : Nat) (p : Bytes) (s : State) : State := twinSend (.opcode opcode p) s

/-! ### Mirroring (R340, R342) -/

/-- A run state with its ticks through `f`: to twin time, or back to own ticks. A reply that is owed stays with the device that
owes it. -/
def Run.shift (f : Nat → Nat) (r : Run) : Run :=
  { r with last := f r.last, limSince := r.limSince.map f, clSince := f r.clSince, exitSince := r.exitSince.map f,
           syncSince := r.syncSince.map f, closeSince := r.closeSince.map f, modeSince := f r.modeSince,
           ho := r.ho.map fun h => { h with since := f h.since, owed := none },
           pub := { r.pub with tick := f r.pub.tick }, out := { r.out with tick := f r.out.tick } }

/-- The grid-event state with its ticks through `f`; a group command that is in progress stays with the device that runs it. -/
def GridEv.shift (f : Nat → Nat) (g : GridEv) : GridEv :=
  { g with timer := g.timer.map fun e => (e.1, { e.2 with okSince := e.2.okSince.map f }), rocofOkSince := g.rocofOkSince.map f,
           bs := g.bs.map fun b => { b with started := f b.started, vSince := b.vSince.map f, pulseTo := b.pulseTo.map f, txn := none } }

/-- The grid-event state as it stands. -/
def gridEv (s : State) : GridEv :=
  let g := s.grid
  { timer := g.timer, envV := g.envV, envF := g.envF, rocofHi := g.rocofHi, rocofOkSince := g.rocofOkSince,
    rocofArmed := g.rocofArmed, jumpLast := g.jumpLast, island := g.island, clHold := g.clHold, bs := g.bs }

/-- A pending transition with its ticks through `f`. -/
def Pend.shift (f : Nat → Nat) (p : Pend) : Pend := { p with ts := f p.ts, at_ := f p.at_ }

/-- The mirror update of the step of boundary `b`. -/
def mirrorOf (b : Nat) (s : State) : Mirror :=
  let own := twinTime s
  { tick := own b, state := s.sys.state.code, mode := s.sys.mode.code, cfgCrc := twinCrc s,
    run := s.gfm.run.shift own, events := (gridEv s).shift own, dfSec := s.gfm.dfSec, dfTarget := s.gfm.dfTarget,
    gfmPresent := s.gfm.par.present, gridPresent := s.grid.par.present,
    chans := (s.chan.filter fun e => e.2.written).map fun e =>
      { ch := e.1, bS := e.2.bS, fMeas := e.2.fMeas, bandHeld := e.2.bandHeld, n := e.2.n, clampStep := e.2.clampStep,
        level := e.2.level, oPlus := e.2.oPlus, lastUp := e.2.lastUp, lastAt := e.2.lastAt.map own,
        pend := e.2.pend.map (Pend.shift own) },
    legs := s.leg.map fun e => { leg := e.1, enabled := e.2.enabled, dtR := e.2.dtR, dtF := e.2.dtF, missR := e.2.missR, missF := e.2.missF, carry := e.2.carry },
    cells := s.cell.filterMap fun e => e.2.cmdState.map fun c => (e.1, c.1, own c.2),
    recs := s.twin.applied }

/-- The holder sends its update after completing the step of a boundary (R340). -/
def sendMirror (b : Nat) (s : State) : State :=
  if s.twin.enable && s.twin.holder then
    let s1 := twinSend (.mirror (mirrorOf b s)) s
    { s1 with twin := { s1.twin with applied := [] } }
  else s

/-- The grid mode of a code of Table 2.4. -/
def modeOf (c : Nat) : GridMode := match c with | 1 => .gf | 2 => .gfCl | 3 => .gfl | 4 => .bs | _ => .none

/-- The standby takes the holder's control state as the start of its own step (R340). What the own last step has reported, the
measurements and the configuration stay its own. -/
def takeMirror (m : Mirror) (s : State) : State :=
  let own (t : Nat) : Nat := ownTime s t
  let s1 : State := { s with gfm := { s.gfm with par := { s.gfm.par with present := m.gfmPresent } },
                             grid := { s.grid with par := { s.grid.par with present := m.gridPresent } } }
  let s2 :=
    if s.sys.state = .run ∧ m.state = 3 then
      let g := m.events.shift own
      { s1 with sys := { s1.sys with mode := modeOf m.mode },
                gfm := { s1.gfm with run := { m.run.shift own with out := s.gfm.run.out }, dfSec := m.dfSec, dfTarget := m.dfTarget },
                grid := { s1.grid with timer := g.timer, envV := g.envV, envF := g.envF, rocofHi := g.rocofHi,
                                       rocofOkSince := g.rocofOkSince, rocofArmed := g.rocofArmed, jumpLast := g.jumpLast,
                                       island := g.island, clHold := g.clHold, bs := g.bs } }
    else s1
  let put (x : Chan) (c : MChan) : Chan :=
    { x with bS := c.bS, fMeas := c.fMeas, bandHeld := c.bandHeld, n := c.n, clampStep := c.clampStep, level := c.level,
             oPlus := c.oPlus, lastUp := c.lastUp, lastAt := c.lastAt.map own, pend := c.pend.map (Pend.shift own) }
  let s3 := m.chans.foldl (fun a c => setChan c.ch (put (chan a c.ch) c) a) s2
  let s4 := m.legs.foldl (fun a l => setLeg l.leg { leg a l.leg with dtR := l.dtR, dtF := l.dtF, missR := l.missR, missF := l.missF, carry := l.carry } a) s3
  let s5 := m.cells.foldl (fun (a : State) c => setCell c.1 { cell a c.1 with cmdState := some (c.2.1, own c.2.2) } a) s4
  { s5 with occ := s5.occ ++ m.recs.map fun r =>
      { cls := r.2.1, event := 0, detail := 0, tick := s.now, holder := some r.1, legs := r.2.2 } }

/-- What a step boundary does in a standby: it takes the update that has arrived, or counts a step without one. In a holder
its last update ages as well (R343, R347). -/
def mirrorBoundary (s : State) : State :=
  if ¬ standby s then (if s.twin.enable then { s with twin := { s.twin with mirrorAge := s.twin.mirrorAge + 1 } } else s)
  else match s.twin.mirrorSeen, s.twin.mirror with
    | true, some m => updReady (takeMirror m { s with twin := { s.twin with mirrorSeen := false, mirrorAge := 0 } })
    | _, _ => updReady (bump 0x2403 0 32 { s with twin := { s.twin with mirrorAge := s.twin.mirrorAge + 1 } })

/-- The largest difference between the published currents of two steps, and between their published angles: references, balancing
terms, and in a hand-over those of the incoming law (R342). -/
def pubDiff (p q : Pub) : Rat × Rat :=
  let bal := (p.circ.zip q.circ).foldl (fun (a : Rat) x => max a |x.1 - x.2|) 0
  (max (max |p.iD - q.iD| |p.iQ - q.iQ|) (max bal (max |p.mixD - q.mixD| |p.mixQ - q.mixQ|)),
    max |wrapHalf (p.thetaPub - q.thetaPub)| |wrapHalf (p.mixTheta - q.mixTheta)|)

/-- E14–E15 compare the two results of one boundary (R342). -/
def compareStep (m : Mirror) (s : State) : State :=
  let d := pubDiff s.gfm.run.pub m.run.pub
  let di := d.1
  let da := d.2
  let bad := decide (puOf s.twin.cmpDi < di) || decide (turnOf s.twin.cmpDang < da)
  let w := { s.twin with compared := true, diMax := max s.twin.diMax (puCode di).toNat,
                         dangMax := max s.twin.dangMax (rnd (da * 2 ^ 32)).toNat, failRun := (if bad then s.twin.failRun + 1 else 0) }
  if bad then
    let s1 := bump 0x2403 0 28 { s with twin := w }
    if w.cmpN ≤ w.failRun ∧ ¬ w.checkOn then
      updReady (raiseClass 26 0x2404 0 [] { s1 with twin := { s1.twin with checkOn := true } })
    else s1
  else updReady { s with twin := { w with checkOn := false } }

end Sys2Proof.Machine
end

