-- ==== Sys2Proof/Machine/SysOps.lean ====
section
/-! DEFINITION. The state transitions of Table 1.5 as the state opcodes and a twin's forwarded opcodes make them
(01_architecture.md R27 to R33, 02_grid_forming.md R56, R57, 03_grid_events.md R83, R86, 07_gauntlet.md R187). -/

namespace Sys2Proof.Machine

open Sys2Proof

/-- A transition is still completing (R27). -/
def transBusy (s : State) : Bool := s.sys.trans.isSome

/-- What a state opcode that is not refused does, or its refusal. -/
abbrev Trial := Except (Status × Nat) State

/-! ### ARM and DISARM -/

/-- TBASE is locked or in holdover (18_timing.md R414). -/
def tbLockedOrHeld (s : State) : Bool :=
  match s.clk.tb with
  | .locked => true
  | .holdover => true
  | .recovering => !s.clk.fromCoast
  | _ => false

/-- TBASE is coasting low (18_timing.md R414). -/
def coastingLow (s : State) : Bool := s.clk.tb == .coastLow || (s.clk.tb == .recovering && s.clk.fromCoast)

/-- The factors of every converter whose TIMING is not OFF are valid (08_acquisition.md R211). -/
def calibrationValid (s : State) : Bool := (List.range 20).all fun n => (conv s n).cfg.timing == 0 || (conv s n).cal.valid

/-- IDLE to ARMED. -/
def doArm (s : State) : Trial :=
  if transBusy s then .error (.busy, 0)
  else if tbLockedOrHeld s && calibrationValid s then .ok (enterState .armed s)
  else .error (.notReady, 0)

/-- ARMED to IDLE. -/
def doDisarm (s : State) : Trial := if transBusy s then .error (.busy, 0) else .ok (enterState .idle s)

/-! ### RUN -/

/-- The first failed condition of an entry into RUN, as Table 17.6 codes it; 0 where none fails. -/
def runRefusal (mode : GridMode) (s : State) : Nat :=
  let lock := s.gfm.obs.lock
  if ¬ s.gnt.confirmed then 2
  else if coastingLow s then 3
  else if mittenAsserted s then 4
  else if faultAsserted s then 5
  else if mode = .bs ∧ epPu s 0x1E ≤ s.gfm.vLineMax then 6
  else if mode = .gf ∧ ¬ lock ∧ ep s 0x1D = 0 then 6
  else if mode = .gfl ∧ ¬ lock then 7
  else 0

/-- ARMED to RUN: the entry is made at the next boundary. -/
def doRun (mode : GridMode) (owed : Option Owed) (s : State) : Trial :=
  if transBusy s then .error (.busy, 0)
  else
    let d := runRefusal mode s
    if d ≠ 0 then .error (.refused, d)
    else .ok { s with sys := { s.sys with trans := some (.toRun mode s.gfm.obs.lock owed) } }

/-- Legs that entry to RUN enables (06_legs_pwm.md R162). -/
def entryLegs (s : State) : List Nat :=
  (s.leg.filter fun e => e.2.cfg.enAtRun && (match chanOfLeg s e.1 with | some c => (chMap s c).src != 0 | none => true)).map Prod.fst

/-- Enter RUN at a boundary (R33, 02_grid_forming.md R56, R57, 03_grid_events.md R80, R84, R86, R162; 04_brim_engine.md
R118). `lock` is obs_lock at the request; `since` how long ago in ns a group's execute-at was (12_partners_sessions.md
R300). A standby enables no leg (14_twin.md R344). -/
def enterRun (mode : GridMode) (lock : Bool) (since : Option Rat) (s : State) : State :=
  let b := s.now
  -- a commit that this boundary applies is in force for the entry, which starts from what the boundary has measured
  let s := (openBoundary b (paramBoundary b s)).1
  let ramp := mode == .gf && !lock
  let actual : GridMode := if ramp then GridMode.bs else mode
  let l0 := if actual = GridMode.bs then entryBS s else entryLaw s b
  let l : Law := match since with
    | some ns => if mode = GridMode.bs then { l0 with theta := wrap1 (l0.w * fNom s * ns / 1000000000) } else l0
    | none => l0
  let x := s.gfm.par
  let pres := ((x.present.put 0x0B (l.pSet * 2 ^ 27)).put 0x12 (l.vSet * 2 ^ 27)).put 0x13 (l.qSet * 2 ^ 27)
  let d := wrapHalf (l.theta - thetaG s b)
  let run : Run := { law := { l with eRef := l.vSet }, delta := d, last := b, modeSince := b, wHold := l.w, rampEntry := ramp, eBs := epPu s 0x1F }
  let s1 := { s with sys := { s.sys with mode := actual },
                     gfm := { s.gfm with run := run, work := none, ready := none, inForce := {}, par := { x with present := pres } } }
  let s2 := enterState .run s1
  let s3 := if actual ≠ GridMode.bs then s2
    else if ramp ∨ s2.grid.bsProg.isEmpty then startRamp 0 s2
    else { s2 with grid := { s2.grid with bs := some {} } }
  let s4 := brimEnterRun s3
  let s5 := if standby s4 then s4 else (entryLegs s4).foldl enableLeg s4
  let s6 := (s5.arm.keys.filter (armDefined s5)).foldl (fun a k => armStart k a) s5
  if s6.grid.clHold ∧ actual = .gf then enterCL b 8 d l.vSet run.law s6 else chopSettle s6

/-! ### STOP -/

/-- The end of the ramp: legs to mitten, cells to their safe state, ARMED (R28). -/
def finishStop (s : State) : State := enterState .armed (leaveRun s)

/-- RUN to ARMED over T_stop milliseconds (R28); a hand-over blend freezes its λ (03_grid_events.md R77). -/
def doStop (ms : Nat) (s : State) : Trial :=
  if transBusy s then .error (.busy, 0)
  else if ms = 0 then .ok (finishStop s)
  else
    let s1 := updRun (fun r => { r with ho := r.ho.map fun h => { h with frozen := true } }) s
    .ok { s1 with sys := { s1.sys with trans := some (.stopRamp s.now ms) } }

/-! ### CLEAR -/

/-- TRIPPED to ARMED (07_gauntlet.md R187; DEDUCED, notes/assumptions/108.md). -/
def doClear (s : State) : Trial :=
  if transBusy s then .error (.busy, 0)
  else if faultAsserted s then .error (.refused, 5)
  else if mittenAsserted s then .error (.refused, 4)
  else .ok (notePins (enterState .armed { s with gnt := { s.gnt with brk := [] } }))

/-- A state opcode of R341 sent to this device: a standby refuses it, else it is taken and forwarded (DEDUCED,
notes/assumptions/17.md). -/
def stateOp (code : Nat) (p : Bytes) (s : State) (f : State → Trial) (done : State → Ans) : Ans :=
  if follows s then .no .refused 1
  else match f s with
    | .error (st, d) => .no st d
    | .ok s1 => done (forwardOp code p s1)

end Sys2Proof.Machine
end

