-- ==== Sys2Proof/Machine/System.lean ====
section
/-! DEFINITION. The SYS opcodes of the device state and the outer step's parameters, the entry into RUN, the end of a
stop ramp and OP_GNT_CLEAR (01_architecture.md, 17_opcodes.md Table 17.1, 07_gauntlet.md R187). -/

namespace Sys2Proof.Machine

open Sys2Proof

/-- HW_ID (16_command_transport.md Table 16.9). -/
def hwId : Nat := 0x77300B01

/-- The image of a slot: 0 A, 1 B. -/
def slotImage (s : State) (k : Nat) : Bytes := if k = 0 then s.mram.imageA else s.mram.imageB

/-- IMAGE_VER of the running image; 0 where none runs (20_security.md Table 20.2). -/
def runningVer (s : State) : Nat := if s.sec.running = 0 then 0 else u32 (slotImage s (s.sec.running - 1)) 12

/-- OP_SYS_GET_INFO (17_opcodes.md Table 17.1). -/
def execOpSysGetInfo (r : Req) (s : State) : Out :=
  runOp { code := 0x0005, states := stBIARTS } r s fun p s =>
    fourReserved p fun _ =>
      .give s (le 4 hwId ++ le 1 s.sys.state.code ++ le 1 s.sys.mode.code ++ le 1 (twinRole s) ++
        le 1 (if s.sec.running = 0 then 0xFF else s.sec.running - 1) ++ le 4 (runningVer s) ++ le 8 (stamp s))

/-- T_pub after an OP_SYS_SET_STEP: the one given; else the one in force, or half of a new T_step (R14). -/
def newPub (s : State) (tStep tPub : Nat) : Nat :=
  if tPub ≠ 0 then tPub else if tStep = s.sys.tStep then s.sys.tPub else tStep / 2 / 80 * 80

/-- OP_SYS_SET_STEP (R13 to R15; DEDUCED, notes/assumptions/18.md). -/
def execOpSysSetStep (r : Req) (s : State) : Out :=
  runOp { code := 0x0006, states := stIA } r s fun p s =>
    let a := u32 p 0
    let b := newPub s a (u32 p 4)
    chk [lenIs p 8, (a % 80 != 0, .badParam, 0), outOf a 8000 160000 0, (u32 p 4 % 80 != 0, .badParam, 4),
         (decide (b * 100 < a * 25) || decide (a * 95 < b * 100), .range, 4)] fun _ =>
      .give { s with sys := { s.sys with tStep := a, tPub := b, stepStart := none, late := [], stepDone := none, pubFor := none } }
        (le 4 a ++ le 4 b)

/-- OP_SYS_ARM (R27). -/
def execOpSysArm (r : Req) (s : State) : Out :=
  runOp { code := 0x0007, states := stI } r s fun p s => fourReserved p fun _ => stateOp 0x0007 p s doArm .done

/-- The grid modes that OP_SYS_RUN may name (R33). -/
def runModeOk (c : Nat) : Bool := c == 1 || c == 3 || c == 4

/-- OP_SYS_RUN (R27, R33; 02_grid_forming.md R56): the reply is deferred to the entry boundary. -/
def execOpSysRun (r : Req) (s : State) : Out :=
  runOp { code := 0x0008, states := stA } r s fun p s =>
    chk [lenIs p 4, (!runModeOk (u8 p 0), .badParam, 0), rsv p 1 3] fun _ =>
      stateOp 0x0008 p s (doRun (modeOf (u8 p 0)) (some (owedTo r 0x0008))) .later

/-- RUN_ENTRY_BOUNDARY: the first step boundary after an accepted OP_SYS_RUN. -/
def execRunEntryBoundary (t : Nat) (s : State) : Out :=
  ev t s fun s =>
    match s.sys.trans with
    | some (.toRun mode lock owed) =>
      if s.sys.state ≠ .armed ∨ ¬ tbRuns s ∨ s.now % s.sys.tStep ≠ 0 ∨ s.sys.halted % 16 ≠ 0 then s
      else
        let s1 := enterRun mode lock none s
        match owed with
        | some w => answer w .ok 0 (le 8 s1.now) s1
        | none => s1
    | _ => s

/-- OP_SYS_STOP (R28). -/
def execOpSysStop (r : Req) (s : State) : Out :=
  runOp { code := 0x0009, states := stR } r s fun p s =>
    chk [lenIs p 4, outOf (u32 p 0) 0 1000 0] fun _ =>
      stateOp 0x0009 p s (doStop (u32 p 0)) fun s => .yes s .accepted 0 []

/-- STOP_RAMP_END (R28). -/
def execStopRampEnd (t : Nat) (s : State) : Out :=
  ev t s fun s =>
    match s.sys.trans with
    | some (.stopRamp start ms) => if due s (start + msT ms) then finishStop s else s
    | _ => s

/-- OP_SYS_DISARM (R27). -/
def execOpSysDisarm (r : Req) (s : State) : Out :=
  runOp { code := 0x000A, states := stA } r s fun p s => fourReserved p fun _ => stateOp 0x000A p s doDisarm .done

/-- OP_SYS_SERVICE (R27). -/
def execOpSysService (r : Req) (s : State) : Out :=
  runOp { code := 0x000B, states := stI } r s fun p s =>
    fourReserved p fun _ => chk [(transBusy s, .busy, 0)] fun _ => .done (enterState .service s)

/-- OP_SYS_IDLE (R27): the test functions stop, then IDLE is entered. -/
def execOpSysIdle (r : Req) (s : State) : Out :=
  runOp { code := 0x000C, states := stS } r s fun p s =>
    fourReserved p fun _ => chk [(transBusy s, .busy, 0)] fun _ => .yes (enterState .idle s) .accepted 0 []

/-- OP_GNT_CLEAR (07_gauntlet.md R187). -/
def execOpGntClear (r : Req) (s : State) : Out :=
  runOp { code := 0x150A, states := stT } r s fun p s => fourReserved p fun _ => stateOp 0x150A p s doClear .done

/-- DEBUG_HALT (R26; 06_legs_pwm.md R165; 20_security.md R451): a halt of one of E0 to E3 under debug level 2 puts every
leg into mitten, stops the heartbeat and, in RUN, leads to TRIPPED (DEDUCED, notes/assumptions/109.md). -/
def execDebugHalt (t : Nat) (engine : Nat) (s : State) : Out :=
  ev t s fun s =>
    if s.sec.debug < 2 ∨ 15 < engine ∨ s.sys.halted.testBit engine then s
    else
      let s1 := { s with sys := { s.sys with halted := s.sys.halted ||| 2 ^ engine } }
      if 3 < engine then s1
      else
        let s2 := disableAll 4 s1
        let s3 := dropLegPending s2
        let s4 := raise 0x0005 engine [] (stopCap s3)
        if s4.sys.state = .run then enterTripped s4 else s4

/-- DEBUG_HALT_END (06_legs_pwm.md R165): the legs stay disabled. -/
def execDebugHaltEnd (t : Nat) (engine : Nat) (s : State) : Out :=
  ev t s fun s =>
    if s.sys.halted.testBit engine then { s with sys := { s.sys with halted := s.sys.halted - 2 ^ engine } } else s

end Sys2Proof.Machine
end

