-- ==== Sys2Proof/Machine/ResetOps.lean ====
section
/-! DEFINITION. What a reset does to the device (19_supplies_reset.md R430 to R433) and the verification of an image
(20_security.md R436 to R439). -/

namespace Sys2Proof.Machine

open Sys2Proof

/-! ### Reset -/

/-- Gates that stay asserted over a reset: those of a hold in progress, or those that a MIT_LATE leg selects
(06_legs_pwm.md R163, R164). Bit 0 GL, bit 1 GH. -/
def resetHold (x : Leg) : Nat :=
  let on := b2n x.gl + 2 * b2n x.gh
  match x.hold with
  | some (h, _) => h &&& on
  | none =>
    let sel := bits x.cfg.mitten 3 2
    if x.cfg.mitLate ∧ 0 < x.cfg.mitDelay then (if sel = 0 then 3 else sel) &&& on else 0

/-- A leg after a reset: unconfigured and in mitten, with the gates of a hold and the level of its node ball. -/
def resetLeg (x : Leg) : Leg :=
  let h := resetHold x
  { gh := h.testBit 1, gl := h.testBit 0, reqH := h.testBit 1, reqL := h.testBit 0, node := x.node,
    hold := if h = 0 then none else some (h, 0) }

/-- A cell node keeps its own time and its events; the device's ticks that the model holds of it are counted from the
instant of the device's reset. -/
def resetNode (now : Nat) (n : Node) : Node :=
  let port (q : NPort) : NPort := { q with heardAt := q.heardAt - now }
  { n with syncL := n.syncL - now, syncU := n.syncU - now, lastDown := n.lastDown - now, phase := n.phase + 8 * (now : Int),
           deadTo := n.deadTo.map fun e => e - now, up := port n.up, down := port n.down }

/-- A fault input ball after a reset: only its level remains. -/
def resetInput (x : FInput) : FInput := { asserted := x.asserted }

/-- The boot record that the boot ROM takes: the first copy whose CRC passes, else PERM_SLOT A without a TRY_SLOT (R439;
DESIGN CHOICE, notes/assumptions/196.md). -/
def bootRec (m : Mram) : BootRec := (m.boot1.or m.boot2).getD {}

/-- Write the boot record, the first copy first (R439). -/
def writeBoot (b : BootRec) (s : State) : State :=
  { s with mram := { s.mram with boot1 := some b, boot2 := some b }, sec := { s.sec with bootOld := some (bootRec s.mram, s.now) } }

/-- What a reset leaves of MRAM and fuses that are being written (R431, R439, R442, R445): a word of MRAM old or new, so
that a copy of the boot record may be old, new or fail its CRC; the ROLLBACK fuses between the old value and the target; and
the flag of the owner's key blown or not. Which of these is free (DESIGN CHOICE, notes/assumptions/2.md; DESIGN CHOICE,
notes/assumptions/196.md). -/
def brokenMram (s : State) : Mram :=
  let m := s.mram
  let f (k : Nat) : Nat := Config.freeNat (s.draws + k)
  let m1 := match s.sec.bootOld with
    | some (o, t) =>
      if t ≠ s.now then m
      else match f 0 % 5 with
        | 0 => { m with boot1 := some o, boot2 := some o }
        | 1 => { m with boot1 := none, boot2 := some o }
        | 2 => { m with boot2 := some o }
        | 3 => { m with boot2 := none }
        | _ => m
    | none => m
  let m2 := match s.sec.blowing with
    | some (old, t) =>
      if t + msT (m.rollback - old) ≤ s.now then m1 else { m1 with rollback := old + f 1 % (m.rollback - old + 1) }
    | none => m1
  match s.sec.fusing with
  | some (_, true) => { m2 with partialOff := m2.partialOff || f 2 % 2 == 1 }
  | _ => m2

/-- Reset with a cause and, for SAG, a supply (R430, R431, R433): everything in SRAM is lost; MRAM, fuses, the cause
latch, the levels of input balls, the supplies and the cell nodes remain. A further source in reset changes neither
cause nor supply (DEDUCED, notes/assumptions/12.md). -/
def resetDevice (cause supply : Nat) (s : State) : State :=
  let p := s.pwr
  { State.reset with
      mram := brokenMram s
      node := s.node.map fun e => (e.1, resetNode s.now e.2)
      leg := s.leg.map fun e => (e.1, resetLeg e.2)
      gnt := { State.reset.gnt with
        input := (s.gnt.input.filter fun e => e.2.asserted).map fun e => (e.1, resetInput e.2)
        mitLow := s.gnt.mitLow.map fun _ => 0 }
      balls := { State.reset.balls with pioIn := s.balls.pioIn }
      pwr := { State.reset.pwr with
        warn := p.warn, low := p.low, porLow := p.porLow, ioOff := p.ioOff, inReset := true
        cause := if p.inReset then p.cause else cause
        sagSupply := if p.inReset then p.sagSupply else supply }
      draws := s.draws + 3
      pending := s.pending }

/-! ### Unrun images (20_security.md Table 20.2) -/

def imgFlags (i : Bytes) : Nat := u16 i 6
def imgRollback (i : Bytes) : Nat := u8 i 11
def imgVer (i : Bytes) : Nat := u32 i 12
def imgBodyLen (i : Bytes) : Nat := u32 i 16
def imgCoSigned (i : Bytes) : Bool := (imgFlags i).testBit 0
def imgVendorPub (i : Bytes) : Bytes := bytesAt 64 i 64
def imgOwnerPub (i : Bytes) : Bytes := bytesAt 64 i 128
def imgVendorSig (i : Bytes) : Bytes := bytesAt 64 i 256
def imgOwnerSig (i : Bytes) : Bytes := bytesAt 64 i 320

/-- FORMAT, BODY_LEN and the reserved fields are right (VR 3). -/
def imgFormatOk (i : Bytes) : Bool :=
  u16 i 4 == 2 && decide (4096 ≤ imgBodyLen i) && decide (imgBodyLen i ≤ 2096640) && imgBodyLen i % 16 == 0 &&
    imgFlags i / 2 == 0 && zeroAt i 23 9 && zeroAt i 192 64 && zeroAt i 384 128

/-- PART, MIN_REV and MIN_FIX suit this silicon (VR 4). -/
def imgPartOk (i : Bytes) : Bool :=
  let rev := hwId / 256 % 256
  u16 i 8 == 0x7730 && decide (u8 i 10 ≤ rev) && (u8 i 10 != rev || decide (u8 i 22 ≤ hwId % 256))

/-- Header and body of a slot. -/
def imgAll (i : Bytes) : Bytes := bytesAt (512 + imgBodyLen i) i 0

/-- The VR code that verification of a slot's present contents gives: the checks of Table 20.3 in order (DEDUCED,
notes/assumptions/112.md). -/
def verifyImage (m : Mram) (i : Bytes) (loading : Bool) : Nat :=
  if u32 i 0 ≠ 0x4E524E55 then 2
  else if ¬ imgFormatOk i then 3
  else if ¬ imgPartOk i then 4
  else if sm3 (imgVendorPub i) ≠ vendorHash then 5
  else if ¬ sm2Verify (imgVendorPub i) (bytesAt 256 i 0) (imgVendorSig i) then 6
  else if m.ownerHash.isSome ∧ (¬ imgCoSigned i ∨ m.ownerHash ≠ some (sm3 (imgOwnerPub i))) then 7
  else if m.ownerHash.isSome ∧ ¬ sm2Verify (imgOwnerPub i) (bytesAt 320 i 0) (imgOwnerSig i) then 8
  else if sm3 (bytesAt (imgBodyLen i) i 512) ≠ bytesAt 32 i 32 then 9
  else if imgRollback i < m.rollback then 10
  else if loading then 11
  else 1

/-- The status of a VR code (Table 20.3). -/
def vrStatus (vr : Nat) : Status :=
  if vr = 1 then .ok
  else if vr = 10 then .refused
  else if 5 ≤ vr ∧ vr ≤ 9 then .auth
  else .badParam

/-! ### Slots -/

def slotOf (s : State) (k : Nat) : Slot := if k = 0 then s.sec.slotA else s.sec.slotB

def setSlot (k : Nat) (x : Slot) (s : State) : State :=
  if k = 0 then { s with sec := { s.sec with slotA := x } } else { s with sec := { s.sec with slotB := x } }

/-- Start the verification of a slot, or let it wait for the one in progress (R441). -/
def startVerify (k : Nat) (w : Owed) (s : State) : State :=
  if s.sec.verifying.isSome then { s with sec := { s.sec with verifyQ := s.sec.verifyQ ++ [(k, w)] } }
  else { s with sec := { s.sec with verifying := some (k, .command w) } }

/-- The next verification that waits begins. -/
def nextVerify (s : State) : State :=
  match s.sec.verifyQ with
  | [] => s
  | (k, w) :: r =>
    if s.sec.verifying.isSome then s
    else { s with sec := { s.sec with verifying := some (k, .command w), verifyQ := r } }

/-- Write the bytes of an image into a slot from its start; what lies beyond keeps its old contents (R440). -/
def writeImage (k : Nat) (b : Bytes) (s : State) : State :=
  let img := b ++ (slotImage s k).drop b.length
  let s1 := setSlot k { vr := 11, meas := [] } s
  if k = 0 then { s1 with mram := { s1.mram with imageA := img } } else { s1 with mram := { s1.mram with imageB := img } }

end Sys2Proof.Machine
end

