-- ==== Sys2Proof/Machine/LaneOps.lean ====
section
/-! DEFINITION. Lanes: roles, training, drops, power states and what they do to strands, partners and the twin link
(10_hanel_lanes.md R234 to R251, 11_strands_cells.md R256, R272, R277, R278). -/

namespace Sys2Proof.Machine

open Sys2Proof

/-! ### Roles and hops (R235, 12_partners_sessions.md R285, R286) -/

/-- A lane carries cells of a configured arm. -/
def carriesCells (s : State) (n : Nat) : Bool :=
  !(heads s n).isEmpty && (cellsOn s n).any fun id => (armOf s id).isSome

/-! ### TRAIN blocks (Table 10.3) -/

/-- A head begins the exchange of 256 ECHO_REQ blocks with the node at a hop (11_strands_cells.md R256). -/
def echoStart (n hop : Nat) (s : State) : State :=
  setLane n { lane s n with echoFor := some hop, echoNext := 0, echoWait := 0 } s

/-- The request of an exchange that the present block slot is for: one every 16 slots, between frames (11_strands_cells.md
R256). -/
def Lane.echoHop (x : Lane) : Option Nat :=
  if x.echoNext < 256 ∧ x.echoWait = 0 ∧ x.cur.isNone ∧ x.susp.isEmpty then x.echoFor else none

/-! ### Attempts (R238, R241) -/

/-- The wait after the k-th failed attempt in a row, ms (R241). -/
def backoffMs (k : Nat) : Nat := if k ≤ 8 then 2 ^ (k + 1) else 1000

/-- Mark the partner at a hop ABSENT, and every partner beyond it from this head (R242). -/
def absentFrom (n hop cause : Nat) (s : State) : State :=
  let beyond := (cellsOn s n).filter fun id => decide (hop < (partner s id).hop)
  let s1 := match listedAt s n hop with
    | some id => partnerAbsent id cause s
    | none => s
  if (lane s n).role = 1 then beyond.foldl (fun a id => partnerAbsent id 1 a) s1 else s1

/-- An attempt fails (R238, R241, R242). `cause` 1 TRAIN or 3 VERSION; `said` where its event has been raised. -/
def failAttempt (n cause : Nat) (said : Bool) (s : State) : State :=
  let x := lane s n
  if ¬ x.training then s
  else
    let s1 := if said then s else raise 0x2003 n (le 1 x.hop ++ le 1 x.st ++ le 2 0) s
    let k := x.waits.getD x.hop 0
    let next := s.now + msT (backoffMs k)
    let y := { x with training := false, st := 0, waits := x.waits.put x.hop (k + 1), retryAt := some next,
                      waitTo := x.waitTo.put x.hop next, shWin := 0, shBad := 0, echoFor := if x.echoFor = some x.hop then none else x.echoFor }
    let s2 := bump 0x2007 n 52 (setLane n y s1)
    let o := lane s2 (otherLane n)
    if x.role = 2 then
      if 1 ≤ o.waits.getD x.hop 0 then
        let s3 := absentFrom n x.hop cause s2
        if x.loopOpen then s3
        else raise 0x2008 (det n 0) []
          (setLane n { lane s3 n with loopOpen := true } (setLane (otherLane n) { lane s3 (otherLane n) with loopOpen := true } s3))
      else if cause = 3 then absentFrom n x.hop cause s2
      else s2
    -- the lost lane of a pair trains alone while the other carries the traffic (R244); a partner that is ABSENT stays so, and one
    -- listed anew, or refused for its version on a retry, is marked as well (12_partners_sessions.md Tables 12.1, 12.2)
    else if bonded x.role ∧ pairUp s2 (n / 2) then s2
    else absentFrom n x.hop cause s2

/-- What a hop that is UP gives to its partner: a cell its offset and its NODE_SET, a session partner its path
(11_strands_cells.md R256, R258; 12_partners_sessions.md R285, R290). -/
def hopReached (n hop : Nat) (ofs : Option Nat) (ver : Nat) (s : State) : State :=
  match listedAt s n hop with
  | none =>
    let r := (lane s n).role
    if r = 5 ∨ (r = 4 ∧ n % 2 = 1) then s else raise 0x2204 (det hop (strandOf s n)) [] s
  | some id =>
    let q := partner s id
    let s1 := setPartner id { q with ver := ver, reached := true } s
    if q.type = 1 then
      let up := upperHead s n
      let c := cell s1 id
      setCell id { c with ofsL := (if up then c.ofsL else ofs), ofsU := (if up then ofs else c.ofsU),
                          heads := c.heads ||| (if up then 2 else 1), head := if c.heads = 0 then b2n up else c.head,
                          ver := ver, setDue := some (c.setDue == some true), gone := false } s1
    else
      -- a good answer ends VERSION and ID_ECHO, and a session that has stayed open is reached again (R280, R283)
      let s2 := setPartner id { partner s1 id with fault := q.fault % 2 } s1
      if q.autoSession ∧ q.session = 0xFFFF ∧ q.autoAt.isNone then
        setPartner id { partner s2 id with autoAt := some s2.now } s2
      else if q.state = 4 ∧ (sess s2 q.session).state = 2 then partnerUp id s2
      else s2

/-- The offset that a head holds of a hop. -/
def heldOffset (s : State) (n hop : Nat) : Option Nat :=
  match listedAt s n hop with
  | none => none
  | some id => if upperHead s n then (cell s id).ofsU else (cell s id).ofsL

/-- The next hop of a closed loop that the other head serves and this head has not measured (11_strands_cells.md R256). -/
def farHop (s : State) (n : Nat) : Option Nat :=
  if (lane s n).role ≠ 2 ∨ ¬ (lane s n).up ∨ hopsLeft s n then none
  else ((List.range (hopCount s n)).map (hopAt s n)).find? fun h => (listedAt s n h).isSome && (heldOffset s n h).isNone

/-- Send the ECHO_REQ blocks of the next such measurement on the UP lane, between frames (11_strands_cells.md R256). -/
def farEcho (n : Nat) (s : State) : State :=
  match farHop s n with
  | some h => echoStart n h s
  | none => s

/-- A hop has reached UP (R238, R241, R242, R244). -/
def hopUp (n : Nat) (ofs : Option Nat) (s : State) : State :=
  let x := lane s n
  let ver := match x.heard with | some (v, _) => v | none => 0x23
  let y := { x with training := false, st := 6, reach := x.reach + 1, up := true, waits := Tbl.del x.hop x.waits, retryAt := none,
                    waitTo := Tbl.del x.hop x.waitTo, vers := x.vers.put x.hop ver,
                    ver := if x.ver = 0 then ver else min x.ver ver, echoFor := none }
  let s1 := setLane n y s
  let s2 := if x.up then s1 else raise 0x2001 n [] s1
  let s3 := hopReached n x.hop ofs ver s2
  -- a lost lane of a pair waits for the next marker (R244)
  let k := n / 2
  let s4 := if ¬ bonded x.role then s3
    else if (bond s3 k).lost = some n then setBond k { bond s3 k with joining := true } s3
    else if x.up then s3 else setBond k { bond s3 k with odd := false } s3
  -- on a loop the other head's retry or attempt on this hop is cancelled, and the loop may close (R242)
  let o := lane s4 (otherLane n)
  let s5 := if x.role = 2 ∧ (o.retryAt.isSome ∨ o.training) ∧ o.hop = x.hop then
      setLane (otherLane n) { o with retryAt := none, training := false, st := if o.training then 0 else o.st,
                                     waits := Tbl.del x.hop o.waits, waitTo := Tbl.del x.hop o.waitTo } s4
    else s4
  let s6 := if x.role = 2 ∧ x.loopOpen ∧ ¬ hopsLeft s5 n then
      raise 0x2008 (det n 1) []
        (setLane n { lane s5 n with loopOpen := false }
          (setLane (otherLane n) { lane s5 (otherLane n) with loopOpen := false } s5))
    else s5
  -- on a closed loop each head measures the nodes of the other (11_strands_cells.md R256)
  let s7 := if x.role = 2 then farEcho (otherLane n) (farEcho n s6) else s6
  -- the echo over the twin link gives TWIN_LAT (14_twin.md R335)
  let s8 := match ofs with
    | some f => if x.role = 5 ∧ n = 14 then exchangeAll { s7 with twin := { s7.twin with lat := fineNs f + 200 } } else s7
    | none => s7
  linkChanged n (updStrand n (recomputeD n s8))

/-! ### Hop delays (11_strands_cells.md R256) -/

/-- Insert into a rising list. -/
def insertNat (x : Nat) : List Nat → List Nat
  | [] => [x]
  | y :: r => if x ≤ y then x :: y :: r else y :: insertNat x r

/-- The round trips that are kept: the 16 lowest and the 16 highest go. -/
def keptDelays (l : List Nat) : List Nat :=
  let a := l.foldr insertNat []
  (a.drop 16).take (a.length - 32)

/-- OFFSET of the kept round trips in fine ticks; none where they are fewer than asked for or spread too far (DEDUCED,
notes/assumptions/101.md). -/
def offsetOf (l : List Nat) : Option Nat :=
  let k := keptDelays l
  if l.length < 240 ∨ 32 < k.getLast?.getD 0 - k.head?.getD 0 then none
  else some (rnd (((k.sum : Rat) / k.length - 4325376 / 1000) / 2)).toNat

/-- The greatest offset that this head holds of the hops before one position. -/
def offsetBefore (s : State) (n hop : Nat) : Option Nat :=
  let before := if upperHead s n then (List.range (hopCount s n)).filter (fun h => decide (hop < h)) else List.range hop
  (before.filterMap (heldOffset s n)).foldl (fun b o => some (max o (b.getD 0))) none

/-! ### Drops (R244, R247) -/

/-- A head no longer reaches the cells of its strand. -/
def loseCells (n : Nat) (s : State) : State :=
  let up := upperHead s n
  (cellsOn s n).foldl
    (fun a id =>
      let c := cell a id
      let h := if up then c.heads &&& 1 else c.heads &&& 2
      if h = c.heads then a
      else
        let moved := h != 0 && c.head == b2n up
        setCell id { c with heads := h, head := if moved then 1 - b2n up else c.head,
                            gone := c.gone || (h == 0 && (armOf a id).isSome),
                            setDue := if moved then some (c.setDue == some true) else c.setDue,
                            setPend := if h = 0 then none else c.setPend } a)
    s

/-- A lane after a drop: nothing in transmission, nothing trained; a transmitter in electrical idle leaves it (R246). The waits of
R241 stand. -/
def Lane.dropped (x : Lane) : Lane :=
  { x.sent (if x.eidle then exitBurst else []) with
           st := 0, hop := 0, training := false, retryAt := none, reach := 0, up := false, pos := 0, good := 0, ver := 0,
           heard := none, eidle := false, vers := [], rxIdle := false, rxFarSleep := false, idleRun := 0, cur := none, susp := [], queue := [],
           rxFrames := [], rxBad := false, ctle := none, degraded := false, prbsLock := false, shWin := 0, shBad := 0, marks := [], deskew := false, echoFor := none }

/-- A MARKER (Table 10.2). -/
def markerBlock (n cnt : Nat) (degraded join : Bool) : Bytes :=
  fit 8 (le 1 0x4B ++ le 1 (n % 2 + 2 * b2n degraded + 4 * b2n join) ++ le 3 cnt)

/-- A lane drops (R247): cause 1 SIGNAL, 2 HEADERS, 3 QPLL, 4 COMMAND. One lane of an UP pair that drops leaves the
other in service (R244), unless both drop `together` (DEDUCED, notes/assumptions/92.md). An attempt in progress fails, one on a
further hop of an UP lane too (R238); a command ends it, and a retry that waits. -/
def dropOne (n cause : Nat) (together : Bool) (s : State) : State :=
  let s := if (lane s n).up ∧ cause ≠ 4 then failAttempt n 1 false s else s
  let x := lane s n
  if ¬ x.up then
    (if cause = 4 then setLane n { x with st := 0, training := false, retryAt := none, echoFor := none } s else failAttempt n 1 false s)
  else
    let k := n / 2
    let o := lane s (otherLane n)
    let s1 := raise 0x2002 (det n cause) [] (bump 0x2007 n 48 (setLane n { x with downAt := s.now } s))
    if bonded x.role ∧ o.up ∧ ¬ together then
      let y := { x.dropped with downAt := s.now, queue := x.queue, susp := x.susp, cur := x.cur }
      let s2 := setLane (otherLane n) { lane s1 (otherLane n) with degraded := true } (setLane n { y with degraded := true } s1)
      let s3 := setBond k { bond s2 k with lost := some n, joining := false } s2
      -- a lost lane that drops again before it has rejoined changes nothing for the other
      if (bond s1 k).lost = some n then s3
      else raise 0x2005 n [] (ownBlock (otherLane n) (markerBlock (otherLane n) (bond s3 k).markerCnt true false) s3)
    else
      let s2 := setLane n { x.dropped with downAt := s.now } s1
      let s3 := if bonded x.role then
          setBond k { bond s2 k with lost := none, joining := false, odd := false, rxFrom := none }
            (setLane (2 * k) { lane s2 (2 * k) with cur := none, susp := [], queue := [], degraded := false } s2)
        else s2
      linkChanged n (updStrand n (recomputeD n (loseCells n s3)))

/-- One lane drops. -/
def dropLane (n cause : Nat) (s : State) : State := dropOne n cause false s

/-- A list of lanes drops at once. -/
def dropLanes (l : List Nat) (cause : Nat) (s : State) : State :=
  l.foldl (fun a n => dropOne n cause (l.contains (otherLane n)) a) s

/-! ### Received headers (R236, R239, R247) -/

/-- A number of blocks with valid sync headers has come. -/
def rxValid (n k : Nat) (s : State) : State :=
  let x := lane s n
  bump64 0x2007 n 20 k
    (setLane n { x with shWin := (x.shWin + k) % 64, shBad := if x.shWin + k < 64 then x.shBad else 0 } s)

/-- A lane has found its word alignment: it is UP, or its training is past ALIGN (R239). -/
def Lane.aligned (x : Lane) : Bool := x.up || (x.training && decide (3 ≤ x.st))

/-- A block with an invalid sync header has come: it counts in SH_ERR, and 16 of them within one window of 64 blocks drop a lane
that is aligned (R239, R247). -/
def rxInvalid (n : Nat) (s : State) : State :=
  let x := lane s n
  let wrap : Bool := x.shWin == 63
  let y := { x with shErr := x.shErr + 1, shWin := (x.shWin + 1) % 64, shBad := if wrap then 0 else x.shBad + 1 }
  let s1 := bump64 0x2007 n 20 1 (setLane n y s)
  let s2 := if x.up then bump 0x2007 n 40 s1 else s1
  if x.aligned ∧ 16 ≤ x.shBad + 1 then dropLane n 2 s2 else s2

/-- The four lanes of a quad. -/
def quadLanes (q : Nat) : List Nat := (List.range 4).map fun i => 4 * q + i

/-- A quad PLL loses lock: its four lanes drop together (R247). -/
def quadLost (q : Nat) (s : State) : State :=
  if ¬ s.lane.qpllLock.testBit q then s
  else
    let s1 := { s with lane := { s.lane with qpllLock := s.lane.qpllLock - 2 ^ q } }
    raise 0x2006 q [] (dropLanes (quadLanes q) 3 s1)

/-! ### Power states (R245) -/

/-- A transmitter goes to sleep after 16 SLEEP blocks; one that is waking stays asleep, and one that is OFF sends nothing
(R235, R245). -/
def txSleepNow (n : Nat) (s : State) : State :=
  let x := lane s n
  if x.role = 0 ∨ privileged x.role then s
  else if x.txSleep then setLane n { x with txWake := none } s
  else
    let s1 := (List.range 16).foldl (fun a _ => ownBlock n (ctlBlock 0x4C 0) a) s
    setLane n { lane s1 n with txSleep := true, txWake := none } s1

/-- A sleeping transmitter is woken: its first valid block follows 50 µs later (Table 10.8). -/
def txWakeNow (n : Nat) (s : State) : State :=
  let x := lane s n
  if x.txSleep ∧ x.txWake.isNone then setLane n { x with txWake := some (s.now + usT 50) } s else s

/-- The same for a sleeping receiver. -/
def rxWakeNow (n : Nat) (s : State) : State :=
  let x := lane s n
  if x.rxSleep ∧ x.rxWake.isNone then setLane n { x with rxWake := some (s.now + usT 50) } s else s

/-- While a warning under SHED is in force, a lane with SHED set puts its transmitter to sleep, until the last warning ends
(19_supplies_reset.md R426). -/
def shedLane (n : Nat) (s : State) : State :=
  let x := lane s n
  if s.pwr.shedding ∧ x.shed ∧ x.role ≠ 0 ∧ ¬ privileged x.role ∧ ¬ (x.txSleep ∧ x.txWake.isNone) then
    let s1 := txSleepNow n s
    { s1 with pwr := { s1.pwr with shedSlept := s1.pwr.shedSlept ++ [n] } }
  else s

/-- The host puts a transmitter to sleep or wakes it: it is SHED's no longer. -/
def unsleepShed (n : Nat) (s : State) : State := { s with pwr := { s.pwr with shedSlept := s.pwr.shedSlept.filter (· != n) } }

/-! ### Transmission (11_strands_cells.md R254, R273) -/

/-- Priority of a frame that waits: the SYNC of a cycle boundary is the first frame (R255). -/
def LFrame.priority (f : LFrame) : Nat := if f.first then 0 else clsPriority f.cls

/-- Take the frame of highest priority, the oldest of those, out of a queue. -/
def takeBest (l : List LFrame) : Option (LFrame × List LFrame) :=
  match l with
  | [] => none
  | _ =>
    let best := l.foldl (fun b f => min b f.priority) 99
    match l.findIdx? (fun f => f.priority == best) with
    | some i => (l[i]?).map fun f => (f, l.eraseIdx i)
    | none => none

/-- A SYNC frame (Table 11.2) with its tick and fine tick, in twin time (14_twin.md R335). -/
def syncFrame (fine : Nat) (upper : Bool) : Bytes :=
  withChk (le 8 (fine / 8) ++ le 1 (fine % 8) ++ le 1 (2 * b2n upper) ++ le 2 (fine / 8 / 32000 % 65536))

/-- A SYNC is stamped with the tick and fine tick at which its START block leaves: block `i` of a run leaves `i` block times
of 66 UI after the run's tick (R255), rounded to the nearest fine tick (00_scope.md R7). One whose CHK an injection has
spoilt stays as it is. -/
def stampSync (n i : Nat) (f : LFrame) (s : State) : LFrame :=
  if f.cls = 2 ∧ f.bytes.length = 16 ∧ crc32c (f.bytes.take 12) = u32 f.bytes 12 then
    { f with bytes := syncFrame (8 * twinTime s s.now + (i * 67584 + 500) / 1000) (upperHead s n) }
  else f

/-- A command frame's TERM has left as block `i` of a run, at the end of that block: one that left too late is counted (R273). -/
def checkLateTx (n i : Nat) (f : LFrame) (s : State) : State :=
  match f.execAt with
  | none => s
  | some e =>
    let m := strandOf s n
    let c := cell s f.cell
    let ofs := match (if upperHead s n then c.ofsU else c.ofsL) with | some o => fineNs o | none => 0
    if (e : Rat) * 5 / 8 - ofs - 100 < tickNs s.now + ((i : Rat) + 1) * tB then raiseFirst 0x2105 m m [] (bump 0x2103 m 44 s) else s

/-- A frame's TERM has left as block `i` of a run: a command to cells counts in CMD_TX (R273, R277). -/
def frameSent (n i : Nat) (f : LFrame) (s : State) : State :=
  checkLateTx n i f
    (if (f.cls = 1 ∨ f.cls = 8) ∧ ¬ (heads s n).isEmpty then bump64 0x2103 (strandOf s n) 20 1 s else s)

/-- A frame starts: its first block leaves as block `i` of a run. -/
def startFrame (n i : Nat) (f : LFrame) (x : Lane) (s : State) : State :=
  let g := stampSync n i f s
  match frameBlocks g with
  | [] => setLane n x s
  | b :: bs => blockOut n b.1 b.2 (setLane n { x with cur := some { frame := g, left := bs } } s)

/-- Send one block, the `i`-th of a run, of what a lane has to send; with nothing to send it is IDLE (10_hanel_lanes.md R238,
R246; DEDUCED, notes/assumptions/95.md). -/
def sendBlock (i n : Nat) (s : State) : State :=
  let x := lane s n
  let next := takeBest x.queue
  match x.cur with
  | some p =>
    let pre := match next with
      | some (f, _) => decide (f.priority < clsPriority p.frame.cls) && decide (clsPriority p.frame.cls ≠ 1)
      | none => false
    if pre then
      match next with
      | some (f, r) =>
        let g := stampSync n (i + 1) f s
        blockOut n 2 (ctlBlock 0x96 p.frame.cls)
          (setLane n { x with cur := some { frame := g, left := frameBlocks g }, susp := p :: x.susp, queue := r } s)
      | none => s
    else
      match p.left with
      | [] => setLane n { x with cur := none } s
      | [b] => frameSent n i p.frame (blockOut n b.1 b.2 (setLane n { x with cur := none } s))
      | b :: r => blockOut n b.1 b.2 (setLane n { x with cur := some { p with left := r } } s)
  | none =>
    match x.susp with
    | p :: r => blockOut n 2 (ctlBlock 0xA5 p.frame.cls) (setLane n { x with cur := some p, susp := r } s)
    | [] =>
      match next with
      | none => blockOut n 2 idleBlock s
      | some (f, r) => startFrame n i f { x with queue := r } s

/-- Block slot `i` of a run on a lane: a request of an echo exchange where one is due (11_strands_cells.md R256), else its
traffic where it carries any, else IDLE (Table 10.6). A bonded pair's traffic leaves with its lower lane, or with the one
that remains; a lane of a pair that is not yet UP carries none (R243, R244). A sleeping transmitter sends nothing, and
electrical idle ends first (R245, R246). -/
def laneSlot (i n : Nat) (s : State) : State :=
  let x := lane s n
  match x.echoHop with
  | some h =>
    ownBlock n (trainBlock 0x10 (hopVer s n h) h x.echoNext) (setLane n { x with echoNext := x.echoNext + 1, echoWait := 15 } s)
  | none =>
    let s := if x.echoWait = 0 then s else setLane n { x with echoWait := x.echoWait - 1 } s
    let still (m : Nat) : Bool := (lane s m).txSleep || (lane s m).eidle
    let lost := (bond s (n / 2)).lost
    if still n then s
    else if bonded x.role then
      if ¬ pairUp s (n / 2) ∨ lost = some n then ownBlock n idleBlock s
      else if (lost.isNone ∧ n % 2 = 1) ∨ (txLanes s n).any still then s
      else sendBlock i (queueLane s n) s
    else if x.up then sendBlock i n s
    else ownBlock n idleBlock s

/-! ### PRBS (R249) -/

/-- Order and tap of a pattern's polynomial. -/
def lanePoly (pattern : Nat) : Nat × Nat :=
  match pattern with | 1 => (7, 6) | 2 => (15, 14) | 3 => (23, 18) | _ => (31, 28)

/-- A register of a pattern at its start: any state but zero. -/
def laneStart (pattern : Nat) : Nat := 1 + Config.laneSeed pattern % (2 ^ (lanePoly pattern).1 - 1)

/-- The next bit of a pattern from its register, newest bit first. -/
def laneNext (pattern reg : Nat) : Bool := reg.testBit ((lanePoly pattern).1 - 1) != reg.testBit ((lanePoly pattern).2 - 1)

/-- One bit of the generator: SINGLE inverts one, RATE one in every 10^RATE_EXP. -/
def Lane.genBit (x : Lane) : Bool × Lane :=
  let b := laneNext x.prbsGen x.prbsReg
  let flip := x.prbsFlip != 0 || (x.prbsInj == 2 && (x.prbsSent + 1) % 10 ^ x.prbsRate == 0)
  (b != flip, { x with prbsReg := (2 * x.prbsReg + b2n b) % 2 ^ 31, prbsSent := x.prbsSent + 1, prbsFlip := x.prbsFlip - 1 })

/-- What a checker has found in a word: bits checked, bits errored, and whether it has lost lock. -/
structure ChkSum where
  bits : Nat := 0
  errs : Nat := 0
  lost : Bool := false
  deriving DecidableEq, Repr

/-- One bit at the checker: it locks after 64 consecutive error-free bits onto what it has received, and loses lock with 16 or
more errors within 64 bits. -/
def Lane.chkBit (bit : Bool) (x : Lane × ChkSum) : Lane × ChkSum :=
  let y := x.1
  let want := laneNext y.prbsChk y.chkReg
  let err := bit != want
  if y.prbsLock then
    let errs := (2 * y.chkErrs + b2n err) % 2 ^ 64
    let lost := decide (16 ≤ (bitsOf 64 errs).length)
    ({ y with chkReg := (2 * y.chkReg + b2n want) % 2 ^ 31, chkErrs := if lost then 0 else errs, prbsLock := !lost,
              chkRun := if lost then 0 else y.chkRun },
     { bits := x.2.bits + 1, errs := x.2.errs + b2n err, lost := x.2.lost || lost })
  else
    let run := if err then 0 else y.chkRun + 1
    ({ y with chkReg := (2 * y.chkReg + b2n bit) % 2 ^ 31, chkRun := run, prbsLock := decide (64 ≤ run), chkErrs := 0 }, x.2)

/-- 64 received bits, LSB first, reach the checker. -/
def prbsIn (n : Nat) (word : Bytes) (s : State) : State :=
  if (lane s n).prbsChk = 0 then s
  else
    let w := uLE 8 word 0
    let r := (List.range 64).foldl (fun a i => Lane.chkBit (w.testBit i) a) (lane s n, {})
    let s1 := bumpN 0x2007 n 36 r.2.errs (bump64 0x2007 n 28 r.2.bits (setLane n r.1 s))
    if r.2.lost then raise 0x2007 n [] s1 else s1

/-- The generator sends 64 bits; a near loopback brings them to the checker. -/
def prbsOut (n : Nat) (s : State) : State :=
  if (lane s n).prbsGen = 0 then s
  else
    let r := (List.range 64).foldl
      (fun (a : Nat × Lane) i => let b := a.2.genBit; (a.1 + b2n b.1 * 2 ^ i, b.2)) (0, lane s n)
    let s1 := setLane n (r.2.sent [(0, le 8 r.1)]) s
    if r.2.prbsLoop = 1 ∧ ¬ r.2.rxSleep then prbsIn n (le 8 r.1) s1 else s1

end Sys2Proof.Machine
end

