-- ==== Sys2Proof/Machine/Strands.lean ====
section
/-! DEFINITION. Strands and cells on the device's side: SYNC, NODE_SET, telemetry, faults, clearing and status
(11_strands_cells.md R253 to R278, 04_brim_engine.md R113, R117, 12_partners_sessions.md R284). -/

namespace Sys2Proof.Machine

open Sys2Proof

/-! ### Configuration and status (R272, R276, R277) -/

/-- OP_STRAND_SET_CONFIG (R272, Table 11.10). -/
def execOpStrandSetConfig (r : Req) (s : State) : Out :=
  runOp { code := 0x2101, states := stIA } r s fun p s =>
    let n := u8 p 0
    chk [lenIs p 16, outOf n 0 15 0, rsvBits p 1 2, outOf (u16 p 2) 40 1000 2, outOf (u32 p 4) 3200 32000 4,
         outOf (u16 p 8) 0 8000 8, outOf (u16 p 10) 0 1000 10, rsv p 12 4] fun _ =>
      let x := strand s n
      let y := { x with dAuto := (u8 p 1).testBit 0, autoRejoin := (u8 p 1).testBit 1, watch := u16 p 2, d := u32 p 4,
                        dMargin := u16 p 8, tlmOfs := u16 p 10 }
      let s1 := recomputeD n (setStrand n y s)
      .done (if y.watch = x.watch ∨ strandOf s1 n ≠ n then s1 else (cellsOn s1 n).foldl (fun a id => dueSet id false a) s1)

/-- A partner id of two bytes, [11:0], followed by two zero bytes (17_opcodes.md R386). -/
def cellId (p : Bytes) (s : State) (k : Nat → Ans) : Ans :=
  let id := u16 p 0
  chk [lenIs p 4, (decide (4095 < id), .badParam, 0), rsv p 2 2, ((partner s id).type != 1, .badParam, 0)] fun _ => k id

/-- OP_STRAND_NODE_CLEAR (R276). -/
def execOpStrandNodeClear (r : Req) (s : State) : Out :=
  runOp { code := 0x2102, states := stIART } r s fun p s =>
    cellId p s fun id => .yes (setCell id { cell s id with setDue := some true, rejoin := true, byHost := true } s) .accepted 0 []

/-- FLAGS of a strand (Table 11.14). -/
def strandFlags (s : State) (n : Nat) : Nat :=
  let l := cellsOn s n
  let loop := (lane s n).role == 2
  let some_ (f : Nat → Bool) : Nat := b2n (l.any f)
  b2n (strandReady s n) + 2 * b2n loop + 4 * b2n ((configuredOn s n).any fun id => (cell s id).heads == 0) +
    8 * some_ (fun id => (cell s id).dShort) + 16 * some_ (fun id => (cell s id).ver == 0x12) +
    32 * b2n (loop && !l.isEmpty && l.all fun id => (cell s id).ofsL.isSome && (cell s id).ofsU.isSome)

/-- Nodes UP on a strand. -/
def nodesUp (s : State) (n : Nat) : Nat :=
  if (lane s n).role = 2 then min (hopCount s n) ((lane s n).reach + (lane s (otherLane n)).reach)
  else if (lane s n).role = 1 then (lane s n).reach else 0

/-- OP_STRAND_GET_STATUS (R277, Table 11.13). -/
def execOpStrandGetStatus (r : Req) (s : State) : Out :=
  runOp { code := 0x2103, states := stIARTS } r s fun p s =>
    oneByte p 15 fun k =>
      let n := strandOf s k
      let x := strand s n
      .give s (le 2 (strandFlags s n) ++ le 2 (nodesUp s n) ++ le 2 ((cellsOn s n).filter (usable s)).length ++ le 2 0 ++
        le 4 x.dNow ++ le 4 (rnd x.ls).toNat ++ le 8 (c64 s 0x2103 n 20) ++ le 8 (c64 s 0x2103 n 28) ++
        le 4 (c32 s 0x2103 n 36) ++ le 4 (c32 s 0x2103 n 40) ++ le 4 (c32 s 0x2103 n 44) ++ le 4 (c32 s 0x2103 n 48) ++
        le 4 (c32 s 0x2103 n 52) ++ le 4 (c32 s 0x2103 n 56) ++ le 4 (c32 s 0x2103 n 60) ++ le 4 (c32 s 0x2103 n 64))

/-- An offset field; 0xFFFF_FFFF where none is held. -/
def ofsField (o : Option Nat) : Bytes := le 4 (o.getD 0xFFFFFFFF)

/-- OP_STRAND_GET_CELL (R277). -/
def execOpStrandGetCell (r : Req) (s : State) : Out :=
  runOp { code := 0x2104, states := stIARTS } r s fun p s =>
    cellId p s fun id =>
      let c := cell s id
      .give s (ofsField c.ofsL ++ ofsField c.ofsU ++ le 4 (rnd (latency s id)).toNat ++
        le 2 (b2n (usable s id) + 2 * b2n c.dShort + 4 * b2n c.mismatch + 8 * b2n c.cfgFail) ++ le 2 0 ++ le 8 c.tlmTick ++
        fit 32 c.tlm)

/-! ### The telemetry cycle (R255, 04_brim_engine.md R113, R117) -/

/-- A cell's telemetry is too old: EV_BRIM_TLM_STALE, on each channel of the cell's arm, and EV_PART_STALE, once
(04_brim_engine.md R117, 17_opcodes.md Table 17.13, 12_partners_sessions.md R284; DEDUCED, notes/assumptions/179.md). -/
def staleCheck (id : Nat) (s : State) : State :=
  let c := cell s id
  let q := partner s id
  let n := match armOf s id with | some a => (arm s a).staleN | none => 4
  let last := max c.tlmTick q.upTick
  if q.state ≠ 2 ∨ s.now / 32000 - last / 32000 ≤ n then s
  else
    let say (a : Nat) : State :=
      (armChans s a).foldl (fun t ch => raise 0x1207 ch (le 2 id ++ le 2 0) t) (setCell id { c with staleSaid := true } s)
    let s1 := match armOf s id with
      | some a => if c.staleSaid then s else say a
      | none => s
    updStrand (cellStrand s1 id) (raise 0x2202 id [] (bump 0x2203 id 52 (setPartner id { partner s1 id with state := 3 } s1)))

/-- Mean state of charge of an arm's usable cells, as a part of full; what is missing stands (02_grid_forming.md R54; DESIGN
CHOICE, notes/assumptions/183.md). -/
def socMeanOf (s : State) (a : Nat) : Option Rat :=
  let l := usableCells s a
  if l.isEmpty then none else some ((((l.map (socOf s)).sum : Nat) : Rat) / (10000 * l.length))

/-- TELEMETRY_CYCLE_BOUNDARY: every serving head sends SYNC first, and the ranker's lists are rebuilt (R255). -/
def execTelemetryCycleBoundary (t : Nat) (s : State) : Out :=
  ev t s fun s =>
    if ¬ tbRuns s ∨ s.now % 32000 ≠ 0 then s
    else
      let hs := (List.range 16).filter fun n => (lane s n).up && ((lane s n).role == 1 || (lane s n).role == 2)
      let s1 := hs.foldl
        (fun a n => laneSend n { cls := 2, bytes := syncFrame (8 * twinTime a a.now) (upperHead a n), first := true } a) s
      let s2 := ((s1.part.entry.filter fun e => e.2.type == 1).map Prod.fst).foldl (fun a id => staleCheck id a) s1
      let lists (e : Nat × Arm) : Nat × Arm := (e.1, { e.2 with order := rebuildArm s2 e.1 })
      let s3 : State := { s2 with arm := s2.arm.map lists }
      let means := s3.arm.keys.foldl
        (fun (m : Tbl Rat) a => match socMeanOf s3 a with | some q => m.put a q | none => m) s3.gfm.socMean
      splitEpoch { s3 with gfm := { s3.gfm with socMean := means } }

/-! ### NODE_SET and NODE_ACK (R258, R259) -/

/-- The NODE_SET frame of a cell (Table 11.3). -/
def nodeSetFrame (s : State) (id : Nat) (clear : Bool) : Bytes :=
  let c := cell s id
  let q := partner s id
  let a := (armOf s id).getD 0
  withChk (le 2 id ++ le 2 q.hop ++ ofsField c.ofsL ++ ofsField c.ofsU ++ le 2 (strand s (cellStrand s id)).watch ++
    le 1 (arm s a).safe ++ le 1 a ++ le 1 c.head ++ le 1 (b2n clear) ++ le 2 0)

/-- The lane of a cell's serving head. -/
def cellLane (s : State) (id : Nat) : Nat :=
  let n := cellStrand s id
  if (lane s n).role = 2 ∧ (cell s id).head = 1 then n + 1 else n

/-- Send a NODE_SET on the serving head. -/
def nodeSetOut (id : Nat) (f : Bytes) (s : State) : State := laneSend (cellLane s id) { cls := 4, bytes := f } s

/-- Send a NODE_SET that is due, when a transaction is free (R258, 12_partners_sessions.md R294). -/
def nodeSetSend (id : Nat) (s : State) : State :=
  let c := cell s id
  match c.setDue with
  | none => s
  | some clear =>
    if c.heads = 0 ∨ c.setPend.isSome ∨ (partner s id).type ≠ 1 then s
    else if 1024 ≤ txns s ∨ ¬ s.part.waiting.isEmpty then waitTxn (0x10000 + id) s
    else
      let f := nodeSetFrame s id clear
      nodeSetOut id f (setCell id { c with setDue := none, setPend := some (f, 0, s.now + usT 100) } s)

/-- NODE_SET_TX: a NODE_SET that is due goes out. -/
def execNodeSetTx (t id : Nat) (s : State) : Out := ev t s (nodeSetSend id)

/-- NODE_SET_ACK_TIMEOUT: resent up to 3 times, then EV_STRAND_NODE_CFG (R258). -/
def execNodeSetAckTimeout (t id : Nat) (s : State) : Out :=
  ev t s fun s =>
    let c := cell s id
    match c.setPend with
    | none => s
    | some (f, n, e) =>
      if ¬ due s e then s
      else if n < 3 then nodeSetOut id f (setCell id { c with setPend := some (f, n + 1, s.now + usT 100) } s)
      else updStrand (cellStrand s id) (raise 0x2108 id [] (setCell id { c with setPend := none, cfgFail := true, acked := false } s))

/-- A frame from a strand that is discarded: BAD_FRAME (R253, R266). -/
def badFrame (n : Nat) (s : State) : State := bump 0x2103 (strandOf s n) 40 s

/-- A frame of a fixed length that reaches the device from a lane: length and CHK are checked, and the sender must be a
cell partner of the strand (R253, R266). -/
def fromCell (n len : Nat) (b : Bytes) (s : State) (f : Nat → State → State) : State :=
  if b.length ≠ len then badFrame n s
  else if crc32c (b.take (len - 4)) ≠ u32 b (len - 4) then bump 0x2103 (strandOf s n) 36 s
  else
    let id := u16 b 0 % 4096
    if (cellsOn s n).contains id then f id s else badFrame n s

/-- A NODE_ACK (R258): a matching one ends the exchange, and with RESULT OK the cell enters UP. -/
def ackIn (n : Nat) (b : Bytes) (id : Nat) (s : State) : State :=
  let c := cell s id
  match c.setPend with
  | none => s
  | some (f, _, _) =>
    if u32 b 8 ≠ u32 f 20 then s
    else
      let clear := (u8 f 17).testBit 0
      let q := partner s id
      let s1 := setPartner id { q with lastSeen := s.now } s
      if u8 b 2 = 0 then
        let y := { c with setPend := none, acked := true, cfgFail := false, noBypass := !(u16 b 4).testBit 0
                          }
        updStrand n (recomputeD n (partnerUp id (setCell id y s1)))
      else if clear then setCell id { c with setPend := none, rejoin := false, byHost := false } s1
      else raise 0x2108 id [] (setCell id { c with setPend := none, cfgFail := true } s1)

/-! ### Telemetry and faults (R266, R268, R269, R273, R276) -/

/-- The state a cell stands in when commanded to one: without a bypass device BYPASS is ZERO_LOW (R261; DEDUCED,
notes/assumptions/96.md). -/
def realised (c : Cell) (st : Nat) : Nat := if st = 5 ∧ c.noBypass then 2 else st

/-- Count the difference of a rolling count modulo 256. -/
def rolling (n off old new : Nat) (s : State) : State := bumpN 0x2103 n off ((new + 256 - old) % 256) s

/-- The next outer-step boundary after a tick. -/
def stepAfter (s : State) : Nat := (s.now / s.sys.tStep + 1) * s.sys.tStep

/-- A cell that was cleared comes back (R276): in RUN by a command to ZERO_LOW, outside it in its present state (DEDUCED,
notes/assumptions/97.md). -/
def rejoinCell (id : Nat) (s : State) : State :=
  let c := cell s id
  let b := u8 c.tlm 4
  let y : Cell := { c with rejoin := false, byHost := false, faulted := false, mismatch := c.mismatch && !c.byHost }
  if ¬ c.rejoin ∨ ¬ c.acked ∨ c.setPend.isSome ∨ c.setDue.isSome ∨ b.testBit 3 then s
  else if s.sys.state = .run ∧ holds s then
    let at_ := stepAfter s + (match armOf s id with | some a => armD s a | none => 0)
    commandCell id 2 at_ [] (setCell id { y with listFrom := at_ } s)
  else setCell id { y with cmdState := some (b % 8, s.now) } s

/-- The telemetered state differs from one commanded more than a cycle ago (R273). -/
def mismatchNow (s : State) (id : Nat) : Bool :=
  let c := cell s id
  let b := u8 c.tlm 4
  match c.cmdState with
  | none => false
  | some (st, at_) => decide (at_ + 32000 < s.now) && realised c st != b % 8 && !b.testBit 3 && !c.mismatch

/-- A TELEMETRY frame (R266, R269, R273). -/
def telemetryIn (n : Nat) (b : Bytes) (id : Nat) (s : State) : State :=
  let m := strandOf s n
  let c := cell s id
  let old := c.tlm
  let s1 := bump64 0x2103 m 28 1 s
  let s2 := if c.tlmSeen then
      rolling m 60 (u8 old 23) (u8 b 23) (rolling m 56 (u8 old 22) (u8 b 22)
        (rolling m 52 (u8 old 21) (u8 b 21) (rolling m 48 (u8 old 20) (u8 b 20) s1)))
    else s1
  let q := partner s2 id
  let s3 := setPartner id { q with lastSeen := s2.now, seqRx := u16 b 6 + u8 b 5 * 65536, fault := u16 b 16 } s2
  let again := linkSafe (u8 b 4) && !(u8 b 4).testBit 3 && (strand s3 m).autoRejoin && !c.rejoin
  let s4 := setCell id { c with tlm := b, tlmTick := s3.now, tlmSeen := true, staleSaid := false,
                                faulted := c.faulted || u16 b 16 != 0,
                                setDue := if again then some true else c.setDue, rejoin := c.rejoin || again } s3
  let s5 := if q.state = 3 then partnerUp id s4 else s4
  let s6 := if (u8 b 4).testBit 7 then raiseFirst 0x2104 m m [] s5 else s5
  let s7 := if mismatchNow s6 id then
      raise 0x2107 id [] (bump 0x2103 m 64 (setCell id { cell s6 id with mismatch := true } s6))
    else s6
  updStrand n (rejoinCell id s7)

/-- A FAULT frame (R268). -/
def faultIn (b : Bytes) (id : Nat) (s : State) : State :=
  let q := partner s id
  raiseClass 23 0x2103 id [] (setPartner id { q with lastSeen := s.now, fault := u16 b 2 } (setCell id { cell s id with faulted := true } s))

/-! ### Frames from a lane, and the injections they pass (R253, 21_test_diagnostics.md R459, R460) -/

/-- A session segment arrives on a path, through the injections of its session. -/
def segmentArrives (path : SegPath) (seg : Bytes) (s : State) : State :=
  let c := match segPartner s path with | some id => (partner s id).session | none => 0xFFFF
  let r := if c = 0xFFFF then ([{ bytes := seg, cls := u8 seg 4 }], s)
    else inject 3 c 1 { bytes := seg, cls := u8 seg 4, path := some path } s
  r.1.foldl (fun a b => segmentIn (b.path.getD path) b.bytes a) r.2

/-- A frame of a class that only runs downstream: on a loop the far head discards it (R270); length and CHK count all the same
(R253). -/
def downFrame (n len : Nat) (b : Bytes) (s : State) : State :=
  if b.length ≠ len then badFrame n s
  else if crc32c (b.take (len - 4)) ≠ u32 b (len - 4) then bump 0x2103 (strandOf s n) 36 s
  else s

/-- A class whose frames only run downstream (Table 11.1). -/
def downClass (c : Nat) : Bool := c == 1 || c == 2 || c == 4 || c == 8

/-- A frame of a class from a lane that is UP; any other class is counted in BAD_FRAME (R253). -/
def cellFrame (n cls : Nat) (b : Bytes) (s : State) : State :=
  if ¬ (lane s n).up then s
  else match cls with
    | 3 => fromCell n 16 b s (faultIn b)
    | 5 => fromCell n 16 b s (ackIn n b)
    | 6 => fromCell n 32 b s (telemetryIn n b)
    | 7 => segmentArrives (.lane n) b s
    | 1 => downFrame n 32 b s
    | 2 => downFrame n 16 b s
    | 4 => downFrame n 24 b s
    | 8 => downFrame n 16 b s
    | _ => badFrame n s

/-- A frame arrives on a lane, through the lane's injections. A sleeping receiver loses it (10_hanel_lanes.md R245), and so
does a lane of a pair whose far transmitter sends on the other one (R244), and one that a LINK_DROP holds; a frame that has been
closed as errored is discarded (R236). Its blocks count on their own row. -/
def laneFrame (n cls : Nat) (frame : Bytes) (s : State) : State :=
  let away := bonded (lane s n).role && (match (bond s (n / 2)).rxFrom with | some m => m != n | none => false)
  if 15 < n ∨ ¬ (lane s n).up ∨ (lane s n).rxSleep ∨ laneDropped s n ∨ away then s
  else if (lane s n).rxBad then setLane n { lane s n with rxBad := false } s
  else
    let r := inject 1 n 1 { bytes := frame, cls := cls } s
    r.1.foldl (fun a b => cellFrame n b.cls b.bytes a) r.2

/-- NODE_ACK_RECEIVED (R258). -/
def execNodeAckReceived (t n : Nat) (frame : List Byte) (s : State) : Out := ev t s (laneFrame n 5 frame)

/-- TELEMETRY_RECEIVED (R266, R269, R273). -/
def execTelemetryReceived (t n : Nat) (frame : List Byte) (s : State) : Out := ev t s (laneFrame n 6 frame)

/-- FAULT_FRAME_RECEIVED (R268). -/
def execFaultFrameReceived (t n : Nat) (frame : List Byte) (s : State) : Out := ev t s (laneFrame n 3 frame)

end Sys2Proof.Machine
end

