-- ==== Sys2Proof/Machine/Partners.lean ====
section
/-! DEFINITION. The partner table, sessions by command and by their timers, and the liveness of partners
(12_partners_sessions.md R279 to R294, R301). -/

namespace Sys2Proof.Machine

open Sys2Proof

/-! ### The partner table (R279 to R282) -/

/-- The host part of an entry from an OP_PART_SET payload (Table 12.1), the device's part as it stands. -/
def partnerOf (p : Bytes) (q : Partner) : Partner :=
  { q with type := u8 p 2, path := u8 p 3, strand := u8 p 4, hop := u8 p 5, ports := u8 p 6 % 16,
           autoSession := (u8 p 7).testBit 0, mac := bytesAt 6 p 8, vlan := u16 p 14, ipv4 := u32 p 16, udpPort := u16 p 20,
           liveTo := u16 p 22 }

/-- In RUN and TRIPPED a partner of an arm, or of a group command in progress, is not touched (R281). -/
def partnerHeld (s : State) (id : Nat) : Bool :=
  (s.sys.state == .run || s.sys.state == .tripped) &&
    ((armOf s id).isSome || s.part.group.any fun g => g.members.contains id)

/-- Another entry has the same place: strand and hop, or MAC, IPV4 and UDP_PORT (R281). -/
def placeTaken (s : State) (id : Nat) (q : Partner) : Bool :=
  s.part.entry.any fun e =>
    e.1 != id && e.2.type != 0 && e.2.path == q.path &&
      (if q.path = 0 then e.2.strand == q.strand && e.2.hop == q.hop
       else e.2.mac == q.mac && e.2.ipv4 == q.ipv4 && e.2.udpPort == q.udpPort)

/-- The path of a session partner is there: its lane serves it and is UP, or a port of its PORTS has a link (R286, R290). -/
def pathUp (s : State) (q : Partner) : Bool :=
  if q.path = 0 then hanelServed s q && (if bonded (lane s q.strand).role then pairUp s (q.strand / 2) else (lane s q.strand).up)
  else (partnerPort s q).isSome

/-- Close the session of a partner, if it has one. -/
def closeSession (id cause : Nat) (s : State) : State :=
  let c := (partner s id).session
  if c = 0xFFFF then s else sessClose c cause s

/-- Write an entry: it is LISTED (R281). A cell that stays at its place and is reached is sent a new NODE_SET (DEDUCED,
notes/assumptions/82.md). -/
def writePartner (id : Nat) (p : Bytes) (s : State) : State :=
  let old := partner s id
  let s1 := closeSession id 5 s
  let q := partnerOf p (partner s1 id)
  let q1 := { q with state := 1, autoStep := 0,
                     autoAt := if q.autoSession && q.type != 1 && pathUp s1 q then some s1.now else none }
  let s2 := setPartner id q1 s1
  let kept := old.type == 1 && q.type == 1 && old.strand == q.strand && old.hop == q.hop
  if kept then
    let c := cell s2 id
    setCell id { c with setDue := if c.heads = 0 then c.setDue else some (c.setDue == some true) } s2
  else { s2 with cell := Tbl.del id s2.cell }

/-- OP_PART_SET (R281). -/
def execOpPartSet (r : Req) (s : State) : Out :=
  runOp { code := 0x2201, states := stIARTS } r s fun p s =>
    let id := u16 p 0
    let q := partnerOf p {}
    let eth := q.path == 1
    chk [(decide (2 ≤ p.length) && partnerHeld s id, .badState, 0), lenIs p 24,
         (id == 0 || decide (0xFFF ≤ id), .badParam, 0), (q.type == 0 || decide (6 < q.type), .badParam, 2),
         (decide (1 < q.path) || (q.type == 1 && eth), .badParam, 3),
         (if eth then q.strand != 0xFF else false, .badParam, 4), (!eth && decide (15 < q.strand), .range, 4),
         (eth && q.hop != 0, .badParam, 5), (decide (15 < u8 p 6), .badParam, 6),
         ((if eth then q.ports == 0 else q.ports != 0), .badParam, 6), rsvBits p 7 1, (!eth && !zeroAt p 8 6, .badParam, 8),
         (placeTaken s id q, .badParam, if eth then 8 else 4),
         (if q.type = 1 then q.liveTo != 0 else q.liveTo == 0 || decide (60000 < q.liveTo), .range, 22)] fun _ =>
      .done (writePartner id p s)

/-- A payload that is a partner id and two zero bytes (17_opcodes.md R386; DEDUCED, notes/assumptions/83.md). -/
def partnerId (p : Bytes) (k : Nat → Ans) : Ans :=
  chk [lenIs p 4, (decide (0xFFF < u16 p 0), .badParam, 0), rsv p 2 2] fun _ => k (u16 p 0)

/-- An entry goes, with its session, its cell and its counters. -/
def removePartner (id : Nat) (s : State) : State :=
  let s1 := closeSession id 5 s
  clearCounters (fun k => k == cKey 0x2203 id 52 || k == cKey 0x2203 id 56)
    { s1 with part := { s1.part with entry := Tbl.del id s1.part.entry }, cell := Tbl.del id s1.cell }

/-- OP_PART_REMOVE (R282): the entry is EMPTY, all its bytes zero but SESSION. -/
def execOpPartRemove (r : Req) (s : State) : Out :=
  runOp { code := 0x2202, states := stIARTS } r s fun p s =>
    chk [(decide (2 ≤ p.length) && partnerHeld s (u16 p 0), .badState, 0)] fun _ =>
      partnerId p fun id =>
        chk [(id == 0 || id == 0xFFF || (armOf s id).isSome, .badParam, 0)] fun _ =>
          .done (removePartner id s)

/-- SEQ_TX and SEQ_RX of an entry (Table 12.1). -/
def seqFields (s : State) (id : Nat) : Nat × Nat :=
  let q := partner s id
  let c := cell s id
  if q.type = 1 then (c.seq + c.epoch * 65536, u16 c.tlm 6 + u8 c.tlm 5 * 65536) else (q.seqTx, q.seqRx)

/-- SESSION is set once the session is open (R290). -/
def shownSession (s : State) (q : Partner) : Nat :=
  let x := sess s q.session
  if q.session = 0xFFFF ∨ ¬ x.ownAcked ∨ x.peerInc.isNone then 0xFFFF else q.session

/-- The 64 bytes of an entry (Table 12.1). Entry 0x000 describes the device itself (R279). -/
def partnerBytes (s : State) (id : Nat) : Bytes :=
  let q := partner s id
  let f := seqFields s id
  le 2 id ++ le 1 q.type ++ le 1 q.path ++ le 1 q.strand ++ le 1 q.hop ++ le 1 q.ports ++ le 1 (b2n q.autoSession) ++
    q.mac ++ le 2 q.vlan ++ le 4 q.ipv4 ++ le 2 q.udpPort ++ le 2 q.liveTo ++
    le 1 (if id = 0 then 2 else q.state) ++ le 1 q.ver ++ le 2 (shownSession s q) ++ le 8 q.lastSeen ++ le 4 f.1 ++ le 4 f.2 ++
    le 2 q.fault ++ le 2 0 ++ le 4 (c32 s 0x2203 id 52) ++
    le 4 (c32 s 0x2203 id 56) ++ le 8 q.upTick

/-- The entry read back: an EMPTY entry is zero but for SESSION (R280), its id included. -/
def entryBytes (s : State) (id : Nat) : Bytes :=
  if id ≠ 0 ∧ (partner s id).type = 0 then fit 26 [] ++ le 2 0xFFFF ++ fit 36 [] else partnerBytes s id

/-- OP_PART_GET (R282). -/
def execOpPartGet (r : Req) (s : State) : Out :=
  runOp { code := 0x2203, states := stIARTS } r s fun p s => partnerId p fun id => .give s (entryBytes s id)

/-- STATE of an entry. -/
def partnerState (s : State) (id : Nat) : Nat := if id = 0 then 2 else (partner s id).state

/-- OP_PART_LIST (R282). -/
def execOpPartList (r : Req) (s : State) : Out :=
  runOp { code := 0x2204, states := stIARTS } r s fun p s =>
    let st := u8 p 0
    chk [lenIs p 4, (decide (4 < st) && st != 0xFF, .badParam, 0), rsv p 1 1, (decide (0xFFF < u16 p 2), .badParam, 2)] fun _ =>
      let want (id : Nat) : Bool := if st = 0xFF then partnerState s id != 0 else partnerState s id == st
      let ids := (((List.range 4096).drop (u16 p 2)).filter want).take 1000
      .give s (le 2 ids.length ++ le 2 0 ++ ids.flatMap fun id => le 2 id)

/-! ### Sessions by command (R290, R292, R293) -/

/-- The checks of OP_PART_SESSION (Table 12.4) before those of its action. -/
def sessionChecks (p : Bytes) (action : Nat) (s : State) : List (Bool × Status × Nat) :=
  let q := partner s (u16 p 0)
  let lo := if u32 p 4 = 0 then 50 else u32 p 4
  [lenIs p 12, (decide (0xFFF < u16 p 0), .badParam, 0), (u8 p 2 != action, .badParam, 2),
   (u8 p 3 != 0 && (decide (u8 p 3 < 2) || decide (32 < u8 p 3)), .range, 3),
   (u32 p 4 != 0 && (decide (u32 p 4 < 10) || decide (10000 < u32 p 4)), .range, 4),
   (u32 p 8 != 0 && (decide (u32 p 8 < lo) || decide (1000000 < u32 p 8)), .range, 8),
   (q.type == 0 || q.type == 1, .badParam, 0)]

/-- OP_PART_SESSION with OPEN (R290). -/
def execOpPartSessionOpen (r : Req) (s : State) : Out :=
  runOp { code := 0x2205, states := stIARTS } r s fun p s =>
    let id := u16 p 0
    chk (sessionChecks p 0 s ++ [((freeContext s).isNone, .noResource, 0), ((partner s id).session != 0xFFFF, .busy, 0)]) fun _ =>
      let c := (freeContext s).getD 0
      let pick (v d : Nat) : Nat := if v = 0 then d else v
      .yes (sessOpen c id (pick (u8 p 3) 8) (pick (u32 p 4) 50) (pick (u32 p 8) 100000) s) .accepted c []

/-- OP_PART_SESSION with CLOSE (R292, R293): undelivered segments go first, then CLOSE. -/
def execOpPartSessionClose (r : Req) (s : State) : Out :=
  runOp { code := 0x2205, states := stIARTS } r s fun p s =>
    let c := (partner s (u16 p 0)).session
    chk (sessionChecks p 1 s ++ [(c == 0xFFFF, .notReady, 0), ((sess s c).state == 3, .busy, 0)]) fun _ =>
      .yes (closePump c (setSess c { sess s c with state := 3, closeBy := s.now + msT 100 } s)) .accepted c []

/-- OP_PART_SESS_STATUS (R301, Table 12.8). -/
def execOpPartSessStatus (r : Req) (s : State) : Out :=
  runOp { code := 0x220A, states := stIARTS } r s fun p s =>
    chk [lenIs p 4, rsv p 2 2, outOf (u16 p 0) 0 255 0] fun _ =>
      let c := u16 p 0
      let x := sess s c
      let free := x.state == 0
      let v (n : Nat) : Nat := if free then 0 else n
      .give s (le 2 (if free then 0xFFFF else x.partner) ++ le 1 x.state ++
        le 1 (v (clampI 0 64 (sdiff x.limit x.rcvNext)).toNat) ++ le 4 (v x.sndUna) ++ le 4 (v x.sndNext) ++
        le 4 (v x.peerLimit) ++ le 4 (v x.rcvNext) ++ leI 4 (if free then 0 else rnd x.srtt) ++ le 4 (v x.rto) ++
        le 8 (c64 s 0x220A c 32) ++ le 8 (c64 s 0x220A c 40) ++ le 4 (c32 s 0x220A c 48) ++ le 4 (c32 s 0x220A c 52) ++
        le 4 (c32 s 0x220A c 56) ++ le 4 (c32 s 0x220A 0 60))

/-! ### Sessions by time (R287 to R292) -/

/-- A partner reached over Ethernet has been heard at its address on a port (R284). -/
def heardAddress (n : Nat) (src : Bytes) (s : State) : State :=
  (s.part.entry.filter fun e => e.2.type != 0 && e.2.type != 1 && e.2.path == 1 && onPorts s e.2.ports n && e.2.mac == src).foldl
    (fun a e => heardFrom e.1 a) s

/-- SESSION_RETX_TIMER (R291): the oldest segment alone is sent again and RTO doubles; at RETRY_MAX the session fails.
A commit's sendings do not count (R296; DEDUCED, notes/assumptions/84.md). -/
def execSessionRetxTimer (t : Nat) (ctx : Nat) (s : State) : Out :=
  ev t s fun s =>
    let x := sess s ctx
    match x.unacked with
    | [] => s
    | u :: _ =>
      if (x.state ≠ 2 ∧ x.state ≠ 3) ∨ ¬ x.unacked.any (fun v => due s v.dueAt) then s
      else if u.commit.isNone ∧ x.retryMax ≤ u.times then sessClose ctx 1 s
      else
        let rto := min x.rtoMax (2 * x.rto)
        let us := x.unacked.map fun v => if v.dueAt ≤ s.now then { v with dueAt := s.now + usT rto } else v
        resend ctx u (setSess ctx { x with rto := rto, unacked := us } s)

/-- SESSION_ACK_DUE (R291). -/
def execSessionAckDue (t : Nat) (ctx : Nat) (s : State) : Out :=
  ev t s fun s =>
    let x := sess s ctx
    match x.ackDue with
    | some e => if due s e then sendSegment ctx 1 0 x.sndNext [] s else s
    | none => s

/-- SESSION_KEEPALIVE (R291): nothing has been sent for LIVE_TO / 4. -/
def execSessionKeepalive (t : Nat) (ctx : Nat) (s : State) : Out :=
  ev t s fun s =>
    let x := sess s ctx
    if x.state = 2 ∧ due s (x.lastSent + msT (partner s x.partner).liveTo / 4) then sendSegment ctx 1 0 x.sndNext [] s else s

/-- SESSION_PROBE (R289): an ACK with PROBE once per RTO while the partner's credit edge is reached. -/
def execSessionProbe (t : Nat) (ctx : Nat) (s : State) : Out :=
  ev t s fun s =>
    let x := sess s ctx
    if (x.state = 2 ∨ x.state = 3) ∧ sdiff x.peerLimit x.sndNext ≤ 0 ∧ due s (x.probeAt + usT x.rto) then
      sendSegment ctx 1 1 x.sndNext [] (setSess ctx { x with probeAt := s.now } s)
    else s

/-- SESSION_OPEN_RETX (R292): the OPEN is sent again unchanged; after RETRY_MAX of them the opening fails. -/
def execSessionOpenRetx (t : Nat) (ctx : Nat) (s : State) : Out :=
  ev t s fun s =>
    let x := sess s ctx
    if x.state ≠ 1 ∨ ¬ due s x.nextTry then s
    else if x.retryMax ≤ x.tries then sessClose ctx 1 s
    else
      let wait := min (usT x.rtoMax) (msT (2 ^ x.tries))
      bump 0x2203 x.partner 56
        (sendSegment ctx 2 0 x.ownInc [] (setSess ctx { x with tries := x.tries + 1, nextTry := s.now + wait } s))

/-- SESSION_CLOSE_RETX (R292): CLOSE is sent again at each RTO; the context is freed at the 100 ms limit. -/
def execSessionCloseRetx (t : Nat) (ctx : Nat) (s : State) : Out :=
  ev t s fun s =>
    let x := sess s ctx
    if x.state ≠ 3 then s
    else if due s x.closeBy then sessClose ctx 3 s
    else if x.closeSent ∧ due s x.nextTry ∧ x.tries < x.retryMax then
      bump 0x2203 x.partner 56
        (sendSegment ctx 4 0 x.sndNext [] (setSess ctx { x with tries := x.tries + 1, nextTry := s.now + usT x.rto } s))
    else s

/-- AUTO_SESSION_RETRY (R290): an entry with AUTO_SESSION opens when its wait is over and its path is there. -/
def execAutoSessionRetry (t : Nat) (partner_ : Nat) (s : State) : Out :=
  ev t s fun s =>
    let q := partner s partner_
    match q.autoAt, freeContext s with
    | some e, some c =>
      if q.autoSession ∧ q.type ≠ 0 ∧ q.type ≠ 1 ∧ q.session = 0xFFFF ∧ due s e ∧ pathUp s q then
        sessOpen c partner_ 8 50 100000 s
      else s
    | _, _ => s

/-- Since when the path of a partner has been down; none while it is there. -/
def pathDownAt (s : State) (q : Partner) : Option Nat :=
  if pathUp s q then none
  else if q.path = 0 then
    some (if (lane s q.strand).role = 4 then max (lane s (2 * (q.strand / 2))).downAt (lane s (2 * (q.strand / 2) + 1)).downAt
      else (lane s q.strand).downAt)
  else some ((((List.range 4).filter fun n => onPorts s q.ports n).map fun n => (port s n).downAt).foldl max 0)

/-- PARTNER_LIVENESS_TIMEOUT (R284, R293): STALE after LIVE_TO without a valid frame; a session whose path has been lost
beyond LIVE_TO closes with cause PATH. -/
def execPartnerLivenessTimeout (t : Nat) (partner_ : Nat) (s : State) : Out :=
  ev t s fun s =>
    let q := partner s partner_
    if q.type = 0 ∨ q.type = 1 then s
    else
      let s1 := if q.state = 2 ∧ due s (q.lastSeen + msT q.liveTo) then
          raise 0x2202 partner_ [] (bump 0x2203 partner_ 52 (setPartner partner_ { q with state := 3 } s))
        else s
      match pathDownAt s1 q with
      | some d => if q.session ≠ 0xFFFF ∧ due s1 (d + msT q.liveTo) then sessClose q.session 6 s1 else s1
      | none => s1

/-- TXN_SLOT_FREED (R294): the work that has waited longest is admitted (DEDUCED, notes/assumptions/90.md). -/
def execTxnSlotFreed (t : Nat) (_txn : Nat) (s : State) : Out :=
  ev t s fun s =>
    match s.part.waiting with
    | [] => s
    | w :: r =>
      if 1024 ≤ txns s then s
      else
        let open_ : State := { s with part := { s.part with waiting := [] } }
        let s1 := if w < 0x10000 then closePump w (sessPump 64 w open_) else nodeSetSend (w - 0x10000) open_
        -- what is left of it waits again behind the rest
        { s1 with part := { s1.part with waiting := r ++ s1.part.waiting } }

end Sys2Proof.Machine
end

