-- ==== Sys2Proof/Machine/Ports.lean ====
section
/-! DEFINITION. The Ethernet ports: configuration, links, received frames, PRP, host frames and transmit time stamps
(13_plant_network_time.md R303 to R307, R317, R322). -/

namespace Sys2Proof.Machine

open Sys2Proof

/-! ### Links (R304, R307) -/

/-- Both ports of the pair have PRP set and the pair may not operate, or one alone has it. -/
def prpMismatched (s : State) (k : Nat) : Bool := ((port s (2 * k)).prp || (port s (2 * k + 1)).prp) && !prpOper s k

/-- A LINK_DROP injection holds the port out of block lock (21_test_diagnostics.md Table 21.3). -/
def portDropped (s : State) (n : Nat) : Bool := s.test.slot.any fun e => e.2.type == 2 && e.2.target == n && e.2.kind == 1

/-- The link of a port may come up. -/
def linkAllowed (s : State) (n : Nat) : Bool :=
  let p := port s n
  p.mode != 0 && tbRuns s && !s.clk.gateMask.testBit (4 + n) && !(p.prp && !prpOper s (n / 2)) && !portDropped s n

/-- An ARP message. -/
def arpBytes (op : Nat) (sha : Bytes) (spa : Nat) (tha : Bytes) (tpa : Nat) : Bytes :=
  be 2 1 ++ be 2 0x0800 ++ be 1 6 ++ be 1 4 ++ be 2 op ++ sha ++ be 4 spa ++ tha ++ be 4 tpa

/-- The broadcast address. -/
def broadcastMac : Bytes := List.replicate 6 0xFF

/-- The gratuitous ARP of a link-up (R305). -/
def gratuitousArp (n : Nat) (s : State) : State :=
  let p := port s n
  if p.ipv4 = 0 then s
  else
    sendFrame n (padFrame (broadcastMac ++ p.mac ++ vlanTag p.vlan ++ be 2 0x0806 ++ arpBytes 1 p.mac p.ipv4 (fit 6 []) p.ipv4)) s

/-- Entries with AUTO_SESSION whose path a port's link gives open their sessions (12_partners_sessions.md R290). -/
def autoSessionsOn (n : Nat) (s : State) : State :=
  let f (e : Nat × Partner) : Nat × Partner :=
    if e.2.path = 1 ∧ e.2.type ≠ 0 ∧ onPorts s e.2.ports n ∧ e.2.autoSession ∧ e.2.session = 0xFFFF ∧ e.2.autoAt.isNone then
      (e.1, { e.2 with autoAt := some s.now })
    else e
  { s with part := { s.part with entry := s.part.entry.map f } }

/-- A change of a port's link, with its events (R304, R307). -/
def portLink (n : Nat) (up : Bool) (s : State) : State :=
  let p := port s n
  let k := n / 2
  if p.link = up then s
  else
    let s1 := raise 0x2301 (det n (b2n up)) [] (setPort n { p with link := up, downAt := if up then p.downAt else s.now } s)
    let s2 := if up then autoSessionsOn n (gratuitousArp n s1) else s1
    if ¬ prpOper s2 k then s2
    else
      let x := prpPair s2 k
      let bit := n % 2
      if up then
        if x.lost.testBit bit then raise 0x2302 (det k 4) [] (setPrp k { x with lost := x.lost - 2 ^ bit } s2) else s2
      else if x.lost.testBit bit then s2
      else raise 0x2302 (det k (2 + bit)) [] (setPrp k { x with lost := x.lost + 2 ^ bit } s2)

/-- Judge a PRP pair after a configuration: a mismatch holds its ports with PRP set link-down (R307). -/
def prpJudge (k : Nat) (s : State) : State :=
  let x := prpPair s k
  if prpMismatched s k then
    let hold (n : Nat) (s : State) : State := if (port s n).prp then portLink n false s else s
    let s1 := hold (2 * k + 1) (hold (2 * k) s)
    if x.mismatch then s1 else raise 0x2302 (det k 1) [] (setPrp k { prpPair s1 k with mismatch := true, lost := 0 } s1)
  else setPrp k { x with mismatch := false, lost := if prpOper s k then x.lost else 0 } s

/-! ### OP_NET_SET_PORT and OP_NET_GET_PORT (R303, R322) -/

/-- An ETYPE that OP_NET_SET_PORT refuses. -/
def etypeTaken (e : Nat) : Bool := [0x0800, 0x0806, 0x8100, 0x88B8, 0x88BA, 0x88F7, 0x88FB].contains e

/-- OP_NET_SET_PORT (R303). -/
def execOpNetSetPort (r : Req) (s : State) : Out :=
  runOp { code := 0x2301, states := stIAS } r s fun p s =>
    let n := u8 p 0
    let mode := u8 p 1
    let ctrl := u16 p 2
    chk [lenIs p 24, outOf n 0 3 0, (decide (3 < mode), .badParam, 1), (ctrl / 8 != 0, .badParam, 2),
         outOf (u16 p 16) 0x0600 0xFFFF 16, outOf (u16 p 18) 1 0xFFFF 18, outOf (u16 p 20) 4256 9216 20,
         (etypeTaken (u16 p 16), .badParam, 16), (u16 p 18 == 319 || u16 p 18 == 320, .badParam, 18), rsv p 22 2,
         (mode != 0 && (gateReq s).testBit (4 + n), .notReady, 0)] fun _ =>
      let old := port s n
      let s1 := if old.mode = mode then s else endInjectionsOn 2 n (portLink n false s)
      let y := { port s1 n with mode := mode, prp := ctrl.testBit 0, tc := ctrl.testBit 1, icmp := ctrl.testBit 2,
                                mac := bytesAt 6 p 4, vlan := u16 p 10, ipv4 := u32 p 12, etype := u16 p 16,
                                udpPort := u16 p 18, maxFrame := u16 p 20 }
      writeOf (4 + n) s (.done (prpJudge (n / 2) (setPort n y s1)))

/-- The reply of OP_NET_GET_PORT (Table 13.8). -/
def portReply (s : State) (n : Nat) : Bytes :=
  let p := port s n
  let x := prpPair s (n / 2)
  le 2 (b2n p.link + 2 * b2n (prpOper s (n / 2)) + 4 * b2n (x.mismatch && p.prp) + 8 * b2n p.ovf + 16 * b2n p.tc) ++ le 2 0 ++
    le 8 (c64 s 0x2308 n 8) ++ le 8 (c64 s 0x2308 n 16) ++ le 4 (c32 s 0x2308 n 24) ++ le 4 (c32 s 0x2308 n 28) ++
    le 4 (c32 s 0x2308 n 32) ++ le 4 (c32 s 0x2308 n 36) ++ le 4 (c32 s 0x2308 n 40) ++ le 4 (c32 s 0x2308 n 44) ++
    le 4 (c32 s 0x2308 n 48) ++ le 4 (c32 s 0x2308 n 52)

/-- OP_NET_GET_PORT (R322). -/
def execOpNetGetPort (r : Req) (s : State) : Out :=
  runOp { code := 0x2308, states := stIARTS } r s fun p s => oneByte p 3 fun n => giveOf 0x2308 n s (portReply s n)

/-- ETHERNET_LINK_CHANGE (R304). -/
def execEthernetLinkChange (t : Nat) (port_ : Nat) (up : Bool) (s : State) : Out :=
  ev t s fun s => if 3 < port_ ∨ (up ∧ ¬ linkAllowed s port_) then s else portLink port_ up s

/-! ### Time stamps and host frames (R317) -/

/-- Ports on which a frame for port n leaves. -/
def sendPorts (s : State) (n : Nat) : List Nat := if prpOper s (n / 2) then [2 * (n / 2), 2 * (n / 2) + 1] else [n]

/-- Send through `f`; on each port where a frame has left, a stamp with this id waits for its instant. -/
def stamped (tsId : Nat) (ports : List Nat) (f : State → State) (s : State) : State :=
  let s1 := f s
  ports.foldl
    (fun a n =>
      let p := port a n
      if (port s n).line.length < p.line.length then setPort n { p with stamping := p.stamping ++ [tsId] } a else a) s1

/-- OP_NET_SEND (R317). -/
def execOpNetSend (r : Req) (s : State) : Out :=
  .next (finish s (runReq { code := 0x2302, states := stIARTS, chained := true } r s (fun _ s => .done s) fun p s =>
    let n := u8 p 0
    let f := p.drop 4
    chk [(decide (p.length < 64) || (decide (n < 4) && decide ((port s n).maxFrame < f.length + 4)), .badLength, 0), outOf n 0 3 0,
         rsvBits p 1 1] fun _ =>
      writeOf (4 + n) s (.done
        (if (u8 p 1).testBit 0 then stamped (u16 p 2) (sendPorts s n) (sendFrame n f) s else sendFrame n f s))))

/-- TX_TIMESTAMP (R317): a stamped frame leaves the ball; where within the tick is the environment's (free value; DEDUCED,
notes/assumptions/81.md). -/
def execTxTimestamp (t : Nat) (port_ : Nat) (s : State) : Out :=
  ev t s fun s =>
    let p := port s port_
    match p.stamping with
    | [] => s
    | id :: r =>
      let d := drawNat s
      if p.stampq.length < 64 then
        setPort port_ { p with stamping := r, stampq := p.stampq ++ [{ tsId := id, port := port_, fine := d.1 % 8, tick := s.now }] } d.2
      else
        let s1 := bump 0x2308 port_ 52 (setPort port_ { p with stamping := r, ovf := true } s)
        if p.ovf then s1 else raise 0x2303 port_ [] s1

/-- OP_NET_TSQ_READ (R317; DEDUCED, notes/assumptions/79.md). -/
def execOpNetTsqRead (r : Req) (s : State) : Out :=
  runOp { code := 0x2303, states := stIARTS } r s fun p s =>
    let n := u8 p 0
    chk [lenIs p 3, outOf n 0 3 0, outOf (u8 p 1) 1 64 1, rsvBits p 2 1] fun _ =>
      let x := port s n
      let out := x.stampq.take (u8 p 1)
      let data := le 1 out.length ++ le 1 (b2n x.ovf) ++ le 2 0 ++
        out.flatMap fun e => le 2 e.tsId ++ le 1 e.port ++ le 1 e.fine ++ le 8 e.tick ++ le 4 0
      if s.clk.gateMask.testBit (4 + n) then .give (gatedAcc s) (fit 4 [])
      else .give (setPort n { x with stampq := x.stampq.drop (u8 p 1), ovf := x.ovf && !(u8 p 2).testBit 0 } s) data

/-! ### Received frames (R304 to R307) -/

/-- The multicast address of PTP messages, or of peer delay messages, over layer 2 or UDP (IEEE 1588 annexes E and C). -/
def ptpDst (udp peer : Bool) : Bytes :=
  be 6 (if udp then (if peer then 0x01005E00006B else 0x01005E000181) else if peer then 0x0180C200000E else 0x011B19000000)

/-- The multicast addresses of PTP. -/
def ptpMac (m : Bytes) : Bool := m == ptpDst false false || m == ptpDst false true || m == ptpDst true false || m == ptpDst true true

/-- Ports that forward as a transparent clock: two or more with TC set (R312). -/
def tcPorts (s : State) : List Nat :=
  let l := (List.range 4).filter fun k => (port s k).tc
  if 2 ≤ l.length then l else []

/-- A PTP multicast is listened to on a port: by a domain in its transport and delay mechanism, or to be forwarded (R305,
R311, R312). -/
def ptpListens (s : State) (n : Nat) (m : Bytes) : Bool :=
  (ptpMac m && (tcPorts s).contains n) ||
    s.time.dom.any fun e =>
      let c := e.2.cfg
      c.enable && c.ports.testBit n && (m == ptpDst (c.transport == 1) false || (c.profile != 0 && m == ptpDst (c.transport == 1) true))

/-- A frame's destination is accepted on a port (R305). -/
def destOk (s : State) (n : Nat) (m : Bytes) : Bool :=
  let p := port s n
  m == p.mac || m == broadcastMac ||
    ptpListens s n m ||
    (m.take 4 == be 4 0x010CCD01 && s.net.sub.any fun e => e.2.enable && onPorts s e.2.ports n) ||
    (m.take 5 == be 5 0x01154E0001 && prpOper s (n / 2))

/-- The redundancy control trailer of a frame: its sequence, where LAN and size are those of a trailer too (IEC 62439-3). -/
def trailerOf (f : Bytes) : Option Nat :=
  let x := uBE 2 f (f.length - 4)
  if 20 ≤ f.length ∧ uBE 2 f (f.length - 2) = 0x88FB ∧ (x / 4096 = 10 ∨ x / 4096 = 11) ∧ x % 4096 = (f.length - etherBody f) % 4096 then
    some (uBE 2 f (f.length - 6))
  else none

/-- PRP at the receiver: the frame without its trailer, or none for a duplicate (R307). -/
def prpReceive (n : Nat) (f : Bytes) (s : State) : Option Bytes × State :=
  let k := n / 2
  if ¬ prpOper s k then (some f, s)
  else
    let x := prpPair s k
    let src := bytesAt 6 f 6
    let nodes := (x.nodes.filter fun e => e.1 != src) ++ [(src, s.now)]
    let x1 := { x with nodes := keepLast 256 nodes }
    match trailerOf f with
    | none => (some f, setPrp k x1 s)
    | some q =>
      let body := f.take (f.length - 6)
      if x.seen.any fun e => e.1 == src && e.2.1 == q && decide (s.now < e.2.2 + msT 400) then
        (none, bump 0x2308 n 48 (setPrp k x1 s))
      else (some body, setPrp k { x1 with seen := keepLast 1024 (x.seen ++ [(src, q, s.now)]) } s)

/-- Discard a frame of a port under R305 (DEDUCED, notes/assumptions/76.md). -/
def dropFilter (n : Nat) (s : State) : State := bump 0x2308 n 36 s

/-- The partner that a content behind a shim comes from; its VID must be the one its entry names (R305, R306). -/
def shimPartner (s : State) (n : Nat) (f : Bytes) (ip udp : Nat) : Option Nat :=
  match etherPartner s n (bytesAt 6 f 6) ip udp with
  | none => none
  | some id =>
    let v := (partner s id).vlan
    let vid := if uBE 2 f 12 = 0x8100 then uBE 2 f 14 % 4096 else 0
    if v.testBit 15 ∧ vid ≠ v % 4096 then none else some id

/-- What follows ETYPE or a UDP header: the shim of R306 with its content. -/
def shimIn (n : Nat) (f x : Bytes) (ip udp : Nat) (s : State) : State :=
  let len := u16 x 2
  let agrees := x.length == 4 + len || (ip == 0 && f.length == 60 && decide (4 + len ≤ x.length))
  if x.length < 4 ∨ u8 x 1 ≠ 1 ∨ (u8 x 0 ≠ 1 ∧ u8 x 0 ≠ 2) ∨ ¬ agrees then bump 0x2308 n 44 s
  else
    let body := (x.drop 4).take len
    let who := shimPartner s n f ip udp
    if u8 x 0 = 2 then
      if (etherPartner s n (bytesAt 6 f 6) ip udp).isSome ∧ who.isNone then dropFilter n s
      else segmentArrives (.port n (bytesAt 6 f 6) ip udp) body s
    else
      match who with
      | none => dropFilter n s
      | some id =>
        let ty := (partner s id).type
        if ty ≠ 3 ∧ ty ≠ 4 ∧ ty ≠ 5 then dropFilter n s
        else if 512 ≤ s.pkt.inFlight.length then dropFilter n s
        else arrive id none body s

/-- The head of an answer to a frame's sender, up to its EtherType, with the tag of frames that no partner entry names (R303). -/
def replyHead (p : Port) (f : Bytes) : Bytes := bytesAt 6 f 6 ++ p.mac ++ vlanTag p.vlan

/-- ARP (R305): a request for the port's IPV4 is answered. -/
def arpIn (n : Nat) (f : Bytes) (s : State) : State :=
  let p := port s n
  let a := f.drop (etherBody f)
  if p.ipv4 ≠ 0 ∧ 28 ≤ a.length ∧ uBE 2 a 6 = 1 ∧ uBE 4 a 24 = p.ipv4 then
    sendFrame n (padFrame (replyHead p f ++ be 2 0x0806 ++ arpBytes 2 p.mac p.ipv4 (bytesAt 6 a 8) (uBE 4 a 14))) s
  else s

/-- ICMP (R305): echo requests of up to 1,472 data bytes are answered, at most 100 in a second of the tick counter (DEDUCED,
notes/assumptions/77.md). -/
def icmpIn (n : Nat) (f ip : Bytes) (s : State) : State :=
  let p := port s n
  let m := (ip.take (uBE 2 ip 2)).drop 20
  let sec := s.now / msT 1000
  let used := if p.icmpSec = sec then p.icmpN else 0
  if ¬ p.icmp ∨ m.length < 8 ∨ u8 m 0 ≠ 8 ∨ u8 m 1 ≠ 0 ∨ inetSum m ≠ 0 ∨ 1480 < m.length ∨ 100 ≤ used then s
  else
    let m0 := be 2 0 ++ be 2 0 ++ m.drop 4
    let m1 := be 2 0 ++ be 2 (inetSum m0) ++ m.drop 4
    let h := be 2 0x4500 ++ be 2 (20 + m.length) ++ be 2 0 ++ be 2 0x4000 ++ be 2 0x4001
    let ips := be 4 p.ipv4 ++ bytesAt 4 ip 12
    let g := replyHead p f ++ be 2 0x0800 ++ h ++ be 2 (inetSum (h ++ be 2 0 ++ ips)) ++ ips ++ m1
    sendFrame n (padFrame g) (setPort n { p with icmpSec := sec, icmpN := used + 1 } s)

/-- The UDP datagram of an IPv4 packet: source port, destination port and payload; a non-zero checksum is verified (R305). -/
def udpOf (ip : Bytes) : Option (Nat × Nat × Bytes) :=
  let u := (ip.take (uBE 2 ip 2)).drop 20
  let len := uBE 2 u 4
  let pseudo := bytesAt 8 ip 12 ++ be 2 17 ++ be 2 len
  if u.length < 8 ∨ len < 8 ∨ u.length < len ∨ (uBE 2 u 6 ≠ 0 ∧ inetSum (pseudo ++ u.take len) ≠ 0) then none
  else some (uBE 2 u 0, uBE 2 u 2, (u.take len).drop 8)

/-- UDP to the port's UDP_PORT carries the shim (R305, R306). -/
def udpIn (n : Nat) (f ip : Bytes) (s : State) : State :=
  match udpOf ip with
  | some (src, dst, x) => if dst = (port s n).udpPort then shimIn n f x (uBE 4 ip 12) src s else s
  | none => s

/-- The IPv4 packet of a frame: no options, no fragments (R305). -/
def ipOf (f : Bytes) : Option Bytes :=
  let ip := f.drop (etherBody f)
  if ip.length < 20 ∨ u8 ip 0 ≠ 0x45 ∨ ip.length < uBE 2 ip 2 ∨ uBE 2 ip 2 < 20 ∨ uBE 2 ip 6 % 0x4000 ≠ 0 ∨
      inetSum (ip.take 20) ≠ 0 then none
  else some ip

/-- IPv4 to this port's address: ICMP or UDP (R305). -/
def ipIn (n : Nat) (f : Bytes) (s : State) : State :=
  let p := port s n
  match ipOf f with
  | none => s
  | some ip =>
    if p.ipv4 = 0 ∨ uBE 4 ip 16 ≠ p.ipv4 then s
    else if u8 ip 9 = 1 then icmpIn n f ip s
    else if u8 ip 9 = 17 then udpIn n f ip s
    else s

/-- A frame belongs to a standard whose messages this model takes whole: PTP (layer 2 or UDP), GOOSE, PRP supervision. -/
def stdFrameType (g : Bytes) : Bool :=
  let e := etherType g
  e == 0x88F7 || e == 0x88B8 || e == 0x88FB || (e == 0x0800 && ptpMac (g.take 6))

/-- The RS-FEC of a port in MODE 3 has corrected codewords of what it receives, and found others uncorrectable: how many is the
line's (free values; DESIGN CHOICE, notes/assumptions/2.md). -/
def fecNote (n : Nat) (s : State) : State :=
  if (port s n).mode ≠ 3 then s
  else
    let a := drawNat s
    let b := drawNat a.2
    bumpN 0x2308 n 32 b.1 (bumpN 0x2308 n 28 a.1 b.2)

/-- One frame that reaches a port (R304 to R307); `std` takes a frame of a standard. A sampled-value frame is heard from its
partner (12_partners_sessions.md R284) and handled no further. -/
def portFrame (std : Nat → Bytes → State → State) (n : Nat) (f : Bytes) (s0 : State) : State :=
  let s := fecNote n s0
  let p := port s n
  if p.maxFrame < f.length + 4 then bump 0x2308 n 40 s
  else if ¬ destOk s n (f.take 6) then dropFilter n s
  else
    match prpReceive n f s with
    | (none, s1) => s1
    | (some g, s1) =>
      let s2 := bump64 0x2308 n 8 1 s1
      let e := etherType g
      if stdFrameType g then std n g s2
      else if e = 0x0806 then arpIn n g s2
      else if e = 0x0800 then ipIn n g s2
      else if e = p.etype then shimIn n g (g.drop (etherBody g)) 0 0 s2
      else if e = 0x88BA then dropFilter n (heardAddress n (bytesAt 6 g 6) s2)
      else dropFilter n s2

/-! ### PRP by time (R307) -/

/-- PRP_SUPERVISION_TX: every 2 s (DEDUCED, notes/assumptions/78.md). -/
def execPrpSupervisionTx (t : Nat) (pair : Nat) (s : State) : Out :=
  ev t s fun s =>
    if prpOper s pair ∧ tbRuns s ∧ s.now % msT 2000 = 0 then
      let p := port s (2 * pair)
      msgSend (2 * pair) { dst := be 6 0x01154E000100, vlan := p.vlan } (.prpSupervision p.mac) s
    else s

/-- PRP_NODE_FORGET: source entries go after 400 ms, nodes after 60 s. -/
def execPrpNodeForget (t : Nat) (pair : Nat) (s : State) : Out :=
  ev t s fun s =>
    let x := prpPair s pair
    let seen := x.seen.filter fun e => decide (s.now < e.2.2 + msT 400)
    let nodes := x.nodes.filter fun e => decide (s.now < e.2 + msT 60000)
    if 1 < pair then s else setPrp pair { x with seen := seen, nodes := nodes } s

end Sys2Proof.Machine
end

