-- ==== Sys2Proof/Machine/TimeDom.lean ====
section
/-! DEFINITION. Time domains, network time, PTP and PPS (13_plant_network_time.md R308 to R316, R322). -/

namespace Sys2Proof.Machine

open Sys2Proof

/-! ### Domain states (R309, Table 13.3) -/

/-- Ticks of 2^l seconds. -/
def logTicks (l : Int) : Nat := if 0 ≤ l then 1600000000 * 2 ^ l.toNat else 1600000000 / 2 ^ (-l).toNat

/-- Signed ns of an event, saturating at 8 bytes. -/
def ns8 (q : Rat) : Bytes := fieldI 3 8 (rnd q)

/-- Ticks of the last 60 s. -/
def minute : Nat := 96000000000

/-- Sum of rate × ticks over a history, newest first, from a tick `w0` to `end_`. -/
def rateSum (w0 : Nat) : Nat → List (Nat × Rat) → Rat
  | _, [] => 0
  | end_, (t, y) :: r => if end_ ≤ w0 then 0 else ((end_ - max t w0 : Nat) : Rat) * y + rateSum w0 (max t w0) r

/-- Mean y_d over the last 60 s of LOCKED that end at a tick, or since lock (R309). -/
def meanRate (x : Dom) (end_ : Nat) : Rat :=
  let w0 := max x.lockTick (end_ - minute)
  if end_ ≤ w0 then x.y else rateSum w0 end_ x.yHist / ((end_ - w0 : Nat) : Rat)

/-- History with a new rate; what no window can reach any more goes. -/
def noteRate (now : Nat) (y : Rat) (l : List (Nat × Rat)) : List (Nat × Rat) :=
  let rec cut : List (Nat × Rat) → List (Nat × Rat)
    | [] => []
    | e :: r => if e.1 + minute ≤ now then [e] else e :: cut r
  (now, y) :: cut l

/-- Change the state of a domain, with EV_TIME_STATE (R309; DEDUCED, notes/assumptions/69.md). -/
def domState (d new : Nat) (s : State) : State :=
  let x := rebase (domain s d) s.now
  if x.state = new then s
  else
    let end_ := if x.state = 3 then s.now else x.lockEnd
    let y := { x with state := new, goodRun := 0, badRun := 0, lockEnd := end_ }
    let z := match new with
      | 0 => { y with master := none, o := none, slewLeft := 0 }
      | 1 => { y with y := if y.valid then y.y else 0 }
      | 3 => { y with valid := true, lockTick := s.now, yHist := [(s.now, y.y)] }
      | 4 => { y with y := clampQ (-(2 / 1000)) (2 / 1000) (meanRate x end_), holdSince := s.now }
      | _ => y
    raise 0x0201 d (le 1 x.state ++ le 1 new ++ le 2 0) (setDomain d z s)

/-! ### The active domain (R313, R314) -/

/-- Another domain becomes active with a residual: MASTER_CAPABLE applies again to the former one from its next announce
interval (R309). -/
def makeActive (d : Nat) (resid : Rat) (s : State) : State :=
  let a := s.time.active
  let x := domain s a
  let s1 := if a = d then s else setDomain a { x with masterFrom := s.now + logTicks x.cfg.logAnnounce } s
  { s1 with time := { s1.time with active := d, resid := resid, residAt := s.now, slewing := resid != 0 } }

/-- Make a domain active: r is its time less NT, and the slew runs (R314). -/
def domSwitch (d : Nat) (s : State) : State :=
  let diff := domT (domain s d) s.now - ntAt s s.now
  let s1 := makeActive d diff s
  let s2 := raise 0x0204 d [] s1
  if diff = 0 then raise 0x0205 0 [] s2 else s2

/-- Switch under the conditions of R314: the refusal with the state it leaves, or the switch. -/
def trySwitch (d : Nat) (s : State) : Except (Status × State) State :=
  let x := domain s d
  let diff := domT x s.now - ntAt s s.now
  if x.state ≠ 3 then .error (.notReady, s)
  else if (x.cfg.stepTh : Rat) ≤ |diff| then .error (.refused, raise 0x0202 d (ns8 diff) s)
  else .ok (domSwitch d s)

/-- A domain loses its master after lock; AUTO_SWITCH of the active domain takes the other (R309, R314). -/
def toHoldover (d : Nat) (s : State) : State :=
  let s1 := domState d 4 s
  if s.time.active = d ∧ (domain s1 d).cfg.autoSwitch then
    match trySwitch (1 - d) s1 with
    | .ok s2 => s2
    | .error (_, s2) => s2
  else s1

/-! ### The offset o (R309, R310) -/

/-- After a step of NT, sampled values restart at a whole second that has not been published (R321; DEDUCED,
notes/assumptions/73.md). -/
def svRestart (nt : Rat) (s : State) : State :=
  let f (e : Nat × SvPub) : Nat × SvPub :=
    let from_ := max nt (e.2.nextNs.getD 0)
    (e.1, { e.2 with nextNs := e.2.nextNs.map fun _ => ((from_ / 1000000000).ceil : Rat) * 1000000000, smpCnt := 0, asdus := [] })
  { s with net := { s.net with sv := s.net.sv.map f } }

/-- Move T_d by −o at once. -/
def stepDom (d : Nat) (o : Rat) (s : State) : State :=
  let x := rebase (domain s d) s.now
  setDomain d { x with refNs := x.refNs - o, slewLeft := 0, jumpSaid := false } s

/-- The servo takes an offset: a slew and a new rate within ±2,000 ppm (R309). -/
def servoDom (d : Nat) (o : Rat) (s : State) : State :=
  let x := rebase (domain s d) s.now
  let v := Config.servo x.cfg.bw o x.y
  let y := clampQ (-(2 / 1000)) (2 / 1000) v.2
  setDomain d { x with slewLeft := v.1, y := y, yHist := if x.state = 3 then noteRate s.now y x.yHist else x.yHist } s

/-- Count offsets toward lock or its loss (Table 13.3). -/
def judgeLock (d : Nat) (o : Rat) (s : State) : State :=
  let x := domain s d
  if x.state = 2 then
    let g := if |o| ≤ x.cfg.lockTh then x.goodRun + 1 else 0
    let s1 := setDomain d { x with goodRun := g } s
    if 16 ≤ g then domState d 3 s1 else s1
  else if x.state = 3 then
    let b := if 4 * (x.cfg.lockTh : Rat) < |o| then x.badRun + 1 else 0
    let s1 := setDomain d { x with badRun := b } s
    if 4 ≤ b then domState d 2 s1 else s1
  else s

/-- A slew over o; the domain proceeds toward lock (R310). -/
def slewDom (d : Nat) (o : Rat) (s : State) : State :=
  let x := rebase (domain s d) s.now
  judgeLock d o (domState d 2 (setDomain d { x with slewLeft := -o, jumpSaid := false } s))

/-- A domain takes an offset (R309, R310). -/
def takeOffset (d : Nat) (o : Rat) (s : State) : State :=
  let x := domain s d
  let first := x.o.isNone
  let s1 := setDomain d { x with o := some o, oLast := o } s
  let small := decide (|o| < x.cfg.stepTh)
  let active := s.time.active == d
  let held (s : State) : State :=
    if x.jumpSaid then s else raise 0x0202 d (ns8 o) (setDomain d { domain s d with jumpSaid := true } s)
  let judged : Bool := x.jumpSaid || x.state == 4 || (x.state == 2 && first && (x.valid || (active && s.sys.state == .run)))
  if x.state ≠ 2 ∧ x.state ≠ 3 ∧ x.state ≠ 4 then s
  else if judged then
    if small then slewDom d o s1
    else if active then held s1
    else judgeLock d o (domState d 2 (raise 0x0203 d (ns8 (-o)) (stepDom d o s1)))
  else if x.state = 2 ∧ first then
    let s2 := stepDom d o s1
    judgeLock d o (if active then svRestart (ntAt s2 s2.now) (raise 0x0203 d (ns8 (-o)) s2) else s2)
  else judgeLock d o (servoDom d o s1)

/-! ### BMCA (R311) -/

/-- The device's clock identity: the EUI-64 of the MAC of the lowest port of the domain (PRESUMED, notes/assumptions/70.md). -/
def clockId (s : State) (x : Dom) : Nat :=
  let m := (port s ((bitsOf 4 x.cfg.ports).headD 0)).mac
  uBE 8 (m.take 3 ++ [0xFF, 0xFE] ++ m.drop 3) 0

/-- What the device announces in a domain. -/
def ownAnnounce (s : State) (x : Dom) : Announce :=
  let f := Config.masterFields x.cfg.clockClass (domain s s.time.active).state
  { gmId := clockId s x, priority1 := x.cfg.priority1, clockClass := f.1, accuracy := f.2.1, variance := f.2.2.1,
    priority2 := x.cfg.priority2, stepsRemoved := 0, timeSource := f.2.2.2 }

/-- The order of data sets: the smaller is the better master (IEEE 1588-2019). -/
def announceKey (a : Announce) : List Nat :=
  [a.priority1, a.clockClass, a.accuracy, a.variance, a.priority2, a.gmId, a.stepsRemoved]

def listLt : List Nat → List Nat → Bool
  | a :: r, b :: q => decide (a < b) || (a == b && listLt r q)
  | _, _ => false

/-- The device may be master in a domain: not while it is the active one, nor in the rest of the announce interval in which it
was that (R309). -/
def mayMaster (s : State) (d : Nat) : Bool :=
  (domain s d).cfg.masterCapable && s.time.active != d && decide ((domain s d).masterFrom ≤ s.now)

/-- PTP ports that reach the master of a domain: its port, or both LANs of its PRP pair (R311). -/
def masterPorts (s : State) (x : Dom) : List Nat :=
  match x.master with
  | none => []
  | some (_, p) => sendPorts s p

/-- A foreign master qualifies with a second Announce on the port within four announce intervals (IEEE 1588-2019; R311;
PRESUMED, notes/assumptions/177.md). -/
def qualified (x : Dom) (now n gm : Nat) : Bool :=
  x.foreign.any fun e => e.1 == gm && e.2.1 == n && decide (now ≤ e.2.2 + 4 * logTicks x.cfg.logAnnounce)

/-- The foreign masters of a domain with an Announce just heard. -/
def Dom.heard (x : Dom) (now n gm : Nat) : Dom :=
  { x with foreign := keepLast 16 ((x.foreign.filter fun e => !(e.1 == gm && e.2.1 == n)) ++ [(gm, n, now)]) }

/-- An Announce of an enabled domain (R309, R311): one of the device's own, of 255 steps or more, or of a foreign master
that does not qualify yet is not considered (IEEE 1588-2019; PRESUMED, notes/assumptions/177.md). The master is heard on one
port, or on both of a PRP pair; on another port with fewer steps it is a better one, and the same grandmaster goes on. -/
def takeAnnounce (d n : Nat) (a : Announce) (s : State) : State :=
  let x0 := domain s d
  let x := x0.heard s.now n a.gmId
  let same : Bool := match x.master with | some (b, _) => b.gmId == a.gmId | none => false
  let known : Bool := same && (masterPorts s x).contains n
  let better : Bool := match x.master with | some (b, _) => known || listLt (announceKey a) (announceKey b) | none => true
  if 255 ≤ a.stepsRemoved ∨ a.gmId = clockId s x0 then s
  else if ¬ better ∨ ¬ (known ∨ qualified x0 s.now n a.gmId) then setDomain d x s
  else if mayMaster s d ∧ listLt (announceKey (ownAnnounce s x)) (announceKey a) then
    domState d 5 (setDomain d { x with master := none, lastHeard := s.now } s)
  else
    let at_ := match x.master with | some (_, p) => if known then p else n | none => n
    let y := { x with master := some (a, at_), lastHeard := s.now }
    let s1 := setDomain d (if same then y else { y with o := none, lastSync := [], lanA := none, syncWait := [] }) s
    if same ∨ x.state = 4 then s1 else domState d 2 s1

/-- LAN A of the master's pair delivers Sync. -/
def lanADelivers (s : State) (x : Dom) : Bool :=
  match x.lanA with | some t => decide (s.now ≤ t + x.cfg.announceTo * logTicks x.cfg.logSync) | none => false

/-- A Sync on a port is the one the servo uses: on the master's port, or on a PRP pair from LAN A while LAN A delivers
Sync and from LAN B otherwise (R311; DEDUCED, notes/assumptions/71.md). -/
def syncFrom (s : State) (x : Dom) (n : Nat) : Bool :=
  (masterPorts s x).contains n && (!prpOper s (n / 2) || n % 2 == 0 || !lanADelivers s x)

/-- The port in use: the master's, and on a PRP pair the LAN whose Sync the servo takes (R311, R322). -/
def portInUse (s : State) (x : Dom) : Option Nat :=
  x.master.map fun m =>
    let k := 2 * (m.2 / 2)
    if ¬ prpOper s (m.2 / 2) then m.2
    else if lanADelivers s x then k
    else if (Tbl.find (k + 1) x.lastSync).isSome then k + 1
    else m.2

/-- The Sync's time at the master and its receipt in T_d on a port give the offset, corrected by that port's path delay and ASYM
(R309), where the servo takes it from there. -/
def syncOffset (d n : Nat) (at_ origin : Rat) (s : State) : State :=
  let x := domain s d
  let s1 := setDomain d { x with lastSync := x.lastSync.put n (at_, origin), syncWait := x.syncWait.del n } s
  if syncFrom s x n then takeOffset d (at_ - origin - x.path.getD n 0 - x.cfg.asym) s1 else s1

/-- Nanoseconds of a correctionField. -/
def corrNs (c : Int) : Rat := (c : Rat) / 65536

/-- A time in ns as PTP carries it: whole ns, and the rest in the unit of correctionField. -/
def ptpTime (q : Rat) : Int × Int := (q.floor, rnd ((q - (q.floor : Rat)) * 65536))

/-- Event messages, which are time-stamped. -/
def ptpEvent : PtpMsg → Bool
  | .sync _ _ _ _ => true
  | .delayReq _ _ _ => true
  | .pdelayReq _ _ _ => true
  | .pdelayResp _ _ _ _ => true
  | _ => false

/-- Peer delay messages, which a peer-to-peer transparent clock answers and does not forward. -/
def ptpPeer : PtpMsg → Bool
  | .pdelayReq _ _ _ => true
  | .pdelayResp _ _ _ _ => true
  | .pdelayRespFollowUp _ _ _ _ => true
  | _ => false

/-- The head of a message of a domain on a port: its transport's addresses, and the port's MAC, VLAN and IPV4 (R303, R311; IEEE
1588 annexes C and E). -/
def ptpHead (s : State) (x : Dom) (n : Nat) (m : PtpMsg) : MsgHead :=
  let p := port s n
  let udp := x.cfg.transport == 1
  let peer := ptpPeer m
  { dst := ptpDst udp peer, src := p.mac, vlan := p.vlan,
    udp := if udp then some (p.ipv4, if peer then 0xE000006B else 0xE0000181, if ptpEvent m then 319 else 320) else none }

/-- A domain's message leaves one port, alone even on a PRP pair (R307); over UDP only from a port with an IPV4 (R303). -/
def ptpSend (x : Dom) (n : Nat) (m : PtpMsg) (s : State) : State :=
  if x.cfg.transport = 1 ∧ (port s n).ipv4 = 0 then s else msgOut n (ptpHead s x n m) (.ptp m) s

/-- The identity of a PTP port of the device in a domain: its clock identity and a port number from 1 (PRESUMED,
notes/assumptions/70.md). -/
def portId (s : State) (x : Dom) (n : Nat) : Nat := clockId s x * 65536 + n + 1

/-- A link delay by the peer delay mechanism (R311). -/
def peerDelay (d n : Nat) (twice : Rat) (s : State) : State :=
  let x := domain s d
  setDomain d { x with path := x.path.put n (twice / 2), lastReq := x.lastReq.del n, pdWait := x.pdWait.del n } s

/-- The instant, in ticks, at which a frame sent now starts at the ball: where in the tick is the environment's (R311; free
value, DESIGN CHOICE, notes/assumptions/2.md). -/
def leavesAt (s : State) : Rat × State :=
  let a := drawNat s
  ((s.now : Rat) + ((a.1 % 8 : Nat) : Rat) / 8, a.2)

/-- A PTP message for one domain (R309 to R311). -/
def ptpForDomain (d n : Nat) (h : MsgHead) (m : PtpMsg) (s : State) : State :=
  let x := domain s d
  let instant : Rat := (s.now : Rat) + ((h.fine % 8 : Nat) : Rat) / 8
  let at_ := domT x instant
  let mine (gm : Nat) : Bool := (match x.master with | some (a, _) => a.gmId == gm | none => false) && (masterPorts s x).contains n
  match m with
  | .announce _ a => takeAnnounce d n a s
  | .sync _ gm origin corr =>
    if ¬ mine gm then s
    else
      let s1 := setDomain d { x with lastHeard := s.now, lanA := if n % 2 = 0 then some s.now else x.lanA } s
      match origin with
      | some v => syncOffset d n at_ (v + corrNs corr) s1
      | none =>
        let y := domain s1 d
        setDomain d { y with syncWait := y.syncWait.put n (at_ - corrNs corr) } s1
  | .followUp _ gm origin corr =>
    match Tbl.find n x.syncWait with
    | some a => if mine gm then syncOffset d n a (origin + corrNs corr) s else s
    | none => s
  | .delayReq _ src corr =>
    if x.state = 5 ∧ x.cfg.profile = 0 then
      let r := ptpTime (ntAt s instant)
      ptpSend x n (.delayResp x.cfg.domainNo (clockId s x) src r.1 (corr - r.2)) s
    else s
  | .delayResp _ gm req recv corr =>
    match Tbl.find n x.lastReq, Tbl.find n x.lastSync with
    | some t3, some (t2, t1) =>
      if mine gm ∧ req = portId s x n ∧ x.cfg.profile = 0 then
        setDomain d { x with path := x.path.put n (((t2 - t1) + (recv - corrNs corr - t3)) / 2), lastReq := x.lastReq.del n } s
      else s
    | _, _ => s
  | .pdelayReq _ src corr =>
    -- how long the answer takes is the device's own (free value, DESIGN CHOICE, notes/assumptions/2.md)
    let f := drawNat s
    let turn := rnd ((f.1 : Rat) * 5 / 64 * 65536)
    if x.cfg.profile = 0 then s
    else if x.cfg.twoStep then
      ptpSend x n (.pdelayRespFollowUp x.cfg.domainNo src turn corr) (ptpSend x n (.pdelayResp x.cfg.domainNo src none 0) f.2)
    else ptpSend x n (.pdelayResp x.cfg.domainNo src (some turn) corr) f.2
  | .pdelayResp _ req turn corr =>
    match Tbl.find n x.lastReq with
    | some t1 =>
      let rest := at_ - t1 - corrNs corr
      if req ≠ portId s x n ∨ x.cfg.profile = 0 then s
      else match turn with
      | some v => peerDelay d n (rest - corrNs v) s
      | none => setDomain d { x with pdWait := x.pdWait.put n rest, lastReq := x.lastReq.del n } s
    | none => s
  | .pdelayRespFollowUp _ req turn corr =>
    match Tbl.find n x.pdWait with
    | some rest => if req = portId s x n ∧ x.cfg.profile ≠ 0 then peerDelay d n (rest - corrNs turn - corrNs corr) s else s
    | none => s

/-- The domain number of a message. -/
def ptpDom : PtpMsg → Nat
  | .announce d _ => d
  | .sync d _ _ _ => d
  | .followUp d _ _ _ => d
  | .delayReq d _ _ => d
  | .delayResp d _ _ _ _ => d
  | .pdelayReq d _ _ => d
  | .pdelayResp d _ _ _ => d
  | .pdelayRespFollowUp d _ _ _ => d

/-- Ports on which a domain measures link delays: its PORTS, and the ports of the peer-to-peer transparent clock (R311, R312). -/
def peerPorts (s : State) (x : Dom) : List Nat :=
  (List.range 4).filter fun n => x.cfg.profile != 0 && (x.cfg.ports.testBit n || (tcPorts s).contains n)

/-- Enabled domains that run a message's domain number on a port: those of its PORTS, and for a peer delay message those
that measure there. -/
def domsFor (s : State) (n : Nat) (m : PtpMsg) : List Nat :=
  (List.range 2).filter fun d =>
    let x := domain s d
    x.cfg.enable && x.cfg.domainNo == ptpDom m && (x.cfg.ports.testBit n || (ptpPeer m && (peerPorts s x).contains n))

/-- The enabled peer-to-peer domain of a message's domain number: its messages take the peer-to-peer transparent clock on
every port (R312). -/
def peerDom (s : State) (m : PtpMsg) : Option Nat :=
  (List.range 2).find? fun d => let c := (domain s d).cfg; c.enable && c.domainNo == ptpDom m && c.profile != 0

/-- An event message with more in its correctionField; a general message as it is. -/
def corrected (c : Int) : PtpMsg → PtpMsg
  | .sync d g o k => .sync d g o (k + c)
  | .delayReq d a k => .delayReq d a (k + c)
  | .pdelayReq d a k => .pdelayReq d a (k + c)
  | .pdelayResp d q v k => .pdelayResp d q v (k + c)
  | m => m

/-- Forward a message as a transparent clock (R312); a pair counts as one port, and what the message arrived on is left out.
The residence time, in 1/8 ticks and scaled by y_d of the active domain, is a free value for each port that the message
leaves on (DESIGN CHOICE, notes/assumptions/2.md); in the peer-to-peer case the ingress link delay joins it for a Sync
(DEDUCED, notes/assumptions/72.md). Of what reaches both LANs of a pair, the copy of LAN A is forwarded while its link is up, else
that of LAN B (DESIGN CHOICE, notes/assumptions/178.md). -/
def tcForward (n : Nat) (h : MsgHead) (m : PtpMsg) (s : State) : State :=
  let tc := tcPorts s
  let out := tc.filter fun k => k != n && !(prpOper s (k / 2) && k / 2 == n / 2)
  let other := prpOper s (n / 2) && n % 2 == 1 && (port s (n - 1)).link
  let p2p := peerDom s m
  let ingress : Rat := match p2p, m with
    | some d, .sync _ _ _ _ => (domain s d).path.getD n 0
    | _, _ => 0
  let one_ (a : State) (k : Nat) : State :=
    let f := drawNat a
    let residence := (f.1 : Rat) * 5 / 64 * (1 + (domain s s.time.active).y)
    msgOut k { h with trailer := none } (.ptp (corrected (rnd ((residence + ingress) * 65536)) m)) f.2
  if s.sys.state = .boot ∨ ¬ tc.contains n ∨ other ∨ (p2p.isSome ∧ ptpPeer m) then s else out.foldl one_ s

/-- A PTP message on a port (R309 to R312); a port without an IPV4 takes no UDP for a domain (R303). -/
def ptpIn (n : Nat) (h : MsgHead) (m : PtpMsg) (s : State) : State :=
  let mine := (domsFor s n m).filter fun d => h.udp.isSome == ((domain s d).cfg.transport == 1) && (h.udp.isNone || (port s n).ipv4 != 0)
  if ¬ tbRuns s then s else mine.foldl (fun a d => ptpForDomain d n h m a) (tcForward n h m (heardAddress n h.src s))

/-- Another port on which the same grandmaster has been heard within ANNOUNCE_TO announce intervals (R309, R311). -/
def elsewhere (s : State) (x : Dom) : Option Nat :=
  match x.master with
  | none => none
  | some (b, _) => (x.foreign.find? fun e => e.1 == b.gmId && !(masterPorts s x).contains e.2.1 && x.cfg.ports.testBit e.2.1 &&
      decide (s.now < e.2.2 + x.cfg.announceTo * logTicks x.cfg.logAnnounce)).map fun e => e.2.1

/-- PTP_ANNOUNCE_TIMEOUT (R309): nothing from a master for ANNOUNCE_TO announce intervals; where another port still hears it, the
domain goes on with it there (R311). -/
def execPtpAnnounceTimeout (t : Nat) (dom : Nat) (s : State) : Out :=
  ev t s fun s =>
    let x := domain s dom
    if 1 < dom ∨ ¬ x.cfg.enable ∨ x.state = 5 ∨ ¬ due s (x.lastHeard + x.cfg.announceTo * logTicks x.cfg.logAnnounce) then s
    else match elsewhere s x with
    | some p => setDomain dom { x with master := x.master.map fun m => (m.1, p), lastHeard := s.now, lanA := none } s
    | none =>
      let s1 := setDomain dom { x with master := none, lastHeard := s.now, o := if x.jumpSaid then x.o else none, lanA := none,
                                       syncWait := [], lastReq := if x.cfg.profile = 0 then [] else x.lastReq } s
      if mayMaster s dom then domState dom 5 s1
      else if x.state = 3 ∨ (x.state = 2 ∧ x.valid) then toHoldover dom s1
      else if x.state = 2 then domState dom 1 s1
      else s1

/-- Ticks between messages of a kind: LOG_ANNOUNCE, LOG_SYNC or LOG_DELAY (Table 13.2). -/
def txInterval (c : DomCfg) (kind : Nat) : Nat := logTicks (if kind = 0 then c.logAnnounce else if kind = 1 then c.logSync else c.logDelay)

/-- The interval since a domain's last message of a kind has passed. -/
def txDue (x : Dom) (now kind : Nat) : Bool :=
  match Tbl.find kind x.lastTx with | some t => decide (t + txInterval x.cfg kind ≤ now) | none => true

/-- A Sync of a domain in MASTER on one port, with the follow-up of TWO_STEP: the device's NT as it leaves (R309). -/
def syncOut (x : Dom) (s : State) (n : Nat) : State :=
  let a := leavesAt s
  let v := ptpTime (ntAt s a.1)
  let id := clockId s x
  if x.cfg.twoStep then
    ptpSend x n (.followUp x.cfg.domainNo id v.1 v.2) (ptpSend x n (.sync x.cfg.domainNo id none 0) a.2)
  else ptpSend x n (.sync x.cfg.domainNo id (some v.1) v.2) a.2

/-- A delay request of a domain on one port, whose leaving T_d is kept. -/
def delayOut (d : Nat) (s : State) (n : Nat) : State :=
  let x := domain s d
  let a := leavesAt s
  let id := portId s x n
  let m := if x.cfg.profile ≠ 0 then PtpMsg.pdelayReq x.cfg.domainNo id 0 else .delayReq x.cfg.domainNo id 0
  ptpSend x n m (setDomain d { x with lastReq := x.lastReq.put n (domT x a.1), pdWait := x.pdWait.del n } a.2)

/-- PTP_MASTER_MESSAGE_TX (R311): kind 0 an Announce, 1 a Sync, 2 a delay request, each at its interval. -/
def execPtpMasterMessageTx (t : Nat) (dom : Nat) (kind : Nat) (s : State) : Out :=
  ev t s fun s =>
    let x := domain s dom
    let all := bitsOf 4 x.cfg.ports
    if 1 < dom ∨ ¬ x.cfg.enable ∨ ¬ tbRuns s ∨ ¬ txDue x s.now kind then s
    else
      let s1 := setDomain dom { x with lastTx := x.lastTx.put kind s.now } s
      match kind with
      | 0 => if x.state = 5 then all.foldl (fun a n => ptpSend x n (.announce x.cfg.domainNo (ownAnnounce s x)) a) s1 else s
      | 1 => if x.state = 5 then all.foldl (syncOut x) s1 else s
      | 2 => (if x.cfg.profile ≠ 0 then peerPorts s x else masterPorts s x).foldl (delayOut dom) s1
      | _ => s

/-! ### Opcodes (R308, R313 to R316, R322) -/

/-- The configuration of an OP_TIME_SET_DOMAIN payload (Table 13.2). -/
def domCfgOf (p : Bytes) : DomCfg :=
  let c := u8 p 1
  { enable := c.testBit 0, autoSwitch := c.testBit 1, masterCapable := c.testBit 2, twoStep := c.testBit 3, profile := u8 p 2,
    domainNo := u8 p 3, transport := u8 p 4, ports := u8 p 5, priority1 := u8 p 6, priority2 := u8 p 7, logSync := i8 p 8,
    logAnnounce := i8 p 9, logDelay := i8 p 10, announceTo := u8 p 11, bw := u16 p 12, lockTh := u32 p 16, stepTh := u32 p 20,
    slew := u16 p 24, asym := i16 p 26, clockClass := u8 p 28 }

/-- PORTS names one port of an operating PRP pair without the other. -/
def splitsPair (s : State) (ports : Nat) : Bool :=
  (List.range 2).any fun k => prpOper s k && ports.testBit (2 * k) != ports.testBit (2 * k + 1)

/-- A new configuration: the domain restarts and keeps its time (R308); on the active domain the residual goes on from where it
stands, at the new SLEW (R313). -/
def configDomain (d : Nat) (c : DomCfg) (s : State) : State :=
  let x := rebase (domain s d) s.now
  let keep := match x.master with | some (_, n) => c.ports.testBit n && c.domainNo == x.cfg.domainNo | none => false
  let s1 := setDomain d { x with cfg := c, master := if keep then x.master else none, o := none, goodRun := 0, badRun := 0,
                                 slewLeft := 0, lastHeard := s.now, jumpSaid := false, lastSync := [], lastReq := [],
                                 syncWait := [], pdWait := [], lanA := none, foreign := [], lastTx := [] } s
  let s2 := if s.time.active = d then { s1 with time := { s1.time with resid := residual s s.now, residAt := s.now } } else s1
  domState d (if ¬ c.enable then 0 else if keep then 2 else 1) s2

/-- OP_TIME_SET_DOMAIN (R308). -/
def execOpTimeSetDomain (r : Req) (s : State) : Out :=
  runOp { code := 0x0201, states := stIARTS } r s fun p s =>
    let d := u8 p 0
    let c := domCfgOf p
    let rt := s.sys.state == .run || s.sys.state == .tripped
    chk [(rt && decide (1 ≤ p.length) && d == s.time.active, .badState, 0), lenIs p 32, outOf d 0 1 0, rsvBits p 1 4,
         (decide (2 < c.profile), .badParam, 2), outOf c.domainNo 0 127 3, (decide (1 < c.transport), .badParam, 4), rsvBits p 5 4,
         outOfI c.logSync (-4) 1 8, outOfI c.logAnnounce (-3) 3 9, outOfI c.logDelay (-4) 4 10, outOf c.announceTo 2 10 11,
         outOf c.bw 1 1000 12, rsv p 14 2, outOf c.lockTh 10 100000 16, outOf c.stepTh 1000 1000000 20, outOf c.slew 1 100 24,
         outOfI c.asym (-10000) 10000 26, outOf c.clockClass 6 255 28, rsv p 29 3, (c.profile == 2 && c.transport != 0, .badParam, 4),
         (c.profile == 2 && decide (3 < c.domainNo), .badParam, 3), (splitsPair s c.ports, .badParam, 5)] fun _ =>
      .done (configDomain d c s)

/-- Saturate to 32 signed bits. -/
def sat32 (q : Rat) : Bytes := leI 4 (clampI (-(2 ^ 31)) (2 ^ 31 - 1) (rnd q))

/-- OP_TIME_GET_DOMAIN (R322). -/
def execOpTimeGetDomain (r : Req) (s : State) : Out :=
  runOp { code := 0x0202, states := stIARTS } r s fun p s =>
    oneByte p 1 fun d =>
      let x := domain s d
      let m := x.master
      let n := portInUse s x
      .give s (le 1 x.state ++ le 1 (n.getD 0xFF) ++ le 8 (match m with | some (a, _) => a.gmId | none => 0) ++ sat32 x.oLast ++ fieldI 4 4 (rnd (x.y * 1000000000000)) ++
        fieldI 5 4 (rnd (match n with | some k => x.path.getD k 0 | none => 0)) ++
        fieldU 6 4 (if x.state = 4 then (s.now - x.holdSince) / 1600000 else 0) ++ le 8 x.lockTick)

/-- OP_TIME_GET (R313). -/
def execOpTimeGet (r : Req) (s : State) : Out :=
  runOp { code := 0x0203, states := stIARTS } r s fun p s =>
    fourReserved p fun _ =>
      .give s (le 8 (stamp s) ++ ntBytes (ntNs s) ++ le 1 s.time.active ++ le 1 (b2n s.time.slewing + 2 * b2n s.time.ppsSeen) ++
        sat32 (residual s s.now) ++ le 8 s.time.ppsInTick)

/-- OP_TIME_SET_ACTIVE (R314). -/
def execOpTimeSetActive (r : Req) (s : State) : Out :=
  runOp { code := 0x0204, states := stIARTS } r s fun p s =>
    oneByte p 1 fun d =>
      match trySwitch d s with
      | .ok s1 => .done s1
      | .error (st, s1) => .yes s1 st 0 []

/-- OP_TIME_STEP (R315). -/
def execOpTimeStep (r : Req) (s : State) : Out :=
  runOp { code := 0x0205, states := stIATS } r s fun p s =>
    let x := domain s (u8 p 0)
    chk [lenIs p 4, outOf (u8 p 0) 0 1 0, outOf (u8 p 1) 0 47 1, rsv p 2 2,
         (!(x.state == 3 || (x.o.isSome && (x.state == 4 || x.jumpSaid))), .notReady, 0), (s.time.stepPend.isSome, .busy, 0)] fun _ =>
      .yes { s with time := { s.time with stepPend := some (u8 p 0, u8 p 1) } } .accepted 0 []

/-- TIME_STEP_EXECUTED (R315): the period boundary of the leg. A domain that has become MASTER meanwhile cannot be that while it
is active: it goes on as one without a master (R309; DEDUCED, notes/assumptions/69.md). -/
def execTimeStepExecuted (t : Nat) (s : State) : Out :=
  ev t s fun s =>
    match s.time.stepPend with
    | none => s
    | some (d, l) =>
      if ¬ tbRuns s ∨ legU (leg s l) s.now ≠ 0 then s
      else
        let old := ntAt s s.now
        let x := domain s d
        let s1 := match x.o with
          | some o => if x.jumpSaid ∨ x.state = 4 then domState d 2 (stepDom d o s) else s
          | none => s
        let s1 := if x.state = 5 then domState d (if x.valid then 4 else 1) s1 else s1
        let s2 := makeActive d 0 { s1 with time := { s1.time with stepPend := none } }
        let nt := ntAt s2 s2.now
        svRestart nt (cancelHeld (raise 0x0203 d (ns8 (nt - old)) s2))

/-- TIME_SLEW_DONE (R314). -/
def execTimeSlewDone (t : Nat) (s : State) : Out :=
  ev t s fun s =>
    if s.time.slewing ∧ residual s s.now = 0 then
      raise 0x0205 0 [] { s with time := { s.time with slewing := false, resid := 0, residAt := s.now } }
    else s

/-! ### PPS (R313, R316) -/

/-- OP_TIME_SET_PPS. -/
def execOpTimeSetPps (r : Req) (s : State) : Out :=
  runOp { code := 0x0206, states := stIARTS } r s fun p s =>
    chk [lenIs p 4, outOf (u16 p 0) 1 500 0, rsv p 2 2] fun _ => .done { s with time := { s.time with ppsWidth := u16 p 0 } }

/-- PPS_OUT_SECOND: NT reaches a whole second, once the active domain has been LOCKED; the edge is placed to the fine edge
(R316). -/
def execPpsOutSecond (t : Nat) (s : State) : Out :=
  ev t s fun s =>
    let sec (x : Rat) : Int := (ntAt s x / 1000000000).floor
    -- where in the tick the second falls, to the nearest fine edge
    let part := ((sec s.now : Rat) * 1000000000 - ntAt s (s.now - 1)) / (ntAt s s.now - ntAt s (s.now - 1))
    if tbRuns s ∧ (domain s s.time.active).valid ∧ 0 < s.now ∧ sec (s.now - 1) < sec s.now then
      { s with time := { s.time with ppsHigh := true, ppsRise := 8 * ((s.now : Int) - 1) + rnd (8 * part), ppsFall := s.now + msT s.time.ppsWidth } }
    else s

/-- PPS_OUT_PULSE_END. -/
def execPpsOutPulseEnd (t : Nat) (s : State) : Out :=
  ev t s fun s => if s.time.ppsHigh ∧ due s s.time.ppsFall then { s with time := { s.time with ppsHigh := false } } else s

/-- PPS_IN_EDGE: time-stamped only. -/
def execPpsInEdge (t : Nat) (s : State) : Out :=
  ev t s fun s => if tbRuns s then { s with time := { s.time with ppsInTick := s.now, ppsSeen := true } } else s

end Sys2Proof.Machine
end

