-- ==== Sys2Proof/Machine/Pubs.lean ====
section
/-! DEFINITION. GOOSE publications and subscriptions and sampled values (13_plant_network_time.md R318 to R321,
17_opcodes.md R393). -/

namespace Sys2Proof.Machine

open Sys2Proof

/-! ### GOOSE publications (R318) -/

/-- The type that a source of Table 13.7 has: none for an unknown source, 4 for any type. -/
def srcType (src : Nat) : Option Nat :=
  if src = 1 ∨ src = 2 then some 1
  else if 3 ≤ src ∧ src ≤ 6 then some 2
  else if 7 ≤ src ∧ src ≤ 10 then some 0
  else if src = 11 then some 3
  else if 0x100 ≤ src ∧ src ≤ 0x11F then some 4
  else none

/-- Why a member of an OP_NET_GOOSE_PUB payload is refused: its offset. -/
def gooseMemberBad (p : Bytes) (k : Nat) : Option Nat :=
  let o := 216 + 8 * k
  let ty := u8 p (o + 2)
  match srcType (u16 p o) with
  | none => some o
  | some x =>
    if 3 < ty ∨ (x ≠ 4 ∧ x ≠ ty) then some (o + 2)
    else if u8 p (o + 3) ≠ 0 then some (o + 3)
    else if ty ≠ 2 ∧ u32 p (o + 4) ≠ 0 then some (o + 4)
    else none

/-- A destination of a standard's range: four fixed bytes, then 00 or 01 and any byte. -/
def destIn (fixed : Nat) (m : Bytes) : Bool := m.take 4 == be 4 fixed && decide (u8 m 4 ≤ 1)

/-- OP_NET_GOOSE_PUB (R318). -/
def execOpNetGoosePub (r : Req) (s : State) : Out :=
  runOp { code := 0x2304, states := stIAS } r s fun p s =>
    let n := u8 p 3
    let bad := (List.range n).findSome? (gooseMemberBad p)
    chk [(p.length != 216 + 8 * n, .badLength, 0), outOf (u8 p 0) 0 63 0, rsvBits p 1 2, rsvBits p 2 4, outOf n 1 32 3,
         (!destIn 0x010CCD01 (bytesAt 6 p 4), .range, 4), outOf (u16 p 10) 0 0x3FFF 10, rsv p 14 2, outOf (u16 p 20) 1 1000 20,
         outOf (u16 p 22) (u16 p 20) 60000 22, (bad.isSome, .badParam, bad.getD 0)] fun _ =>
      let g : GPub :=
        { enable := (u8 p 1).testBit 0, stamp := (u8 p 1).testBit 1, ports := u8 p 2, dst := bytesAt 6 p 4, appid := u16 p 10,
          vlan := u16 p 12, confRev := u32 p 16, tMin := u16 p 20, tMax := u16 p 22, gocbRef := bytesAt 64 p 24,
          datSet := bytesAt 64 p 88, goId := bytesAt 64 p 152,
          mem := (List.range n).map fun k => (u16 p (216 + 8 * k), u8 p (218 + 8 * k), u32 p (220 + 8 * k)) }
      .done { s with net := { s.net with pub := s.net.pub.put (u8 p 0) g } }

/-- OP_NET_GOOSE_VALUE (17_opcodes.md R393). -/
def execOpNetGooseValue (r : Req) (s : State) : Out :=
  runOp { code := 0x2305, states := stIARTS } r s fun p s =>
    chk [lenIs p 8, outOf (u8 p 0) 0 31 0, rsv p 1 3] fun _ =>
      .done { s with net := { s.net with hostVal := s.net.hostVal.put (u8 p 0) (u32 p 4) } }

/-- What a source of Table 13.7 gives in the type of its member. -/
def gooseValue (s : State) (src ty : Nat) : GVal :=
  let run := s.sys.state == .run
  let o := if run then s.gfm.run.out else {}
  let mw (c : Int) : GVal := .float (f32Of (puOf c * gp s 0x01 / 1000))
  match src with
  | 1 => .int s.sys.state.code
  | 2 => .int s.sys.mode.code
  | 3 => mw o.pF
  | 4 => mw o.qF
  | 5 => .float (f32Of (hzOf o.freq))
  | 6 => .float (f32Of s.gfm.vLineMin)
  | 7 => .bool s.grid.island
  | 8 => .bool (s.sys.state == .tripped)
  | 9 => .bool (run && s.gfm.run.syncPerm)
  | 10 => .bool (s.sys.mode == .gfCl)
  | 11 => .qual (if s.sys.state = .tripped then 2 else 0)
  | _ =>
    let v := s.net.hostVal.getD (src - 0x100) 0
    match ty with
    | 0 => .bool (v.testBit 0)
    | 1 => .int (sgn 32 v)
    | 2 => .float v
    | _ => .qual (v % 8192)

/-- A member has changed against its last published value: FLOAT32 by more than its deadband (R318; DEDUCED,
notes/assumptions/74.md). -/
def memberChanged (deadband : Nat) : GVal → GVal → Bool
  | .float a, .float b =>
    match f32Val a, f32Val b, f32Val deadband with
    | some x, some y, some d => decide (d < |x - y|)
    | _, _, _ => a != b
  | a, b => a != b

/-- TimeQuality of the active domain: ClockFailure, ClockNotSynchronized and 20 bits of accuracy (R318). -/
def timeQuality (s : State) : Nat :=
  let x := domain s s.time.active
  b2n (!x.valid) * 64 + b2n (x.state != 3) * 32 + 20

/-- The message of a publication as it stands. -/
def gooseMsg (g : GPub) : GooseMsg :=
  { appid := g.appid, gocbRef := g.gocbRef, datSet := g.datSet, goId := g.goId, ttl := 2 * g.interval, confRev := g.confRev,
    simulation := false, ndsCom := false, stNum := g.stNum, sqNum := g.sqNum, tNs := rnd g.tNs, tQual := g.tQual, members := g.values }

/-- Send a publication's message on its ports, with a stamp where it asks for one (R317, R318). -/
def gooseOut (i : Nat) (g : GPub) (s : State) : State :=
  let ns := (bitsOf 4 g.ports).filter fun n => !(n % 2 == 1 && g.ports.testBit (n - 1) && prpOper s (n / 2))
  ns.foldl
    (fun a n =>
      let f := msgSend n { dst := g.dst, vlan := g.vlan } (.goose (gooseMsg g))
      if g.stamp then stamped (0x8000 + i) (sendPorts a n) f a else f a) s

def setPub (i : Nat) (g : GPub) (s : State) : State := { s with net := { s.net with pub := s.net.pub.put i g } }

/-- Sample one publication at a boundary, and publish a change (R318). -/
def goosePublish (s : State) (e : Nat × GPub) : State :=
  let g := e.2
  if ¬ g.enable then s
  else
    let vals := g.mem.map fun m => gooseValue s m.1 m.2.1
    let changed := !g.started ||
      (List.range g.mem.length).any fun k =>
        memberChanged (g.mem.getD k (0, 0, 0)).2.2 (vals.getD k (.bool false)) (g.values.getD k (.bool false))
    if ¬ changed then s
    else
      let h := { g with started := true, values := vals, stNum := (g.stNum + 1) % 2 ^ 32, sqNum := 0, tNs := ntAt s s.now,
                        tQual := timeQuality s, interval := g.tMin, nextAt := s.now + msT g.tMin }
      gooseOut e.1 h (setPub e.1 h s)

/-- Members are sampled at every outer-step boundary from ARMED onward (R318). -/
def gooseBoundary (s : State) : State :=
  if s.sys.state = .armed ∨ s.sys.state = .run ∨ s.sys.state = .tripped then s.net.pub.foldl goosePublish s else s

/-- GOOSE_REPEAT_TX: repeats at T_MIN, 2·T_MIN, 4·T_MIN and so on, capped at T_MAX. -/
def execGooseRepeatTx (t : Nat) (pub : Nat) (s : State) : Out :=
  ev t s fun s =>
    match Tbl.find pub s.net.pub with
    | none => s
    | some g =>
      if ¬ g.enable ∨ ¬ g.started ∨ ¬ tbRuns s ∨ s.now < g.nextAt then s
      else
        let i := min g.tMax (2 * g.interval)
        let h := { g with sqNum := (g.sqNum + 1) % 2 ^ 32, interval := i, nextAt := s.now + msT i }
        gooseOut pub h (setPub pub h s)

/-! ### GOOSE subscriptions (R319, R320) -/

/-- Why a binding of an OP_NET_GOOSE_SUB payload is refused (Table 17.7). One whose target or quality member asks another type of
a member than a binding before it, or than itself, cannot fit its target (R319; DEDUCED, notes/assumptions/75.md). -/
def gooseBindBad (p : Bytes) (b : Nat) : Option (Status × Nat) :=
  let o := 84 + 4 * b
  let n := u8 p 16
  -- the types that the bindings up to this one ask of a member: 0 FLOAT32, 1 BOOLEAN, 2 QUALITY
  let asks (c : Nat) : List (Nat × Nat) :=
    let q := 84 + 4 * c
    (if u8 p (q + 1) < 2 then [(u8 p q, u8 p (q + 1))] else []) ++ (if u8 p (q + 2) = 0xFF then [] else [(u8 p (q + 2), 2)])
  let all := (List.range (b + 1)).flatMap asks
  if n ≤ u8 p o then some (.range, o)
  else if 2 < u8 p (o + 1) then some (.badParam, o + 1)
  else if u8 p (o + 2) ≠ 0xFF ∧ n ≤ u8 p (o + 2) then some (.range, o + 2)
  else if u8 p (o + 3) ≠ 0 then some (.badParam, o + 3)
  else if (asks b).any fun x => all.any fun y => x.1 == y.1 && x.2 != y.2 then some (.badParam, o)
  else none

/-- OP_NET_GOOSE_SUB (R319, Table 17.7). -/
def execOpNetGooseSub (r : Req) (s : State) : Out :=
  runOp { code := 0x2306, states := stIAS } r s fun p s =>
    let n := u8 p 3
    let bad := ((List.range n).findSome? (gooseBindBad p))
    chk [(p.length != 84 + 4 * n, .badLength, 0), rsvBits p 1 2, rsvBits p 2 4, outOf n 0 4 3, outOf (u16 p 10) 0 0x3FFF 10,
         outOf (u8 p 16) 1 32 16, rsv p 17 3, (bad.isSome, (bad.getD (.range, 0)).1, (bad.getD (.range, 0)).2)] fun _ =>
      let g : GSub :=
        { enable := (u8 p 1).testBit 0, simOk := (u8 p 1).testBit 1, ports := u8 p 2, srcMac := bytesAt 6 p 4, appid := u16 p 10,
          confRev := u32 p 12, nMem := u8 p 16, gocbRef := bytesAt 64 p 20,
          binds := (List.range n).map fun b => (u8 p (84 + 4 * b), u8 p (85 + 4 * b), u8 p (86 + 4 * b)) }
      .done { s with net := { s.net with sub := s.net.sub.put (u8 p 0) g } }

def setSub (i : Nat) (g : GSub) (s : State) : State := { s with net := { s.net with sub := s.net.sub.put i g } }

/-- A subscription matches a message on a port (R319; DEDUCED, notes/assumptions/75.md). -/
def subMatches (s : State) (n : Nat) (src : Bytes) (m : GooseMsg) (g : GSub) : Bool :=
  g.enable && onPorts s g.ports n && (g.srcMac == fit 6 [] || g.srcMac == src) && g.appid == m.appid &&
    fit 64 m.gocbRef == g.gocbRef

/-- A bound member may be taken: its quality member, where one is named, says good (R319). -/
def bindGood (m : GooseMsg) (q : Nat) : Bool :=
  q == 0xFF || match m.members.getD q (.bool false) with | .qual v => v % 4 == 0 | _ => false

/-- Take one binding of an accepted message: SEC feeds 02_grid_forming.md R58, BREAKER_OPEN feeds 03_grid_events.md R74. A
FLOAT32 that is no number is a free value (DESIGN CHOICE, notes/assumptions/2.md). -/
def takeBind (i : Nat) (m : GooseMsg) (s : State) (b : Nat × Nat × Nat) : State :=
  if ¬ bindGood m b.2.2 then s
  else
    match b.2.1, m.members.getD b.1 (.qual 0) with
    | 0, .float v =>
      if gp s 0x21 ≠ 2 then s
      else match f32Val v with
        | some hz => secValue hz s
        | none => let d := drawRat s; secValue d.1 d.2
    | 1, .bool o =>
      match Tbl.find i s.net.sub with
      | some g =>
        let rest := g.brkOpen.filter fun k => k != b.1
        setSub i { g with brkOpen := if o then b.1 :: rest else rest } s
      | none => s
    | _, _ => s

/-- One subscription takes a message that matches it (R319, R320). -/
def subTake (m : GooseMsg) (s : State) (i : Nat) : State :=
  match Tbl.find i s.net.sub with
  | none => s
  | some g =>
    let content := (m.confRev, m.members.length)
    if m.confRev ≠ g.confRev ∨ m.members.length ≠ g.nMem then
      if g.badCfg = some content then s else raise 0x2305 i [] (setSub i { g with badCfg := some content } s)
    else if m.simulation ∧ ¬ g.simOk then s
    else if (match g.last with | some (st, sq) => st == m.stNum && decide (m.sqNum ≤ sq) | none => false) then s
    else
      let s1 := setSub i { g with last := some (m.stNum, m.sqNum), deadline := s.now + msT m.ttl, lost := false, badCfg := none,
                                  values := m.members } s
      let s2 := if g.lost then raise 0x2304 (det i 1) [] s1 else s1
      g.binds.foldl (takeBind i m) s2

/-- A GOOSE message on a port (R319). -/
def gooseIn (n : Nat) (h : MsgHead) (m : GooseMsg) (s : State) : State :=
  let l := (s.net.sub.filter fun e => subMatches s n h.src m e.2).map Prod.fst
  if l.isEmpty ∨ ¬ tbRuns s then s else l.foldl (subTake m) (heardAddress n h.src s)

/-- GOOSE_SUB_LOST (R320): no accepted message within the last timeAllowedToLive. -/
def execGooseSubLost (t : Nat) (sub : Nat) (s : State) : Out :=
  ev t s fun s =>
    match Tbl.find sub s.net.sub with
    | none => s
    | some g =>
      if g.enable ∧ ¬ g.lost ∧ g.last.isSome ∧ due s g.deadline then raise 0x2304 (det sub 0) [] (setSub sub { g with lost := true } s)
      else s

/-! ### Sampled values (R321) -/

/-- Samples per second of a stream. -/
def svRate (s : State) (rate : Nat) : Rat := (if rate = 0 then 80 else 256) * fNom s

/-- Words per second that a chain gets, and fine outputs per second that it forms. -/
def chainIn (s : State) (n : Nat) : Rat :=
  match (fchain s n).act with | some f => chainRate (cfNow s) (pmNow s) n f.sel | none => 0

def chainOut (s : State) (n : Nat) : Rat :=
  match (fchain s n).act with | some f => chainIn s n / max 1 f.mEff | none => 0

/-- Why a channel of an OP_NET_SV_PUB payload is refused (Table 17.8). -/
def svChanBad (s : State) (p : Bytes) (c : Nat) : Option (Status × Nat) :=
  let o := 84 + 8 * c
  if 19 < u8 p o then some (.range, o)
  else if 1 < u8 p (o + 1) then some (.badParam, o + 1)
  else if u16 p (o + 2) ≠ 0 then some (.badParam, o + 2)
  else if chainOut s (u8 p o) < 2 * svRate s (u8 p 4) then some (.badParam, o)
  else none

/-- The first sample instant of a rate at or after a network time: its time and smpCnt. -/
def svFirst (rate nt : Rat) : Rat × Nat :=
  let sec := (nt / 1000000000).floor
  let k := ((nt - (sec : Rat) * 1000000000) * rate / 1000000000).ceil.toNat
  if rate ≤ k then (((sec + 1 : Int) : Rat) * 1000000000, 0) else ((sec : Rat) * 1000000000 + k * 1000000000 / rate, k)

/-- OP_NET_SV_PUB (R321, Table 17.8). -/
def execOpNetSvPub (r : Req) (s : State) : Out :=
  runOp { code := 0x2307, states := stIAS, v2 := false } r s fun p s =>
    let n := u8 p 3
    let bad := (List.range n).findSome? (svChanBad s p)
    chk [(p.length != 84 + 8 * n, .badLength, 0), outOf (u8 p 0) 0 7 0, rsvBits p 1 1, rsvBits p 2 4, outOf n 1 8 3,
         (decide (1 < u8 p 4), .badParam, 4), (!([1, 2, 4, 8].contains (u8 p 5)), .badParam, 5), outOf (u16 p 6) 0x4000 0x7FFF 6,
         (!destIn 0x010CCD04 (bytesAt 6 p 8), .range, 8), (bad.isSome, (bad.getD (.range, 0)).1, (bad.getD (.range, 0)).2)] fun _ =>
      let at_ := svFirst (svRate s (u8 p 4)) (ntAt s s.now)
      let v : SvPub :=
        { enable := (u8 p 1).testBit 0, ports := u8 p 2, rate := u8 p 4, noAsdu := u8 p 5, appid := u16 p 6, dst := bytesAt 6 p 8,
          vlan := u16 p 14, confRev := u32 p 16, svId := bytesAt 64 p 20,
          chans := (List.range n).map fun c => (u8 p (84 + 8 * c), u8 p (85 + 8 * c), u32 p (88 + 8 * c)),
          nextNs := if (u8 p 1).testBit 0 then some at_.1 else none, smpCnt := at_.2 }
      .done { s with net := { s.net with sv := s.net.sv.put (u8 p 0) v } }

/-- Delay of a chain in ticks (09_filters.md R220); none where it is undefined. -/
def chainDelay (s : State) (n : Nat) : Option Rat :=
  match (fchain s n).act with
  | none => some 0
  | some f =>
    if f.groupDelay = 0xFFFFFFFF ∧ f.gdUndef then none
    else if chainIn s n = 0 then some 0
    else some ((f.groupDelay : Rat) / 256 / chainIn s n * 1600000000)

/-- The outputs on either side of an instant: the newest at or before it and the one after. -/
def around (at_ : Rat) : List (Nat × Nat) → Option ((Nat × Nat) × (Nat × Nat))
  | b :: a :: r => if (a.1 : Rat) ≤ at_ then some (a, b) else around at_ (a :: r)
  | _ => none

/-- One value of a stream: whether it is available, the count of its KIND and its quality. Where the spec gives no value (an
undefined delay, an output no longer held, a SCALE that is no number) it is free (DESIGN CHOICE, notes/assumptions/2.md). -/
def svValue (s : State) (at_ : Rat) (c : Nat × Nat × Nat) : Option (Option Rat × Nat) :=
  let outs := (fchain s c.1).outs
  match chainDelay s c.1 with
  | none => some (none, 0)
  | some d =>
    let x := at_ + d
    if outs.isEmpty ∨ ((outs.headD (0, 0)).1 : Rat) < x then none
    else
      let two := match outs with
        | o :: _ => if (o.1 : Rat) = x then some (o, o) else around x outs
        | [] => none
      match two, f32Val c.2.2 with
      | some (a, b), some k =>
        let va : Rat := wCode24 a.2
        let vb : Rat := wCode24 b.2
        let v := if a.1 = b.1 then va else va + (vb - va) * (x - a.1) / ((b.1 : Rat) - a.1)
        let used := if (a.1 : Rat) = x then [a.2] else [a.2, b.2]
        let bad := used.any fun w => wInv w || wChk w || wOvr w
        let ovr := used.any wOvr
        some (some (v * k * (if c.2.1 = 0 then 1000 else 100)), b2n bad * 2 + b2n ovr * 4)
      | _, _ => some (none, 0)

/-- smpSynch from the active domain (R321). -/
def smpSynch (s : State) : Nat :=
  let x := domain s s.time.active
  if ¬ x.valid then 0 else if x.state = 4 ∨ s.time.slewing then 1 else if x.state = 3 then 2 else 0

def setSv (i : Nat) (v : SvPub) (s : State) : State := { s with net := { s.net with sv := s.net.sv.put i v } }

/-- SV_SAMPLE_PUBLISH (R321): the values of the next sample instant are available; the last ASDU sends the frame. -/
def execSvSamplePublish (t : Nat) (stream : Nat) (s : State) : Out :=
  ev t s fun s =>
    match Tbl.find stream s.net.sv with
    | none => s
    | some v =>
      match (if v.enable ∧ tbRuns s then v.nextNs else none) with
      | none => s
      | some x =>
        let vals := v.chans.map (svValue s (ntTick s x))
        if vals.any (fun o => o.isNone) then s
        else
          let r := vals.foldl
            (fun (a : List (Int × Nat) × State) o =>
              match o with
              | some (some q, f) => (a.1 ++ [(sgn 32 (uLE 4 (fieldI 7 4 (rnd q)) 0), f)], a.2)
              | _ => let d := drawNat a.2; (a.1 ++ [(sgn 32 (d.1 % 2 ^ 32), 2)], d.2)) ([], s)
          let asdus := v.asdus ++ [{ svId := v.svId, smpCnt := v.smpCnt, confRev := v.confRev, smpSynch := smpSynch s, values := r.1 }]
          let next := svFirst (svRate s v.rate) (x + 500000000 / svRate s v.rate)
          let full := decide (v.noAsdu ≤ asdus.length)
          let w := { v with nextNs := some next.1, smpCnt := next.2, asdus := if full then [] else asdus }
          let s1 := setSv stream w r.2
          if full then sendMsg v.ports { dst := v.dst, vlan := v.vlan } (.sv v.appid asdus) s1 else s1

end Sys2Proof.Machine
end

