-- ==== Sys2Proof/Machine/NetIn.lean ====
section
/-! DEFINITION. What arrives at the Ethernet ports: frames in bytes and the messages of PTP and GOOSE, through the
injections of the port (13_plant_network_time.md R305, 21_test_diagnostics.md R459). -/

namespace Sys2Proof.Machine

open Sys2Proof

/-- The head of a received frame, with the port of the UDP it carries. -/
def headOf (g : Bytes) (udp : Option (Nat × Nat × Nat)) : MsgHead :=
  { dst := bytesAt 6 g 0, src := bytesAt 6 g 6, vlan := if uBE 2 g 12 = 0x8100 then 0x8000 + uBE 2 g 14 % 0x1000 + uBE 2 g 14 / 0x2000 * 0x1000 else 0,
    udp := udp }

/-- Where a frame's message begins and the EtherType of its standard: behind the EtherType, or behind UDP to PTP's event or
general port (R311; IEEE 1588 annex C). -/
def stdPart (g : Bytes) : Option (MsgHead × Nat × Bytes) :=
  let e := etherType g
  if e ≠ 0x0800 then some (headOf g none, e, g.drop (etherBody g))
  else
    match ipOf g with
    | none => none
    | some ip =>
      match udpOf ip with
      | some (_, d, x) => if d = 319 ∨ d = 320 then some (headOf g (some (uBE 4 ip 12, uBE 4 ip 16, d)), 0x88F7, x) else none
      | none => none

/-- A message of a standard goes to what takes it. -/
def stdTake (n : Nat) (h : MsgHead) (m : StdMsg) (s : State) : State :=
  match m with
  | .ptp m => ptpIn n h m s
  | .goose m => gooseIn n h m s
  | _ => s

/-- A frame of a standard: what its parse gives (`Config.stdParse`). -/
def stdIn (n : Nat) (g : Bytes) (s : State) : State :=
  match stdPart g with
  | none => s
  | some (h, e, b) => match Config.stdParse e b with | some m => stdTake n h m s | none => s

/-- A frame with its FCS at a port: a wrong FCS is counted (Table 13.8, FCS_ERR), a right one goes on. -/
def frameIn (n : Nat) (b : Bytes) (s : State) : State :=
  let f := b.take (b.length - 4)
  if b.length < 4 ∨ withFcs f ≠ b then bump 0x2308 n 24 s else portFrame stdIn n f s

/-- A frame reaches a port with its FCS, through the injections of the port (21_test_diagnostics.md R459). -/
def frameAt (n : Nat) (f : Bytes) (s : State) : State :=
  let r := inject 2 n 1 { bytes := withFcs f, cls := etherType f } s
  r.1.foldl (fun a b => frameIn n b.bytes a) r.2

/-- ETHERNET_FRAME_RECEIVED (R304 to R307): `frame` is without its FCS. -/
def execEthernetFrameReceived (t : Nat) (port_ : Nat) (frame : List Byte) (s : State) : Out :=
  ev t s fun s => if 3 < port_ ∨ ¬ (port s port_).link then s else frameAt port_ frame s

/-- The frame in which a segment comes from an address to a port: layer 2, or UDP where the sender has an IPv4 address, with
the tag that its entry names (R305, R306). -/
def segmentFrame (s : State) (n : Nat) (mac : Bytes) (ip udp : Nat) (seg : Bytes) : Bytes :=
  let p := port s n
  let tag := match etherPartner s n mac ip udp with | some id => vlanTag (partner s id).vlan | none => []
  let l2 := p.mac ++ mac ++ tag
  padFrame (if ip = 0 then l2 ++ be 2 p.etype ++ shim 2 seg else l2 ++ be 2 0x0800 ++ udpPacket ip p.ipv4 udp p.udpPort (shim 2 seg))

/-- SESSION_SEGMENT_RECEIVED (R287 to R293): on a lane a frame of class SESSION, on a port a frame that carries the segment;
either way through the injections of the lane or port, and then of the session (21_test_diagnostics.md R459). -/
def execSessionSegmentReceived (t : Nat) (path : SegPath) (seg : List Byte) (s : State) : Out :=
  ev t s fun s =>
    match path with
    | .lane n => laneFrame n 7 seg s
    | .port n mac ip udp => if 3 < n ∨ ¬ (port s n).link then s else frameAt n (segmentFrame s n mac ip udp seg) s

/-- An item that has come through a port's injections, at once or held: a message that none has changed as it is, any other
by its bytes (21_test_diagnostics.md R459, R460). -/
def portItem (n : Nat) (c : Item) (s : State) : State :=
  match c.msg with
  | some (.std h m) => portFrame (fun k _ b => stdTake k h m b) n (stdFrame h m) s
  | _ => frameIn n c.bytes s

/-- A message of a standard at a port: as it is where no injection touches it, else what its frame's bytes give. Either way
its frame passes the port's filters (R304 to R307). -/
def messageIn (n : Nat) (h : MsgHead) (m : StdMsg) (s : State) : State :=
  let f := stdFrame h m
  let r := inject 2 n 1 { bytes := withFcs f, cls := etherType f, msg := some (.std h m) } s
  r.1.foldl (fun a c => portItem n c a) r.2

/-- PTP_MESSAGE_RECEIVED (R309 to R312). -/
def execPtpMessageReceived (t : Nat) (port_ : Nat) (head : MsgHead) (msg : PtpMsg) (s : State) : Out :=
  ev t s fun s =>
    if 3 < port_ ∨ ¬ (port s port_).link then s else messageIn port_ head (.ptp msg) s

/-- GOOSE_FRAME_RECEIVED (R319). -/
def execGooseFrameReceived (t : Nat) (port_ : Nat) (frame : GooseFrame) (s : State) : Out :=
  ev t s fun s =>
    if 3 < port_ ∨ ¬ (port s port_).link then s else messageIn port_ frame.head (.goose frame.msg) s

end Sys2Proof.Machine
end

