-- ==== Sys2Proof/Machine/Security.lean ====
section
/-! DEFINITION. Firmware images, identity, attestation, owner key, saved configuration, journal and debug access
(20_security.md R434 to R452). -/

namespace Sys2Proof.Machine

open Sys2Proof

/-! ### Identity (R446, R447) -/

/-- The reply of OP_SEC_GET_ID after STATUS and DETAIL: DEVICE_ID, N_CERT and the three certificates (R446). -/
def idReply : Bytes :=
  fit 8 Config.deviceId ++ le 1 3 ++ le 3 0 ++
    (List.range 3).flatMap fun k => let c := cert k; le 2 c.length ++ c

/-- OP_SEC_GET_ID (R446). -/
def execOpSecGetId (r : Req) (s : State) : Out :=
  runOp { code := 0x0101, states := stBIARTS } r s fun p s => fourReserved p fun _ => .chain s idReply

/-- A slot's measurement in a quote: zero without VR OK (R447). -/
def quoteMeas (x : Slot) : Bytes := if x.vr = 1 then fit 32 x.meas else fit 32 []

/-- A slot's IMAGE_VER in a quote. -/
def quoteVer (s : State) (k : Nat) : Nat := if (slotOf s k).vr = 1 then imgVer (slotImage s k) else 0

/-- Some domain has been valid since reset. -/
def anyDomainValid (s : State) : Bool := s.time.dom.any fun e => e.2.valid

/-- The record that OP_SEC_CFG_SAVE would write now: the running image's IMAGE_VER, the configuration and their CRC-32C
(R447, R448; the order is a DESIGN CHOICE, notes/assumptions/116.md). -/
def cfgRecord (s : State) : Bytes :=
  let b := le 4 (runningVer s) ++ Config.cfgBytes (saveSnap s)
  b ++ le 4 (crc32c b)

/-- Bytes 0 to 191 of the quote (Table 20.6). -/
def quoteBody (nonce : Bytes) (s : State) : Bytes :=
  le 1 1 ++ le 1 (b2n s.mram.ownerHash.isSome + 2 * b2n (s.sec.debug != 0) + 4 * b2n s.sec.tryRun) ++
    le 1 s.sec.running ++ le 1 s.mram.rollback ++ fit 8 Config.deviceId ++ le 8 (stamp s) ++
    (if anyDomainValid s then ntBytes (ntNs s) else fit 10 []) ++ le 1 s.sys.state.code ++ le 1 0 ++ nonce ++
    quoteMeas s.sec.slotA ++ quoteMeas s.sec.slotB ++ fit 32 (sm3 (cfgRecord s)) ++
    le 4 (quoteVer s 0) ++ le 4 (quoteVer s 1) ++ fit 24 []

/-- OP_SEC_QUOTE (R447). -/
def execOpSecQuote (r : Req) (s : State) : Out :=
  runOp { code := 0x0102, states := stBIARTS } r s fun p s =>
    chk [lenIs p 36, (zeroAt p 0 32, .badParam, 0), rsvBits p 32 1, rsv p 33 3] fun _ =>
      let q := quoteBody (bytesAt 32 p 0) s
      .chain s (q ++ fit 64 (deviceSign q) ++ (if u8 p 32 = 1 then idReply else []))

/-! ### Images (R440 to R443) -/

/-- A slot that a load may write: A or B, and not the running one (DEDUCED, notes/assumptions/111.md). -/
def loadable (s : State) (k : Nat) : Bool := decide (k < 2) && s.sec.running != k + 1

/-- The image bytes among the payload received so far. -/
def loadedPart (p : Bytes) : Bytes := (p.drop 8).take (min (u32 p 4) 0x200000)

/-- What a packet of a load does as it arrives: the slot is LOADING and the bytes are written (R440). -/
def loadPart (p : Bytes) (s : State) : State :=
  if p.isEmpty ∨ ¬ loadable s (u8 p 0) then s else writeImage (u8 p 0) (loadedPart p) s

/-- The final packet of a load: the checks of R440 over the whole payload. -/
def loadEnd (p : Bytes) (s : State) : Ans :=
  let total := u32 p 4
  let k := u8 p 0
  chk [(decide (p.length < 12), .badLength, 0), (decide (1 < k), .badParam, 0), rsv p 1 3, outOf total 4608 0x200000 4,
       (!loadable s k, .refused, 0), (p.length != total + 12, .badLength, 0)] fun _ =>
    let s1 := loadPart p s
    if crc32c (loadedPart p) = u32 p (8 + total) then .done (setSlot k {} s1) else .yes s1 .check 0 []

/-- One packet of OP_SEC_IMAGE_LOAD. -/
def loadPacket (r : Req) (s : State) : State :=
  runReq { code := 0x0103, states := stBIARTS, chained := true } r s (fun p s => .done (loadPart p s)) loadEnd

/-- A packet of a load waits: its slot is being verified as the load begins, or an earlier packet waits (R440). -/
def loadWaits (r : Req) (s : State) : Bool :=
  s.sec.loadWait.any (fun q => q.org == r.org && q.tag == r.tag) ||
    ((orig s r.org).chain.isNone && !r.payload.isEmpty && (s.sec.verifying.map Prod.fst) == some (u8 r.payload 0))

/-- OP_SEC_IMAGE_LOAD (R440). -/
def execOpSecImageLoad (r : Req) (s : State) : Out :=
  .next (finish s
    (if s.pwr.inReset then s
     else
      let s1 := entered 0x0103 r s
      if ¬ turn 0x0103 r s1 then s1
      else if loadWaits r s1 then { s1 with sec := { s1.sec with loadWait := s1.sec.loadWait ++ [r] } } else loadPacket r s1))

/-- OP_SEC_IMAGE_VERIFY (R441): the reply waits for the end of the verification. -/
def execOpSecImageVerify (r : Req) (s : State) : Out :=
  runOp { code := 0x0104, states := stBIARTS } r s fun p s =>
    chk [lenIs p 4, (decide (1 < u8 p 0), .badParam, 0), rsv p 1 3] fun _ =>
      .later (startVerify (u8 p 0) (owedTo r 0x0104) s)

/-- The image of a slot starts; IDLE follows (R439, R441). -/
def startImage (k : Nat) (tried : Bool) (s : State) : State :=
  { s with sec := { s.sec with running := k + 1, tryRun := tried } }

/-- Load packets that waited for the verification run, oldest first (R440). -/
def runLoads (s : State) : State :=
  s.sec.loadWait.foldl (fun a r => loadPacket r a) { s with sec := { s.sec with loadWait := [] } }

/-- SLOT_VERIFICATION_DONE (R437 to R441, Table 20.3). -/
def execSlotVerificationDone (t : Nat) (s : State) : Out :=
  ev t s fun s =>
    match s.sec.verifying with
    | none => s
    | some (k, why) =>
      let img := slotImage s k
      let vr := verifyImage s.mram img ((slotOf s k).vr == 11)
      let st := vrStatus vr
      let s1 := setSlot k { vr := vr, meas := sm3 (imgAll img) } { s with sec := { s.sec with verifying := none } }
      let s2 := raise 0x0101 k (le 2 st.code ++ le 1 vr ++ le 1 0) s1
      let s3 := match why with
        | .boot second tried =>
          if vr = 1 then startImage k tried s2
          else if second then s2
          else { s2 with sec := { s2.sec with verifying := some (1 - k, .boot true false) } }
        | .command w =>
          let a := answer w st vr [] s2
          if vr = 1 ∧ a.sys.state = .boot ∧ a.sec.running = 0 then startImage k false a else a
      nextVerify (runLoads s3)

/-- What both forms of OP_SEC_SLOT_SELECT check first (R442). -/
def slotSelect (mode : Nat) (p : Bytes) (s : State) (k : Unit → Ans) : Ans :=
  chk [lenIs p 4, (decide (1 < u8 p 0), .badParam, 0), (u8 p 1 != mode, .badParam, 1), rsv p 2 2,
       ((slotOf s (u8 p 0)).vr != 1, .notReady, 0)] k

/-- OP_SEC_SLOT_SELECT, MODE TRY_ONCE (R442; DEDUCED, notes/assumptions/10.md). -/
def execOpSecSlotSelectTryOnce (r : Req) (s : State) : Out :=
  runOp { code := 0x0105, states := stBIARTS } r s fun p s =>
    slotSelect 0 p s fun _ => .done (writeBoot { bootRec s.mram with tryB := some (u8 p 0 == 1) } s)

/-- OP_SEC_SLOT_SELECT, MODE PERMANENT (R442): the fuse value advances to the running image's ROLLBACK, a bit a millisecond
at most; a reset meanwhile leaves a value in between (`brokenMram`). -/
def execOpSecSlotSelectPermanent (r : Req) (s : State) : Out :=
  runOp { code := 0x0105, states := stBIARTS } r s fun p s =>
    slotSelect 1 p s fun _ =>
      let k := u8 p 0
      let rb := imgRollback (slotImage s k)
      chk [(s.sys.state == .boot || s.sec.running != k + 1, .badParam, 0), (decide (64 < rb), .refused, 0)] fun _ =>
        let s1 := writeBoot { bootRec s.mram with permB := k == 1 } s
        if rb ≤ s.mram.rollback then .done s1
        else
          let s2 := { s1 with mram := { s1.mram with rollback := rb }, sec := { s1.sec with blowing := some (s.mram.rollback, s.now) } }
          .done (raise 0x0103 rb [] (setSlot (1 - k) { slotOf s2 (1 - k) with vr := 0 } s2))

/-- OP_SEC_REBOOT (R443): the reply is queued, then the device resets (DEDUCED, notes/assumptions/110.md). -/
def execOpSecReboot (r : Req) (s : State) : Out :=
  let s1 := runReq { code := 0x0106, states := stBIS } r s (fun _ s => .done s) fun p s =>
    fourReserved p fun _ => .yes { s with pwr := { s.pwr with inReset := true } } .accepted 0 []
  .next (if s1.pwr.inReset ∧ ¬ s.pwr.inReset then resetDevice 4 0 (finish s { s1 with pwr := s.pwr }) else finish s s1)

/-! ### Owner key (R445) -/

/-- A slot holds an image with VR OK that this owner has co-signed. -/
def ownerImage (pub : Bytes) (s : State) (k : Nat) : Bool :=
  let i := slotImage s k
  (slotOf s k).vr == 1 && imgCoSigned i && imgOwnerPub i == pub &&
    sm2Verify pub (bytesAt 320 i 0) (imgOwnerSig i)

/-- Fuse bits of another key's hash have been blown (R445). -/
def otherPartial (m : Mram) (h : Bytes) : Bool := match m.partialOwner with | some x => x != h | none => false

/-- OP_SEC_OWNER_FUSE (R445; DEDUCED, notes/assumptions/113.md). -/
def execOpSecOwnerFuse (r : Req) (s : State) : Out :=
  runOp { code := 0x0107, states := stBIS } r s fun p s =>
    let pub := bytesAt 64 p 0
    let h := sm3 pub
    let signed := sm2Verify pub (fit 8 Config.deviceId ++ pub ++ bytesAt 1 p 64) (bytesAt 64 p 68)
    chk [lenIs p 132, rsvBits p 64 1, rsv p 65 3, (!signed || !(ownerImage pub s 0 || ownerImage pub s 1), .auth, 0),
         (s.mram.ownerHash.isSome || otherPartial s.mram h, .locked, 0)] fun _ =>
      .done { s with mram := { s.mram with partialOwner := some h },
                     sec := { s.sec with fusing := some (h, u8 p 64 == 1) } }

/-- FUSE_BLOW_DONE: hash, flag and valid marker are blown (R445). A flag that a broken sequence has blown stays blown (R435). -/
def execFuseBlowDone (t : Nat) (s : State) : Out :=
  ev t s fun s =>
    match s.sec.fusing with
    | none => s
    | some (h, off) =>
      { s with mram := { s.mram with ownerHash := some h, ownerDebugOff := off || s.mram.partialOff, partialOwner := none, partialOff := false },
               sec := { s.sec with fusing := none } }

/-! ### Debug access (R451, R452) -/

/-- Fields and lock of both actions of OP_SEC_DEBUG_CHALLENGE. -/
def debugFields (action : Nat) (p : Bytes) (s : State) (k : Unit → Ans) : Ans :=
  chk [lenIs p 4, outOf (u8 p 0) 1 3 0, (u8 p 1 != action, .badParam, 1), rsv p 2 2, (s.sec.dbgLocked, .locked, 0)] k

/-- OP_SEC_DEBUG_CHALLENGE, ACTION CHALLENGE (R452; DEDUCED, notes/assumptions/114.md). -/
def execOpSecDebugChallenge (r : Req) (s : State) : Out :=
  runOp { code := 0x0108, states := stBIS } r s fun p s =>
    debugFields 0 p s fun _ =>
      let d := drawBytes 32 s
      let c : Challenge := { nonce := d.1, level := u8 p 0, expires := d.2.now + msT 60000 }
      .give { d.2 with sec := { d.2.sec with dbgChallenge := some c } } (d.1 ++ fit 8 Config.deviceId)

/-- Debug access ends at every level: what it drove is released (R451, R452). -/
def endDebug (s : State) : State :=
  raise 0x0102 0 [] (endExtest { s with sec := { s.sec with debug := 0 } })

/-- OP_SEC_DEBUG_CHALLENGE, ACTION LOCK (R452). -/
def execOpSecDebugLock (r : Req) (s : State) : Out :=
  runOp { code := 0x0108, states := stBIS } r s fun p s => debugFields 1 p s fun _ => .done (endDebug s)

/-- The key is the vendor's, or the owner's where that is fused. -/
def knownKey (m : Mram) (pub : Bytes) : Bool :=
  sm3 pub == vendorHash || m.ownerHash == some (sm3 pub)

/-- The response answers the challenge in force (R452). -/
def debugResponseOk (p : Bytes) (s : State) : Bool :=
  let pub := bytesAt 64 p 4
  match s.sec.dbgChallenge with
  | none => false
  | some c =>
    decide (s.now < c.expires) && c.level == u8 p 0 && knownKey s.mram pub &&
      sm2Verify pub (c.nonce ++ fit 8 Config.deviceId ++ bytesAt 1 p 0) (bytesAt 64 p 68)

/-- OP_SEC_DEBUG_UNLOCK (R452): a failed response counts, and the third locks both opcodes until the next reset. An accepted
unlock holds until LOCK or reset, so that one at a lower level takes no level away (DEDUCED, notes/assumptions/114.md). -/
def execOpSecDebugUnlock (r : Req) (s : State) : Out :=
  runOp { code := 0x0109, states := stBIS } r s fun p s =>
    chk [lenIs p 132, rsv p 1 3, (s.sec.dbgLocked, .locked, 0)] fun _ =>
      let x := { s.sec with dbgChallenge := none }
      if ¬ debugResponseOk p s then
        .yes { s with sec := { x with dbgFails := x.dbgFails + 1, dbgLocked := decide (3 ≤ x.dbgFails + 1) } } .auth 0 []
      else if s.mram.ownerDebugOff ∧ s.mram.ownerHash ≠ some (sm3 (bytesAt 64 p 4)) then
        .yes { s with sec := { x with dbgLocked := true } } .locked 0 []
      else .done (raise 0x0102 (u8 p 0) [] { s with sec := { x with debug := max x.debug (u8 p 0) } })

/-- The interlock of 06_legs_pwm.md R158 on the boundary-scan register: bits 2n and 2n + 1 are the register's cells of
LEGn_GH and LEGn_GL, and two that are both set are both deasserted. -/
def extestInterlock (v : List Bool) : List Bool :=
  (List.range v.length).map fun i =>
    let other := if i % 2 = 0 then i + 1 else i - 1
    v.getD i false && !(decide (i < 96) && v.getD other false)

/-- A leg's gates follow the boundary-scan register through the interlock, which counts and blanks what overlaps
(06_legs_pwm.md R158, R167); nothing else of the leg is timed meanwhile. -/
def extestLeg (v : List Bool) (s : State) (n : Nat) : State :=
  request n (8 * s.now) (v.getD (2 * n) false) (v.getD (2 * n + 1) false) (setLeg n { leg s n with hold := none, wait := none } s)

/-- The instructions of the test port (R451). -/
inductive Jtag where
  | idcode
  | bypass
  | sample
  /-- Level 1: reads engine and memory state. -/
  | observe
  /-- Level 2: halts engines. -/
  | halt
  /-- Level 3: drives balls. -/
  | extest
  deriving DecidableEq, Repr

/-- The debug level that an instruction needs. -/
def Jtag.level : Jtag → Nat
  | .idcode => 0
  | .bypass => 0
  | .sample => 0
  | .observe => 1
  | .halt => 2
  | .extest => 3

/-- The instruction that the test port runs: BYPASS where debug access is not unlocked at its level, and for EXTEST outside
BOOT and SERVICE (R451). -/
def jtagRuns (i : Jtag) (s : State) : Jtag :=
  if s.sec.debug < i.level ∨ (i = .extest ∧ s.sys.state ≠ .boot ∧ s.sys.state ≠ .service) then .bypass else i

/-- EXTEST (R451): at level 3, in BOOT or SERVICE; else the instruction acts as BYPASS (DEDUCED, notes/assumptions/115.md).
The gates follow the register through the interlock; the other balls follow it as it stands (`ballLevel`). -/
def execExtest (t : Nat) (values : List Bool) (s : State) : Out :=
  ev t s fun s =>
    if jtagRuns .extest s = .extest then
      (List.range 48).foldl (extestLeg values) { s with balls := { s.balls with extest := some (extestInterlock values) } }
    else s

/-! ### Saved configuration (R448) -/

/-- OP_SEC_CFG_SAVE (R448): the older of the two generations is written, and the reply waits for its end (DESIGN CHOICE,
notes/assumptions/116.md). -/
def execOpSecCfgSave (r : Req) (s : State) : Out :=
  runOp { code := 0x010A, states := stIAS } r s fun p s =>
    fourReserved p fun _ => chk [(s.sec.saving.isSome, .busy, 0)] fun _ =>
      let c : CfgRec := { imageVer := runningVer s, snap := saveSnap s }
      .later { s with sec := { s.sec with saving := some (c, owedTo r 0x010A) },
                      mram := { s.mram with cfg := s.mram.cfg.take 1 ++ [{ c with ok := false }] } }

/-- CFG_SAVE_DONE: the record is complete in MRAM and is the newest (R448). -/
def execCfgSaveDone (t : Nat) (s : State) : Out :=
  ev t s fun s =>
    match s.sec.saving with
    | none => s
    | some (c, w) =>
      answer w .ok 0 [] { s with sec := { s.sec with saving := none }, mram := { s.mram with cfg := c :: s.mram.cfg.dropLast } }

/-! ### Journal (R450) -/

/-- The 64 bytes of an entry: its number, kind, CHK over bytes 0 to 11 and 16 to 63, and body. -/
def journalBytes (e : Nat × Nat × Bytes) : Bytes :=
  let h := le 8 e.1 ++ le 1 e.2.1 ++ le 3 0
  let b := fit 48 e.2.2
  h ++ le 4 (crc32c (h ++ b)) ++ b

/-- OP_SEC_JOURNAL_READ (R450). -/
def execOpSecJournalRead (r : Req) (s : State) : Out :=
  runOp { code := 0x010C, states := stBIARTS } r s fun p s =>
    chk [lenIs p 12, outOf (u16 p 8) 1 1024 8, rsv p 10 2] fun _ =>
      let es := (s.mram.journal.filter fun e => decide (u64 p 0 ≤ e.1)).take (u16 p 8)
      .chain s (le 2 es.length ++ le 2 0 ++ es.flatMap journalBytes)

/-- JOURNAL_ENTRY_WRITE: the oldest queued entry enters the ring of 32,768 (R450). -/
def execJournalEntryWrite (t : Nat) (s : State) : Out :=
  ev t s fun s =>
    match s.sec.journalQ with
    | [] => s
    | (kind, body) :: r =>
      let m := s.mram
      { s with sec := { s.sec with journalQ := r },
               mram := { m with journal := keepLast 32768 (m.journal ++ [(m.nextEntry, kind, body)]), nextEntry := m.nextEntry + 1 } }

end Sys2Proof.Machine
end

