-- ==== Sys2Proof/Machine/Twin.lean ====
section
/-! DEFINITION. Twin operation's commands: configuration, the heartbeat and the lease, mirror updates, relayed commands,
forwarded opcodes and health reports (14_twin.md). -/

namespace Sys2Proof.Machine

open Sys2Proof

/-! ### Configuration, release and status -/

/-- OP_TWIN_SET_CONFIG (R326); a link that is UP already is taken as reaching UP now (R334, R335). -/
def execOpTwinSetConfig (r : Req) (s : State) : Out :=
  runOp { code := 0x2401, states := stI } r s fun p s =>
    let c := u8 p 0
    let on := c.testBit 0
    chk [lenIs p 28, rsvBits p 0 2, outOf (u8 p 1) 1 16 1, outOf (u16 p 2) 1 1000 2, outOf (u32 p 4) 1 20 4,
         outOf (u32 p 8) 3200 64000 8, outOf (u32 p 12) 80 16000 12,
         outOfI (i32 p 16) (rnd ((5 : Rat) / 1000 * 2 ^ 27)) (rnd ((1 : Rat) / 2 * 2 ^ 27)) 16,
         outOf (u32 p 20) (rnd ((1 : Rat) / 3600 * 2 ^ 32)).toNat (rnd ((10 : Rat) / 360 * 2 ^ 32)).toNat 20, rsv p 24 4,
         (decide (u32 p 8 < 1600 * u32 p 4 + 1600), .range, 8),
         (on && ((lane s 14).role != 5 || (lane s 15).role != 5), .badParam, 0)] fun _ =>
      let w := { s.twin with enable := on, takeUnready := c.testBit 1, mirrorMax := u8 p 1, cmpN := u16 p 2, lease := u32 p 4,
                             planH := u32 p 8, planTol := u32 p 12, cmpDi := u32 p 16, cmpDang := u32 p 20, holder := false,
                             releasing := false, lastIn := none, leaseFrom := none, relTold := none, quietFrom := s.now,
                             leaseOut := false, noTakeSaid := false,
                             mirror := none, mirrorSeen := false, mirrorAge := 0, applied := [], failRun := 0, checkOn := false,
                             linkUp := false }
      .done (updReady (linkChanged 14 { s with twin := w }))

/-- OP_TWIN_RELEASE (R331): one more full pulse follows; the legs enter mitten and the standby is told. -/
def execOpTwinRelease (r : Req) (s : State) : Out :=
  runOp { code := 0x2402, states := stIARTS } r s fun p s =>
    chk [(!(s.twin.enable && s.twin.holder), .badState, 0), lenIs p 4, rsv p 0 4] fun _ =>
      let s1 := sayCap 2 false (twinSend (.opcode 0x2402 p) s)
      let s2 := dropCap s1
      .yes (updReady { s2 with twin := { s2.twin with releasing := true } }) .accepted 0 []

/-- OP_TWIN_GET_STATUS (R347): own latest report, formed now where none has been, and the twin's last (DEDUCED,
notes/assumptions/107.md). -/
def execOpTwinGetStatus (r : Req) (s : State) : Out :=
  runOp { code := 0x2403, states := stIARTS } r s fun p s =>
    fourReserved p fun _ => .give s ((if s.twin.own.isEmpty then healthReport s else s.twin.own) ++ fit 48 s.twin.rx)

/-! ### Heartbeat and lease (R328 to R332) -/

/-- A point of the twin timescale at which a pulse may start. -/
def pulsePoint (s : State) : Bool := twinTime s s.now % 400 == 0

/-- CAP_HEARTBEAT_PULSE (R328). -/
def execCapHeartbeatPulse (t : Nat) (s : State) : Out :=
  ev t s fun s =>
    if s.twin.enable && (s.twin.holder || s.twin.releasing) && tbRuns s && capState s && s.sys.halted % 16 == 0 && pulsePoint s then
      notePins { s with twin := { s.twin with pulseTo := s.now + 13, releasing := false } }
    else s

/-- HEARTBEAT_STEP_WATCH (R328): no outer step has completed within 2 × T_step (DEDUCED, notes/assumptions/104.md). -/
def execHeartbeatStepWatch (t : Nat) (s : State) : Out :=
  ev t s fun s =>
    if s.twin.enable && (s.twin.holder || s.twin.releasing) && decide (s.sys.doneAt + 2 * s.sys.tStep < s.now) then updReady (stopCap s)
    else s

/-- CAP_IN_PULSE (R329, R332): `width` is in picoseconds; a pulse narrower than 4 ns counts for nothing (DESIGN CHOICE,
notes/assumptions/105.md). -/
def execCapInPulse (t : Nat) (width : Nat) (s : State) : Out :=
  ev t s fun s =>
    let inTo := s.now + (width + 624) / 625
    if ¬ s.twin.enable ∨ width < 4000 then s
    else if ¬ s.twin.holder then
      -- one more pulse follows a release; a second one is that of a holder (R331)
      let told := match s.twin.relTold with | some 0 => some 1 | _ => none
      notePins { s with twin := { s.twin with lastIn := some s.now, inTo := inTo, leaseFrom := some s.now, relTold := told, leaseOut := false,
                                              noTakeSaid := false } }
    else
      let s1 := raiseClass 25 0x2402 0 [] s
      if s.twin.idB then
        let s2 := dropCap s1
        notePins (updReady (sayCap 4 false { s2 with twin := { s2.twin with lastIn := some s2.now, inTo := inTo } }))
      else notePins { s1 with twin := { s1.twin with epoch := nextEpoch s1, splitOn := true, lastIn := some s1.now, inTo := inTo } }

/-- LEASE_EXPIRY (R329). -/
def execLeaseExpiry (t : Nat) (s : State) : Out :=
  ev t s fun s =>
    match s.twin.leaseFrom with
    | some x =>
      if standby s && !s.twin.leaseOut && due s (x + usT s.twin.lease) then { s with twin := { s.twin with leaseOut := true } } else s
    | none => s

/-- CAP_TAKE (R329): the guard of 200 ns after the expiry has passed and a pulse point is reached. -/
def execCapTake (t : Nat) (s : State) : Out :=
  ev t s fun s =>
    match s.twin.leaseFrom with
    | some x =>
      if standby s && s.twin.leaseOut && tbRuns s && decide (x + usT s.twin.lease + 320 ≤ s.now) && pulsePoint s then capOutcome 1 s
      else s
    | none => s

/-- INITIAL_CAP_TAKE (R330): at start-up, with no pulse heard since; A after the lease and the guard, B 1 ms later, which in
B count from its entry into ARMED on. The first take after reset has cause INITIAL (DEDUCED, notes/assumptions/103.md). -/
def execInitialCapTake (t : Nat) (s : State) : Out :=
  ev t s fun s =>
    let quiet := s.twin.quietFrom + usT s.twin.lease + 320 + (if s.twin.idB then msT 1 else 0)
    if standby s && s.twin.leaseFrom.isNone && capState s && tbRuns s && decide (quiet ≤ s.now) && pulsePoint s then
      takeCap (if s.twin.tookOnce then 1 else 3) false s
    else s

/-- RELEASE_TAKE_WAIT_END (R329, R331): 700 ns after the last pulse of a holder that has told its release, at a pulse point. -/
def execReleaseTakeWaitEnd (t : Nat) (s : State) : Out :=
  ev t s fun s =>
    match s.twin.lastIn with
    | some x => if standby s && s.twin.relTold.isSome && tbRuns s && decide (x + 1120 ≤ s.now) && pulsePoint s then capOutcome 2 s else s
    | none => s

/-! ### Mirroring and checking (R340, R342) -/

/-- A mirror update arrives (R340): the next boundary takes it. -/
def mirrorIn (m : Mirror) (s : State) : State :=
  if standby s && s.twin.linkUp then
    updReady (compareCfg m.cfgCrc
      { s with twin := { s.twin with mirror := some m, mirrorSeen := true, mirrorAge := 0, compared := false } })
  else s

/-- SHADOW_COMPARE (R342): the standby's completed step and the update are of one boundary. -/
def execShadowCompare (t : Nat) (s : State) : Out :=
  ev t s fun s =>
    match s.twin.mirror with
    | some m =>
      if standby s && !s.twin.compared && s.sys.state == .run && m.state == 3 && twinTime s s.gfm.run.out.tick == m.tick &&
          m.run.out.tick == m.tick then
        compareStep m s
      else s
    | none => s

/-! ### Relayed commands (R335, R338) -/

/-- The tick in twin time that 48 bits stand for: the one nearest to now. -/
def near48 (now e : Nat) : Nat :=
  let x := now / 2 ^ 48 * 2 ^ 48 + e
  if now + 2 ^ 47 < x ∧ 2 ^ 48 ≤ x then x - 2 ^ 48 else if x + 2 ^ 47 < now then x + 2 ^ 48 else x

/-- The plan events of a COMMAND frame: ticks after the event before them, and states. -/
def planEvents (f : Bytes) : List (Nat × Nat) :=
  (List.range (bits (u8 f 5) 4 3)).map fun k => let w := u32 f (12 + 4 * k); (w % 2 ^ 24, bits w 26 24)

/-- Main and plan events of a relayed frame: state and own tick, the main event first. -/
def relayEvents (s : State) (f : Bytes) : List (Nat × Nat) :=
  let at_ := ownTime s (near48 (twinTime s s.now) (uLE 6 f 6))
  if f.length = 16 then [(u8 f 4 % 8, at_)]
  else
    ((planEvents f).foldl
      (fun (a : Nat × List (Nat × Nat)) e => (a.1 + e.1, a.2 ++ [(e.2, a.1 + e.1)])) (at_, [(u8 f 5 % 8, at_)])).2

/-- Insert an event of a cell in execute-at order; a main event takes the place of one on its tick (11_strands_cells.md R263). -/
def insertRelayed (e : Relayed) : List Relayed → List Relayed
  | [] => [e]
  | f :: r =>
    if e.at_ = f.at_ ∧ ¬ e.plan ∧ ¬ f.plan then e :: r
    else if e.at_ < f.at_ then e :: f :: r else f :: insertRelayed e r

/-- What a relayed command leaves in the books of one cell: its SEQ for a unicast, and the events that its node keeps and takes
under 11_strands_cells.md R263 and R265, behind the last that has executed. -/
def noteRelayed (id seq : Nat) (evs : List (Nat × Nat)) (unicast : Bool) (s : State) : State :=
  let l := s.twin.relayed.filter fun e => e.cell == id
  let c := cell s id
  let done := (l.filter fun e => decide (e.at_ ≤ s.now)).getLast?
  let base : Relayed := done.getD { cell := id, st := cmdOf s id, at_ := s.now, plan := false }
  let main := evs.headD (0, 0)
  let safe := main.1 == 0 || main.1 == 5
  let kept := l.filter fun e => decide (s.now < e.at_) && if unicast then !e.plan else decide (e.at_ ≤ main.2) || !safe
  let new := (evs.zip (List.range evs.length)).map fun x => ({ cell := id, st := x.1.1, at_ := x.1.2, plan := decide (0 < x.2) } : Relayed)
  setCell id { c with seq := if unicast then seq else c.seq, cmdState := match done with | some e => some (e.st, e.at_) | none => c.cmdState }
    { s with twin := { s.twin with relayed := (s.twin.relayed.filter fun e => e.cell != id) ++ base :: new.foldl (fun a e => insertRelayed e a) kept } }

/-- A relayed command is re-sent on the own heads that serve the cell or arm, with RELAY set (R335; DEDUCED,
notes/assumptions/106.md). -/
def relayIn (f : Bytes) (s : State) : State :=
    let ok := (f.length == 32 || f.length == 16) && crc32c (f.take (f.length - 4)) == u32 f (f.length - 4)
    if ¬ (standby s && s.twin.linkUp && ok) then s
    else
      let dest := u16 f 0 % 4096
      let v12 := f.length == 16
      let a := u8 f 24
      let out := if v12 then f else withChk (f.take 5 ++ le 1 (u8 f 5 ||| 32) ++ (f.drop 6).take 22)
      let arms := if a = 0xFF then s.arm.keys else [a]
      let ids := if dest = 0xFFF ∧ ¬ v12 then arms.flatMap fun k => (arm s k).cells else [dest]
      let ns := if dest = 0xFFF ∧ ¬ v12 then (arms.flatMap (armStrands s)).dedup else [cellStrand s dest]
      let evs := relayEvents s f
      let s1 := ids.foldl (fun b id => noteRelayed id (u16 f 2) evs (dest != 0xFFF) b) s
      ns.foldl (fun b n => commandOut n { cls := if v12 then 8 else 1, bytes := out, execAt := (evs.head?.map fun e => e.2), cell := dest } b) s1

/-- RELAYED_COMMAND_RECEIVED (R335), through the injections of lane HL14 (21_test_diagnostics.md R459). -/
def execRelayedCommandReceived (t : Nat) (f : List Byte) (s : State) : Out :=
  ev t s fun s =>
    let r := inject 1 14 1 { bytes := f, cls := if f.length = 16 then 8 else 1 } s
    r.1.foldl (fun a b => relayIn b.bytes a) r.2

/-! ### Forwarded opcodes (R341) -/

/-- The transition that a forwarded opcode makes, by the rules of Table 1.5. -/
def forwardedTrial (opcode : Nat) (p : Bytes) (s : State) : Trial :=
  let st (l : List DevState) (k : Trial) : Trial := if l.contains s.sys.state then k else .error (.badState, 0)
  match opcode with
  | 0x0007 => st stI (doArm s)
  | 0x0008 => st stA (if runModeOk (u8 p 0) then doRun (modeOf (u8 p 0)) none s else .error (.badParam, 0))
  | 0x0009 => st stR (doStop (u32 p 0) s)
  | 0x000A => st stA (doDisarm s)
  | 0x150A => st stT (doClear s)
  | _ => .error (.badOpcode, 0)

/-- A forwarded opcode arrives (R341): a refusal raises EV_TWIN_FOLLOW. OP_TWIN_RELEASE is what the holder tells of its
release (R331; DESIGN CHOICE, notes/assumptions/174.md). -/
def opcodeIn (opcode : Nat) (p : Bytes) (s : State) : State :=
  if ¬ (standby s && s.twin.linkUp) then s
  else if opcode = 0x2402 then { s with twin := { s.twin with relTold := some 0 } }
  else match forwardedTrial opcode p s with
    | .ok s1 => s1
    | .error (st, _) => raise 0x2408 opcode (le 2 st.code ++ le 2 0) s

/-! ### Health reports (R347) -/

/-- HEALTH_REPORT_TX: every 1 ms. -/
def execHealthReportTx (t : Nat) (s : State) : Out :=
  ev t s fun s =>
    if ¬ due s s.twin.nextReport then s
    else
      let b := healthReport s
      let s1 := twinSend (.report b) s
      { s1 with twin := { s1.twin with own := b, nextReport := s1.now + msT 1, diMax := 0, dangMax := 0 } }

/-- A health report arrives. Its TIME_ALIGNED says that the twin's part of R334 holds; while it is clear, whether that part
holds is a free value (DESIGN CHOICE, notes/assumptions/2.md; DEDUCED, notes/assumptions/173.md). -/
def reportIn (b : Bytes) (s : State) : State :=
  if s.twin.enable && s.twin.linkUp && b.length == 48 then
    let d := drawNat s
    let far := (u8 b 11).testBit 6 || d.1 % 2 == 1
    updReady (compareCfg (u32 b 12) { d.2 with twin := { d.2.twin with rx := b, farAligned := far } })
  else s

/-! ### What the twin link brings (R340, R341, R347) -/

/-- A message of the twin link is taken. -/
def twinTake (m : TwinMsg) (s : State) : State :=
  match m with
  | .mirror x => mirrorIn x s
  | .opcode c p => opcodeIn c p s
  | .report b => reportIn b s
  | .delay _ _ => s

/-- A message of the twin link arrives, through the injections of lane HL14; one that an injection has corrupted is discarded
(21_test_diagnostics.md R459; DEDUCED, notes/assumptions/124.md). -/
def twinIn (m : TwinMsg) (s : State) : State :=
  let r := inject 1 14 1 { bytes := [], cls := 0, twin := some m } s
  r.1.foldl (fun a it => match it.twin with | some x => twinTake x a | none => a) r.2

/-- MIRROR_UPDATE_RECEIVED (R340). -/
def execMirrorUpdateReceived (t : Nat) (m : Mirror) (s : State) : Out := ev t s (twinIn (.mirror m))

/-- FORWARDED_STATE_OPCODE (R341). -/
def execForwardedStateOpcode (t : Nat) (opcode : Nat) (p : List Byte) (s : State) : Out := ev t s (twinIn (.opcode opcode p))

/-- HEALTH_REPORT_RECEIVED (R347). -/
def execHealthReportReceived (t : Nat) (b : List Byte) (s : State) : Out := ev t s (twinIn (.report b))

/-! ### Plans (R337) -/

/-- Nanoseconds from now until the TERM of a frame sent at once has left (11_strands_cells.md Table 11.11), with OFFSET_c of
a cell, the larger over its heads, and 200 ns (R337). -/
def refreshLead (s : State) (id : Nat) : Rat :=
  let c := cell s id
  let ofs (o : Option Nat) : Rat := match o with | some f => fineNs f | none => 0
  5 * tB + max (ofs c.ofsL) (ofs c.ofsU) + 200

/-- PLAN_REFRESH_DUE (R337): the cell has a pending plan event and no real command for it has been sent. An event that a
refresh can no longer reach in time is executed by the cell: it counts as commanded, and the refresh follows it (DESIGN
CHOICE, notes/assumptions/175.md). -/
def execPlanRefreshDue (t : Nat) (id : Nat) (s : State) : Out :=
  ev t s fun s =>
    match armOf s id with
    | none => s
    | some a =>
      let c := cell s id
      let late (e : Nat × Nat) : Bool := decide (tickNs e.1 < tickNs s.now + refreshLead s id)
      if ¬ (s.twin.enable && s.twin.holder && s.sys.state == .run && c.plan.any fun e => decide (s.now < e.1)) then s
      else
        let gone := (c.plan.filter late).map fun e => ({ cell := id, st := e.2, at_ := e.1, plan := true } : Relayed)
        let s1 := (gone.foldl (fun (x : Nat × State) e => (e.st, adoptEvent x.1 e x.2)) (cmdOf s id, s)).2
        let from_ := s1.now + armD s1 a
        let fc := match s1.chan.find? fun e => e.2.cfg.outType == 5 && e.2.cfg.arm == a with
          | some e => forecast (s1.twin.planH / 80 + 1) e.1 from_ (from_ + s1.twin.planH) s1
          | none => []
        sendPlanned id (cmdOf s1 id) from_ (planFor fc id) s1

end Sys2Proof.Machine
end

