-- ==== Sys2Proof/Machine/Diag.lean ====
section
/-! DEFINITION. Slack, counters, test permits, injections and the continuous self-test
(18_timing.md R400; 21_test_diagnostics.md R453 to R464). -/

namespace Sys2Proof.Machine

open Sys2Proof

/-! ### Slack and counters -/

/-- A signed 32-bit field that saturates (R400). -/
def sat32I (v : Int) : Bytes := leI 4 (clampI (-(2 ^ 31 - 1)) (2 ^ 31 - 1) v)

/-- OP_DIAG_GET_SLACK (R19, R400, Table 17.5). -/
def execOpDiagGetSlack (r : Req) (s : State) : Out :=
  runOp { code := 0x3001, states := stIARTS } r s fun p s =>
    chk [lenIs p 4, rsvBits p 0 1, rsv p 1 3] fun _ =>
      let x := s.sys
      let d := sat32I x.minSlack ++ sat32I x.lastSlack ++ le 8 x.minTick ++ le 4 (c32 s 0x3001 0 20)
      .give (if (u8 p 0).testBit 0 then { s with sys := { x with slackFresh := true } } else s) d

/-- OP_DIAG_GET_CNT (R456). -/
def execOpDiagGetCnt (r : Req) (s : State) : Out :=
  runOp { code := 0x3002, states := stIARTS } r s fun p s =>
    fourReserved p fun _ =>
      let l := s.test.sat
      .give s (le 2 l.length ++ le 1 (b2n s.test.listOvf) ++ le 1 0 ++
        l.flatMap fun k => le 2 (k / 2 ^ 32) ++ le 2 (k / 65536 % 65536) ++ le 2 (k % 65536) ++ le 2 0)

/-- The opcodes whose replies hold 32-bit counters, with their number of objects; 0 stands for the host window. -/
def counterOps : List (Nat × Nat) :=
  [(0x0000, 1), (0x0305, 1), (0x1203, 64), (0x1408, 48), (0x150C, 50), (0x1607, 20), (0x1704, 20), (0x1809, 1), (0x2007, 16),
   (0x2103, 16), (0x2203, 4096), (0x220A, 256), (0x2308, 4), (0x2403, 1), (0x3001, 1), (0x3004, 1), (0x3104, 1)]

/-- A counter stands in the reply of an opcode for an object: its own, that of the strand the object names, or one
of the whole device that every object's reply shows. -/
def counterIn (s : State) (op obj key : Nat) : Bool :=
  let o := key / 65536 % 65536
  key / 2 ^ 32 == op &&
    (obj == 0xFFFF || o == (if op = 0x2103 then strandOf s obj else obj) || key == cKey 0x150C 0 28 || key == cKey 0x220A 0 60)

/-- The gated objects that a clear reaches (R457). -/
def gatedObjects (s : State) (op obj : Nat) : List (Nat × Nat) :=
  (counterOps.filter fun e => op == 0xFFFF || e.1 == op).flatMap fun e =>
    ((List.range (min 64 e.2)).filter fun o => (obj == 0xFFFF || op == 0xFFFF || o == obj) && gated s e.1 o).map fun o => (e.1, o)

/-- OP_DIAG_CLEAR_CNT (R455, R457). -/
def execOpDiagClearCnt (r : Req) (s : State) : Out :=
  runOp { code := 0x3003, states := stIARTS } r s fun p s =>
    let op := u16 p 0
    let obj := u16 p 2
    let n := (Tbl.find op counterOps).getD 0
    chk [lenIs p 8, rsv p 4 4, (op != 0xFFFF && n == 0, .badParam, 0),
         (op != 0xFFFF && obj != 0xFFFF && decide (n ≤ obj), .badParam, 2)] fun _ =>
      let f (k : Nat) : Bool := !gated s (k / 2 ^ 32) (k / 65536 % 65536) && (op == 0xFFFF || counterIn s op obj k)
      .done ((gatedObjects s op obj).foldl (fun a _ => gatedAcc a) (clearCounters f s))

/-! ### Test permits (R458) -/

/-- A permit ends: so does every injection that was not started in SERVICE and that no permit covers (R461; DEDUCED,
notes/assumptions/125.md). -/
def permitTo (scope expires : Nat) (s : State) : State :=
  let s1 := { s with test := { s.test with scope := scope, expires := expires } }
  (s1.test.slot.filter fun e => !e.2.inService && !scope.testBit (e.2.type - 1)).foldl (fun a e => endInjection e.1 6 a) s1

/-- OP_TEST_PERMIT, ACTION CHALLENGE. -/
def execOpTestPermitChallenge (r : Req) (s : State) : Out :=
  runOp { code := 0x3101, states := stIAS, v2 := false } r s fun p s =>
    chk [lenIs p 4, (u8 p 0 != 0, .badParam, 0), rsv p 1 1, rsv p 2 2] fun _ =>
      let d := drawBytes 32 s
      let c : Challenge := { nonce := d.1, level := 0, expires := d.2.now + msT 60000 }
      .give { d.2 with test := { d.2.test with challenge := some c } } (d.1 ++ fit 8 Config.deviceId)

/-- The grant answers the challenge in force with a key that the rules of R452 admit. -/
def grantOk (p : Bytes) (s : State) : Bool :=
  let pub := bytesAt 64 p 4
  match s.test.challenge with
  | none => false
  | some c =>
    decide (s.now < c.expires) && knownKey s.mram pub &&
      !(s.mram.ownerDebugOff && s.mram.ownerHash != some (sm3 pub)) &&
      sm2Verify pub (c.nonce ++ fit 8 Config.deviceId ++ bytesAt 3 p 1) (bytesAt 64 p 68)

/-- OP_TEST_PERMIT, ACTION GRANT: the challenge serves one GRANT. -/
def execOpTestPermitGrant (r : Req) (s : State) : Out :=
  runOp { code := 0x3101, states := stIAS, v2 := false } r s fun p s =>
    chk [lenIs p 132, (u8 p 0 != 1, .badParam, 0), rsvBits p 1 3, outOf (u16 p 2) 1 3600 2] fun _ =>
      let s1 := { s with test := { s.test with challenge := none } }
      if grantOk p s then .done (permitTo (u8 p 1) (s.now + msT (1000 * u16 p 2)) s1) else .yes s1 .auth 0 []

/-- OP_TEST_PERMIT, ACTION REVOKE. -/
def execOpTestPermitRevoke (r : Req) (s : State) : Out :=
  runOp { code := 0x3101, states := stIAS, v2 := false } r s fun p s =>
    chk [lenIs p 4, (u8 p 0 != 2, .badParam, 0), rsv p 1 1, rsv p 2 2] fun _ => .done (permitTo 0 0 s)

/-- TEST_PERMIT_EXPIRY. -/
def execTestPermitExpiry (t : Nat) (s : State) : Out :=
  ev t s fun s => if s.test.scope ≠ 0 ∧ s.test.expires ≤ s.now then permitTo 0 0 s else s

/-! ### Injections (R459, R461, R462) -/

/-- DIR as it counts: LINK_DROP on lanes and ports ignores it. -/
def injDir (p : Bytes) : Nat := if u8 p 4 = 1 ∧ u8 p 1 ≠ 3 then 3 else u8 p 5

/-- The target cannot be injected upon: a lane that is OFF, a port whose MODE is OFF, a context that is not open. -/
def injTargetBad (s : State) (type target : Nat) : Bool :=
  if type = 1 then decide (target < 16) && (lane s target).role == 0
  else if type = 2 then decide (target < 4) && (port s target).mode == 0
  else type == 3 && decide (target < 256) && (sess s target).state != 2

/-- Injections in conflict: the slot in use, or one of the same TYPE, TARGET, KIND and direction. -/
def injBusy (s : State) (p : Bytes) : Bool :=
  s.test.slot.any fun e =>
    e.1 == u8 p 0 || (e.2.type == u8 p 1 && e.2.target == u16 p 2 && e.2.kind == u8 p 4 && e.2.dir == injDir p)

/-- A LINK_DROP acts at once: a lane drops with cause SIGNAL, a port leaves block lock (Table 21.3, R460). -/
def linkDrop (type target : Nat) (s : State) : State :=
  if type = 1 then (if (lane s target).prbsOn then s else dropLane target 1 (setLane target { lane s target with eidle := false } s))
  else if type = 2 then portLink target false s
  else s

/-- FILTER outside what its TYPE compares: a class of Table 11.1, any EtherType, a KIND of Table 12.3, or 0xFFFF for any
(R459). -/
def filterBad (type f : Nat) : Bool :=
  f != 0xFFFF && (if type = 1 then decide (f = 0 ∨ 8 < f) else if type = 3 then decide (5 < f) else false)

/-- OP_TEST_INJECT (R459, Tables 21.2, 21.3). -/
def execOpTestInject (r : Req) (s : State) : Out :=
  runOp { code := 0x3102, states := stARS, v2 := false } r s fun p s =>
    let type := u8 p 1
    let target := u16 p 2
    let kind := u8 p 4
    let targets := if type = 1 then 15 else if type = 2 then 3 else 255
    let usesDir := !(kind == 1 && type != 3)
    chk [lenIs p 24, (s.sys.state != .service && !(decide (1 ≤ type) && s.test.scope.testBit (type - 1)), .refused, 0),
         (injBusy s p, .busy, 0), rsvBits p 5 2, rsv p 11 1, (injTargetBad s type target, .badParam, 2),
         (usesDir && u8 p 5 == 0, .badParam, 5), outOf (u8 p 0) 0 7 0, outOf type 1 3 1, outOf target 0 targets 2,
         outOf kind 1 5 4, (filterBad type (u16 p 6), .range, 6), outOf (u16 p 8) 1 0xFFFF 8, outOf (u8 p 10) (if kind = 4 then 1 else 0) (if kind = 4 then 8 else 0) 10,
         outOf (u32 p 12) 1 (if kind = 1 then 10000000 else 600000000) 12,
         outOf (u32 p 20) (if kind = 5 then 1 else 0) (if kind = 5 then 10000 else 0) 20] fun _ =>
      let i : Inject :=
        { type := type, target := target, kind := kind, dir := injDir p, filter := u16 p 6, everyN := u16 p 8, depth := u8 p 10,
          until_ := s.now + usT (u32 p 12), count := u32 p 16, delay := u32 p 20, inService := s.sys.state == .service }
      let key := cKey 0x3104 0 (16 + 16 * u8 p 0)
      let s1 := clearCounters (fun k => k == key) { s with test := { s.test with slot := s.test.slot.put (u8 p 0) i } }
      let s2 := raise 0x3101 (det (u8 p 0) 1) [] s1
      .done (if kind = 1 then linkDrop type target s2 else s2)

/-- OP_TEST_STOP (R462). -/
def execOpTestStop (r : Req) (s : State) : Out :=
  runOp { code := 0x3103, states := stIARTS, v2 := false } r s fun p s =>
    chk [lenIs p 4, rsv p 1 3] fun _ => .done ((bitsOf 8 (u8 p 0)).foldl (fun a k => endInjection k 4 a) s)

/-- Whole units left until a tick, rounded up. -/
def leftOf (s : State) (e unit : Nat) : Nat := (e - s.now + (unit - 1)) / unit

/-- OP_TEST_STATUS (Table 21.4). -/
def execOpTestStatus (r : Req) (s : State) : Out :=
  runOp { code := 0x3104, states := stIARTS, v2 := false } r s fun p s =>
    fourReserved p fun _ =>
      let one (k : Nat) : Bytes := match Tbl.find k s.test.slot with
        | none => fit 16 []
        | some i => le 1 i.type ++ le 1 i.kind ++ le 2 i.target ++ le 4 (c32 s 0x3104 0 (16 + 16 * k)) ++
            le 4 (leftOf s i.until_ 1600) ++ le 4 0
      .give s (le 1 s.test.scope ++ le 1 (maskOf s.test.slot.keys) ++ le 2 0 ++
        le 4 (if s.test.scope = 0 then 0 else leftOf s s.test.expires 1600000000) ++ (List.range 8).flatMap one)

/-- TEST_INJECTION_END (R461): DURATION has passed; every other cause acts at once where it arises. -/
def execTestInjectionEnd (t : Nat) (slot : Nat) (s : State) : Out :=
  ev t s fun s =>
    match Tbl.find slot s.test.slot with
    | some i => if due s i.until_ then endInjection slot 2 s else s
    | none => s

/-- An item that was held goes on its way (R459). -/
def releaseItem (type target : Nat) (h : Held) (s : State) : State :=
  let it := h.item
  if type = 1 then
    if let some m := it.twin then (if h.dir = 0 then twinOut m s else if s.twin.linkUp then twinTake m s else s)
    else if h.dir = 0 then laneItem target it s
    else if it.cls = 1 ∨ it.cls = 8 then relayIn it.bytes s
    else cellFrame target it.cls it.bytes s
  else if type = 2 then
    if h.dir = 0 then itemOut target it s else if (port s target).link then portItem target it s else s
  else if (sess s target).state = 0 then s
  else if h.dir = 0 then segmentOut (sess s target).partner it.bytes s
  else match it.path with
    | some p => segmentIn p it.bytes s
    | none => s

/-- INJECTED_ITEM_RELEASE (R459): what this slot holds and what ended injections held, as far as due. -/
def execInjectedItemRelease (t : Nat) (slot : Nat) (s : State) : Out :=
  ev t s fun s =>
    let go (h : Held) : Bool := due s h.at_
    let l := s.test.late.filter fun e => go e.2.2
    let s1 := { s with test := { s.test with late := s.test.late.filter fun e => !go e.2.2 } }
    let s2 := l.foldl (fun a e => releaseItem e.1 e.2.1 e.2.2 a) s1
    match Tbl.find slot s2.test.slot with
    | none => s2
    | some i =>
      let j := { i with held := i.held.filter fun h => !go h }
      let s3 := { s2 with test := { s2.test with slot := s2.test.slot.put slot j } }
      let s4 := (i.held.filter go).foldl (fun a h => releaseItem i.type i.target h a) s3
      match Tbl.find slot s4.test.slot with
      | some k => if k.spent then endInjection slot 3 s4 else s4
      | none => s4

/-! ### Continuous self-test (R463, R464) -/

/-- The result of a check: its bit of FAIL, with the event on a failure or a recovery. -/
def setFail (check : Nat) (fails : Bool) (s : State) : State :=
  let was := s.test.fail.testBit check
  if was = fails then s
  else
    raise 0x3002 (det check (b2n fails)) []
      { s with test := { s.test with fail := if fails then s.test.fail + 2 ^ check else s.test.fail - 2 ^ check } }

/-- SELFTEST_CHECK_RUN (R463, Table 21.6): checks 0 to 3 and 5 by their bit; 16 + n is the run of check 4 on engine En.
Checks 1 and 3 never recover. How many SRAM errors a scrub meets is free (DESIGN CHOICE, notes/assumptions/2.md; DEDUCED,
notes/assumptions/126.md). -/
def execSelftestCheckRun (t : Nat) (check : Nat) (pass : Bool) (s : State) : Out :=
  ev t s fun s =>
    let engine := decide (16 ≤ check) && decide (check < 30)
    let bit := if engine then 4 else check
    if s.sys.state = .boot ∨ ¬ (engine ∨ check ≤ 3 ∨ check = 5) then s
    else
      let s1 := { s with test := { s.test with lastRun := s.test.lastRun.put bit s.now } }
      let s2 := if check = 0 then
          let a := drawNat s1
          let b := drawNat a.2
          let s3 := bumpN 0x3004 0 8 (a.1 % 2 ^ 32) b.2
          if pass then s3 else bumpN 0x3004 0 12 (1 + b.1 % 2 ^ 32) s3
        else s1
      let bad := if ¬ engine then s2.test.badEngines
        else
          let rest := s2.test.badEngines.filter (· != check - 16)
          if pass then rest else (check - 16) :: rest
      let s3 := { s2 with test := { s2.test with badEngines := bad } }
      let fails := if engine then !bad.isEmpty
        else !pass || ((check == 1 || check == 3) && s.test.fail.testBit check)
      updReady (setFail bit fails s3)

/-- The level that a ball is driven to: 0 to 47 the GH of a leg, 128 + n the GL of leg n, 256 and 257 the choppers,
258 CAP_OUT. -/
def drivenLevel (s : State) (ball : Nat) : Option Bool :=
  if ball < 48 then some (leg s ball).gh
  else if 128 ≤ ball ∧ ball < 176 then some (leg s (ball - 128)).gl
  else if ball = 256 ∨ ball = 257 then some (chop s (ball - 256)).on
  else if ball = 258 then some (decide (s.now < s.twin.pulseTo))
  else none

/-- BALL of Table 21.7. -/
def ballCode (ball : Nat) : Nat := if ball < 256 then ball else 0xFFFE

/-- BALL_READBACK (R463, check 6): a ball recovers after 16 consecutive transitions that match. -/
def execBallReadback (t : Nat) (ball : Nat) (level : Bool) (s : State) : Out :=
  ev t s fun s =>
    match (if s.sys.state = .boot then none else drivenLevel s ball) with
    | none => s
    | some d =>
      let s1 := { s with test := { s.test with lastRun := s.test.lastRun.put 6 s.now } }
      let l := s1.test.badBalls
      if d ≠ level then
        updReady (setFail 6 true
          { s1 with test := { s1.test with badBalls := l.put ball 0, ball := if l.isEmpty then ballCode ball else s1.test.ball } })
      else
        match Tbl.find ball l with
        | none => s1
        | some n =>
          if n + 1 < 16 then { s1 with test := { s1.test with badBalls := l.put ball (n + 1) } }
          else
            let rest := Tbl.del ball l
            let first := match rest with | [] => 0xFFFF | e :: _ => ballCode e.1
            updReady (setFail 6 (!rest.isEmpty)
              { s1 with test := { s1.test with badBalls := rest, ball := if s1.test.ball = ballCode ball then first else s1.test.ball } })

/-- OP_DIAG_SELFTEST (R464, Table 21.7). -/
def execOpDiagSelftest (r : Req) (s : State) : Out :=
  runOp { code := 0x3004, states := stIARTS } r s fun p s =>
    fourReserved p fun _ =>
      .give s (le 2 s.test.fail ++ le 2 s.test.ball ++ le 4 (c32 s 0x3004 0 8) ++ le 4 (c32 s 0x3004 0 12) ++
        (List.range 7).flatMap fun k => le 8 (s.test.lastRun.getD k 0))

end Sys2Proof.Machine
end

