-- ==== Sys2Proof/Machine/CfgLoad.lean ====
section
/-! DEFINITION. OP_SEC_CFG_LOAD: a saved configuration is applied as a whole (20_security.md R448, R449;
01_architecture.md R24). What a setting command does beside storing its values is done here, too. -/

namespace Sys2Proof.Machine

open Sys2Proof

/-- A parameter set takes saved values as a commit of every parameter does (02_grid_forming.md R38, R40). -/
def loadSet (t : List Par) (v : Tbl Int) (x : PSet) : PSet := commitSet { x with staged := v, touched := t.map Par.id }

/-- Parameter and event sets, envelopes, black-start program, phase mappings. -/
def loadControl (c : CfgSnap) (s : State) : State :=
  { s with gfm := { s.gfm with par := loadSet gfmTable c.gfm s.gfm.par, map := c.map }
           grid := { s.grid with par := loadSet gridTable c.grid s.grid.par, env := c.env, timer := [], bsGroup := c.bsGroup,
                                 bsProg := c.bsProg } }

/-- Channels and arms. -/
def loadChans (c : CfgSnap) (s : State) : State :=
  let s1 := { s with chan := s.chan.filter fun e => (Tbl.find e.1 c.chan).isSome, arm := c.arm }
  c.chan.foldl (fun a e => takeChan e.1 e.2 a) s1

/-- Angle tables and bindings. -/
def loadAngle (c : CfgSnap) (s : State) : State :=
  let tabs : Tbl AngTab := c.tab.map fun e => (e.1, { act := e.2.1, sh := e.2.1, src := e.2.2.1, mult := e.2.2.2.1, offset := e.2.2.2.2 })
  { s with angle := { s.angle with tab := tabs, bind := c.bind, swaps := [], copying := [] } }

/-- Legs: their configuration, dead times and compares; the mitten pattern follows (06_legs_pwm.md R163). -/
def loadLegs (c : CfgSnap) (s : State) : State :=
  (List.range 48).foldl
    (fun a n =>
      let x := leg a n
      let v := c.leg.getD n ({}, [])
      let y := { x with cfg := v.1, dtR := v.1.dtRise, dtF := v.1.dtFall, missR := 0, missF := 0, cmpPend := none,
                        cmp := (List.range v.2.length).map fun k => (k, v.2.getD k {}) }
      let z := if x.cfg.phase ≠ v.1.phase ∨ x.cfg.tri ≠ v.1.tri then regrid y a.now else y
      if z = x then a
      else
        let b := setLeg n z a
        if z.mitten ∧ z.hold.isNone then applyPattern n (8 * a.now) b else b) s

/-- Converters, pairs and filter chains. -/
def loadAcq (c : CfgSnap) (s : State) : State :=
  let s1 := { s with pair := (s.pair.filter fun e => (Tbl.find e.1 c.pair).isSome) }
  let s2 := c.pair.foldl (fun (a : State) e =>
    { a with pair := a.pair.put e.1 { pair a e.1 with mode := e.2.1, tol := e.2.2.1, n := e.2.2.2 } }) s1
  let s3 := (List.range 20).foldl
    (fun a n => let v := c.conv.getD n (convReset n).cfg; if (conv a n).cfg = v ∧ (conv a n).cfgPend.isNone then a else takeConv n v a) s2
  let s3a := (List.range 8).foldl (fun a k => if (pair a k).mode = (pair s k).mode then a else pairChanged k a) s3
  let s4 := { s3a with filt := s3a.filt.filter fun e => (Tbl.find e.1 c.filt).isSome }
  c.filt.foldl (fun a e => applyChange e.1 (setFchain e.1 { fchain a e.1 with pend := some (e.2, 0, false) } a)) s4

/-- The Gauntlet: inputs, blanking, choppers, and the reaction table into staging (R449). -/
def loadGauntlet (c : CfgSnap) (s : State) : State :=
  { s with gnt := { s.gnt with enable := c.enable, bt := c.bt, staging := some c.table
                               chop := (List.range 2).map fun k => (k, (c.chop.getD k {}).take (chop s k)) } }

/-- Quads and lanes: a change of reference or role drops the lanes (10_hanel_lanes.md R247). -/
def loadLanes (c : CfgSnap) (s : State) : State :=
  let s1 := (List.range 4).foldl
    (fun a q =>
      if a.lane.quadTbase.testBit q = c.quads.testBit q then a
      else
        let b := (quadLanes q).foldl (fun b n => endInjectionsOn 1 n b) (dropLanes (quadLanes q) 4 a)
        { b with lane := { b.lane with qpllLock := if b.lane.qpllLock.testBit q then b.lane.qpllLock - 2 ^ q else b.lane.qpllLock } }) s
  let s2 := (List.range 16).foldl
    (fun a n =>
      let v := c.lane.getD n {}
      let x := lane a n
      if x.plain = v then a
      else
        let b := if v.role = x.role then a else unsleepShed n (endInjectionsOn 1 n (dropLane n 4 a))
        let y := if v.role = x.role then lane b n else { line := x.line }
        let z := { y with role := v.role, txPol := v.txPol, rxPol := v.rxPol, autoTrain := v.autoTrain, shed := v.shed
                          txAmp := v.txAmp, txPre := v.txPre, txPost := v.txPost, rxEq := v.rxEq, idleAfter := v.idleAfter }
        shedLane n (setLane n z b)) { s1 with lane := { s1.lane with quadTbase := c.quads } }
  (List.range 16).foldl
    (fun a n =>
      let v := c.strand.getD n {}
      let x := strand a n
      if x.plain = v then a
      else recomputeD n (setStrand n { x with dAuto := v.dAuto, autoRejoin := v.autoRejoin, watch := v.watch, d := v.d,
                                              dMargin := v.dMargin, tlmOfs := v.tlmOfs } a)) s2

/-- The partner table: an entry that changes is LISTED anew, one that is not saved goes (12_partners_sessions.md R281, R282). -/
def loadPartners (c : CfgSnap) (s : State) : State :=
  let gone := s.part.entry.keys.filter fun id => (Tbl.find id c.part).isNone
  let s1 := gone.foldl (fun a id => removePartner id a) s
  c.part.foldl
    (fun (a : State) e =>
      if (partner a e.1).plain = e.2 then a
      else
        let b := closeSession e.1 5 a
        let q := { e.2 with state := 1, autoAt := if e.2.autoSession && e.2.type != 1 && pathUp b e.2 then some b.now else none }
        setPartner e.1 q { b with cell := Tbl.del e.1 b.cell }) s1

/-- Ports, domains, GOOSE and sampled values. -/
def loadNet (c : CfgSnap) (s : State) : State :=
  let s1 := (List.range 4).foldl
    (fun a n =>
      let v := c.port.getD n {}
      let x := port a n
      if x.plain = v then a
      else
        let b := if v.mode = x.mode then a else endInjectionsOn 2 n (portLink n false a)
        let y := { port b n with mode := v.mode, prp := v.prp, tc := v.tc, icmp := v.icmp, mac := v.mac, vlan := v.vlan
                                 ipv4 := v.ipv4, etype := v.etype, udpPort := v.udpPort, maxFrame := v.maxFrame }
        prpJudge (n / 2) (setPort n y b)) s
  let s2 := (List.range 2).foldl
    (fun a d => let v := c.dom.getD d {}; if (domain a d).cfg = v then a else configDomain d v a) s1
  let pubs := c.pub.map fun e => if (s.net.pub.getD e.1 {}).plain = e.2 then (e.1, s.net.pub.getD e.1 {}) else e
  let subs := c.sub.map fun e => if (s.net.sub.getD e.1 {}).plain = e.2 then (e.1, s.net.sub.getD e.1 {}) else e
  let fresh (v : SvPub) : SvPub :=
    let at_ := svFirst (svRate s2 v.rate) (ntAt s2 s2.now)
    { v with nextNs := if v.enable then some at_.1 else none, smpCnt := at_.2 }
  let svs := c.sv.map fun e =>
    if (s.net.sv.getD e.1 {}).plain = e.2 then (e.1, s.net.sv.getD e.1 {}) else (e.1, fresh e.2)
  { s2 with net := { s2.net with pub := pubs, sub := subs, sv := svs } }

/-- Pond: a capture that differs is disarmed first (15_pond.md R349, R352). -/
def loadPond (c : CfgSnap) (s : State) : State :=
  if s.pond.cfg = c.pondCfg ∧ s.pond.trig = c.pondTrig then s
  else
    let s1 := pondStop 0 s
    { s1 with pond := { s1.pond with armed := false, trigs := [], log := [], lvl := [], cfg := c.pondCfg, trig := c.pondTrig } }

/-- The twin parameters (14_twin.md R326). -/
def loadTwin (c : CfgSnap) (s : State) : State :=
  if twinParams s.twin = c.twin then s
  else
    let v (k : Nat) : Nat := c.twin.getD k 0
    let on := (v 0).testBit 0
    updReady (linkChanged 14 { s with twin := { s.twin with
      enable := on, takeUnready := (v 0).testBit 1, mirrorMax := v 1, cmpN := v 2, lease := v 3, planH := v 4
      planTol := v 5, cmpDi := v 6, cmpDang := v 7, holder := false, releasing := false, lastIn := none, leaseFrom := none, relTold := none, quietFrom := s.now
      leaseOut := false, noTakeSaid := false, mirror := none, mirrorSeen := false, mirrorAge := 0, applied := [], failRun := 0, checkOn := false
      linkUp := false } })

/-- A cell whose NODE_SET has other fields than before is sent a new one (11_strands_cells.md R258). -/
def loadSets (before s : State) : State :=
  (s.part.entry.filter fun e => e.2.type == 1).foldl
    (fun a e => if nodeSetFrame before e.1 false = nodeSetFrame s e.1 false then a else dueSet e.1 false a) s

/-- A saved configuration is in force. -/
def loadSnap (c : CfgSnap) (s : State) : State :=
  loadSets s (loadTwin c (loadPond c (loadNet c (loadPartners c (loadLanes c (loadGauntlet c (loadAcq c (loadLegs c (loadAngle c
    (loadChans c (loadControl c s)))))))))))

/-- A saved configuration would put a gated block into use (18_timing.md R418). -/
def snapGated (c : CfgSnap) (s : State) : Bool :=
  let g (b : Nat) : Bool := (gateReq s).testBit b
  (c.lane.any fun e => g (e.1 / 4) && e.2.role != 0) || (c.port.any fun e => g (4 + e.1) && e.2.mode != 0) ||
    (List.range 20).any fun n => g ((gateBit 0x1607 n).getD 0) && (c.conv.getD n (convReset n).cfg).timing != 0

/-- OP_SEC_CFG_LOAD (R449): the newest record whose CRC passes; one that would put a gated block into use is ST_NOT_READY
(18_timing.md R418). -/
def execOpSecCfgLoad (r : Req) (s : State) : Out :=
  runOp { code := 0x010B, states := stI } r s fun p s =>
    fourReserved p fun _ =>
      match s.mram.cfg.find? fun c => c.ok with
      | none => if s.mram.cfg.isEmpty then .no .notReady 0 else .no .check 0
      | some c => if c.imageVer / 2 ^ 24 ≠ runningVer s / 2 ^ 24 ∨ snapGated c.snap s then .no .notReady 0 else .done (loadSnap c.snap s)

end Sys2Proof.Machine
end

