-- ==== Sys2Proof/Machine/Filt.lean ====
section
/-! DEFINITION. The filter chains' commands: staging, apply, input words, outputs and status (09_filters.md). -/

namespace Sys2Proof.Machine

open Sys2Proof

/-! ### Staging (R218) -/

/-- OP_FILT_SET_CHAIN (R218, Table 9.1). -/
def execOpFiltSetChain (r : Req) (s : State) : Out :=
  runOp { code := 0x1701, states := stIARTS } r s fun p s =>
    let n := u8 p 0
    let m := u8 p 1
    let fir (v lo hi o : Nat) : Bool × Status × Nat := outOf v (if m = 1 then lo else 0) (if m = 1 then hi else 0) o
    let hb := u8 p 9
    chk [lenIs p 16, outOf n 0 19 0, (decide (2 < m), .badParam, 1), (decide (15 < u8 p 2) || selReserved n (u8 p 2), .badParam, 2),
         fir (u8 p 3) 0 1 3, fir (u16 p 4) 1 512 4, fir (u16 p 6) 1 256 6,
         outOf (u8 p 8) (if m = 2 then 1 else 0) (if m = 2 then 6 else 0) 8,
         (m == 2 && (decide (hb < 7) || decide (63 < hb) || hb % 4 != 3), .badParam, 9), (m != 2 && hb != 0, .range, 9),
         rsv p 10 6] fun _ => .done (setFchain n { fchain s n with stagedHdr := some p } s)

/-- OP_FILT_LOAD_COEF (R218, Table 9.2). -/
def execOpFiltLoadCoef (r : Req) (s : State) : Out :=
  runOp { code := 0x1702, states := stIARTS } r s fun p s =>
    let n := u8 p 0
    let start := u16 p 2
    let k := u16 p 4
    chk [(p.length != 8 + 4 * k, .badLength, 0), outOf n 0 19 0, rsv p 1 1, outOf start 0 511 2, outOf k 1 512 4, rsv p 6 2,
         (decide (512 < start + k), .range, 2)] fun _ =>
      let c := (List.range k).foldl (fun (t : Tbl Int) i => t.put (start + i) (i32 p (8 + 4 * i))) (fchain s n).stagedCoef
      .done (setFchain n { fchain s n with stagedCoef := c } s)

/-- The staged set with the coefficients in use (R224). -/
def stagedSet (x : FChain) (h : Bytes) : FSet :=
  { hdr := h, coef := (List.range (coefCount h)).map fun i => x.stagedCoef.getD i 0 }

/-- OP_FILT_APPLY (R224). -/
def execOpFiltApply (r : Req) (s : State) : Out :=
  runOp { code := 0x1703, states := stIARTS } r s fun p s =>
    let n := u8 p 0
    let fade := u16 p 2
    chk [lenIs p 8, outOf n 0 19 0, rsv p 1 1, outOf fade 0 4096 2] fun _ =>
      let x := fchain s n
      match x.stagedHdr with
      | none => .no .notReady 0
      | some h =>
        let f := stagedSet x h
        let eligible := match x.act with | some a => fadeEligible a f | none => false
        let rt := s.sys.state == .run || s.sys.state == .tripped
        let s1 := setFchain n { x with pend := some (f, fade, rt) } s
        chk [(u32 p 4 != crc32c (h ++ f.coef.flatMap (leI 4)), .check, 0), (fade != 0 && !eligible, .badParam, 2),
             (overBudget (cfNext s1) (pmNow s1) s1, .noResource, 0), (x.fade.isSome, .busy, 0)] fun _ => .yes s1 .accepted 0 []

/-- FILTER_CHANGE_EFFECTIVE (R224, R225): at the next input word, which waits at the chain, or, where the change was
accepted in RUN or TRIPPED, at a step boundary that has not started its step yet. -/
def execFilterChangeEffective (t : Nat) (n : Nat) (s : State) : Out :=
  ev t s fun s =>
    match (fchain s n).pend with
    | some (_, _, true) => if ¬ tbRuns s ∨ s.now % s.sys.tStep ≠ 0 ∨ s.gfm.boundary = s.now then s else applyChange n s
    | some (_, _, false) => if (fchain s n).inq.isEmpty then s else applyChange n s
    | none => s

/-! ### One input word (R216 to R223) -/

/-- Form a fine output where the decimation count is reached (R217, R219, R222, R225, R226): its word, whether it is clamped,
and the chain. -/
def formFine (n inst : Nat) (f : FSet) (x : FChain) : Option (Nat × Bool) × FChain :=
  if x.cnt + 1 < f.mEff then (none, { x with cnt := x.cnt + 1 })
  else
    let vals := x.hist.map Prod.fst
    let j := match x.fade with | some (_, m, k) => if k < m then some (k + 1, m) else none | none => none
    let y := f.apply vals
    let mix : Rat := match x.fade, j with
      | some (old, _), some (k, m) => (1 - (k : Rat) / m) * old.apply vals + (k : Rat) / m * y
      | _, _ => y
    let full := rnd (mix * (if n < 16 then 256 else 1))
    let code := clampI (-8388608) 8388607 full
    let sat := code != full
    let xf := match j with | some (k, m) => decide (k < m) | none => false
    -- output FADE_N is the new set alone, its span too (R222, R226)
    let span := match x.fade with | some (old, _) => if xf then max old.nEff f.nEff else f.nEff | none => f.nEff
    let tags := ((x.hist.take span).map Prod.snd).foldl (fun a b => a ||| b) 0
    let last := match j with | some (k, m) => decide (k = m) | none => false
    let inv := x.invLeft != 0 || tags.testBit 1
    let w := auxWord code f.sel (b2n (sat || tags.testBit 0) + 2 * b2n inv + 4 * b2n xf + 8 * b2n (tags.testBit 3))
    (some (w, sat),
      { x with cnt := 0, invLeft := x.invLeft - 1, fly := x.fly ++ [(if last then 2 else 1, inst, w)],
               fade := match x.fade, j with | some (o, m, _), some (k, _) => some (o, m, k) | z, _ => z })

/-- The fast path at an accepted word (R223): the mean of the newest accepted words, in the layout of Table 8.5 (DEDUCED,
notes/assumptions/42.md). -/
def formFast (n inst code : Int) (ovr : Bool) (sel : Nat) (x : FChain) : FChain :=
  let l := ((code, ovr) :: x.fast).take 8
  let m : Rat := ((l.map Prod.fst).sum : Int) / l.length
  let c := clampI (-32768) 32767 (rnd (if n < 16 then m else m / 256))
  let w := fastWord c x.fastCnt sel (b2n (l.any Prod.snd) + 2 * b2n x.fastFresh)
  { x with fast := l, fastCnt := x.fastCnt + 1, fastFresh := false, fly := x.fly ++ [(0, inst.toNat, w)] }

/-- A chain takes one word into its history (R216). -/
def takeWord (n inst w : Nat) (f : FSet) (x : FChain) : Option (Nat × Bool) × FChain :=
  let raw := if n < 16 then wCode w else wCode24 w
  let accepted := !(wInv w || wChk w)
  let v := if accepted then raw else x.prev
  let keep := max 512 f.nEff
  let y := { x with hist := ((v, w % 16) :: x.hist).take keep, prev := v }
  let y := if accepted then formFast n inst raw (wOvr w) f.sel y else y
  formFine n inst f y

/-- FILTER_INPUT_WORD (R215 to R226): a change that waits for the next input word takes effect first; a chain whose MODE or
whose converter's TIMING is OFF produces no output. -/
def execFilterInputWord (t : Nat) (n : Nat) (s : State) : Out :=
  ev t s fun s0 =>
    match (fchain s0 n).inq with
    | [] => s0
    | (inst, w) :: rest =>
      let s1 := setFchain n { fchain s0 n with inq := rest } s0
      let s := match (fchain s1 n).pend with
        | some (_, _, false) => applyChange n s1
        | _ => s1
      let x := fchain s n
      match x.act with
      | none => s
      | some f =>
        if f.mode = 0 ∨ f.sel ≠ wSel w ∨ (conv s (govern s n)).cfg.timing = 0 then s
        else
          let z := takeWord n inst w f x
          let s2 := setFchain n z.2 s
          match z.1 with
          | some (_, true) => raiseFirst 0x1703 n n [] (bump 0x1704 n 44 s2)
          | _ => s2

/-! ### Delivery (R226, R229, R230) -/

/-- An output is delivered at a tick: what had been delivered before that tick is kept (R229, R230). -/
def FChain.show (t : Nat) (fine : Bool) (w : Nat) (x : FChain) : FChain :=
  let v := x.view
  let good (o : Option Nat) : Option Nat := if wInv w then o else some w
  { x with viewOld := if x.viewAt = some t then x.viewOld else v, viewAt := some t,
           view := if fine then { v with fine := some w, good := good v.good } else { v with fast := some w, fastGood := good v.fastGood } }

/-- FILTER_OUTPUT_DELIVERED (R229): the oldest output formed reaches E0 to E3, Pond and the correlator. -/
def execFilterOutputDelivered (t : Nat) (n : Nat) (s : State) : Out :=
  ev t s fun s =>
    let x := fchain s n
    match x.fly with
    | [] => s
    | (kind, inst, w) :: rest =>
      let x := x.show s.now (kind != 0) w
      if kind = 0 then pondNote 2 n inst w (setFchain n { x with fly := rest } s)
      else
        let y := { x with fly := rest, lastTick := inst, outs := ((inst, w) :: x.outs).take 16,
                          fade := if kind = 2 then none else x.fade }
        let s1 := bump64 0x1704 n 16 1 (setFchain n y s)
        let s2 := if wInv w then bump 0x1704 n 40 s1 else s1
        let s3 := if kind = 2 then raise 0x1702 (det n 0) [] s2 else s2
        let v : Rat := (wCode24 w : Rat) / (if n < 16 then 256 * 32768 else 8388608)
        corrTake 2 n inst v (wOvr w || wInv w || wChk w) (pondNote 1 n inst w s3)

/-- The newest output that a step would use carries INV: the newest fine one, or, before any, the fast path's (R230). -/
def FView.stale (v : FView) : Bool := match v.fine with | some w => wInv w | none => (v.fast.map wInv).getD false

/-- Stale outputs at a step boundary (R230). -/
def staleStep (s : State) : State :=
  s.filt.keys.foldl
    (fun a n =>
      let x := fchain a n
      let st := (viewAt a n).stale
      let a1 := if st = x.stale then a else setFchain n { x with stale := st } a
      if st then bump 0x1704 n 48 a1 else a1) s

/-! ### Status (R232) -/

/-- Load in thousands of multiply-accumulates per second. -/
def kLoad (q : Rat) : Nat := (rnd (q / 1000)).toNat

/-- Ticks that a converter's sequence takes once around. -/
def scanTicks (n : Nat) (c : ConvCfg) : Nat := (if n < 16 then 80 else 160) * c.div * c.dwell * c.seqLen

/-- Words arrive at a chain (Table 9.6): its converter converts its select while TBASE runs, is not calibrating, and a word has
come within two turns of the sequence or a step (DESIGN CHOICE, notes/assumptions/150.md). -/
def arriving (s : State) (n sel : Nat) : Bool :=
  let c := (conv s (govern s n)).cfg
  tbRuns s && !(conv s n).calibrating && c.timing != 0 && (c.used.any fun e => selOf e == sel) &&
    (match (fchain s n).wordAt with | some t => decide (s.now ≤ t + max s.sys.tStep (2 * scanTicks n c)) | none => false)

/-- OP_FILT_GET_STATUS (Tables 9.5, 9.6). -/
def execOpFiltGetStatus (r : Req) (s : State) : Out :=
  runOp { code := 0x1704, states := stIARTS } r s fun p s =>
    oneByte p 19 fun n =>
      let x := fchain s n
      let f := x.act.getD { hdr := [], coef := [] }
      let flag (w : Option Nat) (f : Nat → Bool) : Nat := b2n ((w.map f).getD false)
      let flags := b2n (f.mode != 0 && arriving s n f.sel) + 2 * flag x.view.fast (fun w => !wInv w) + 4 * b2n x.stagedHdr.isSome +
        8 * flag x.view.fine wInv + 16 * b2n x.fade.isSome +
        32 * b2n x.stale + 64 * b2n f.gdUndef + 128 * b2n f.minphase
      let c (o : Nat) : Bytes := le 4 (c32 s 0x1704 n o)
      let left := match x.fade with | some (_, m, k) => m - k | none => 0
      .give s (le 2 flags ++ le 1 f.mode ++ le 1 f.sel ++ le 4 f.groupDelay ++
        le 4 (kLoad (chainLoad (cfNow s) (pmNow s) false s n)) ++ le 8 (c64 s 0x1704 n 16 % 2 ^ 64) ++ le 8 x.lastTick ++
        le 4 (x.view.fine.getD 0) ++ le 4 (x.view.fast.getD 0) ++ c 40 ++ c 44 ++ c 48 ++ le 2 left ++ le 2 0 ++
        le 4 (kLoad (totalLoad (cfNow s) (pmNow s) false s)))

end Sys2Proof.Machine
end

