-- ==== Sys2Proof/Machine/Boundary.lean ====
section
/-! DEFINITION. The outer step: its boundary, its completion and its publish tick (01_architecture.md R13 to R19;
02_grid_forming.md R39 to R43, 18_timing.md R400). -/

namespace Sys2Proof.Machine

open Sys2Proof

/-! ### The boundary (R17) -/

/-- The marks of the step that ends: what is raised once per outer step. -/
def rollMarks (s : State) : State :=
  { s with onceLast := s.once, once := [], part := { s.part with waitedLast := s.part.waitedNow, waitedNow := false } }

/-- Converter and filter configurations that waited for the boundary (08_acquisition.md R195, 09_filters.md R224). -/
def acqBoundary (s : State) : State :=
  let s1 := s.conv.foldl
    (fun a e => match e.2.cfgPend with
      | some (c, none) => takeConv e.1 c a
      | _ => a) s
  s1.filt.foldl
    (fun a e => match e.2.pend with
      | some (_, _, true) => applyChange e.1 a
      | _ => a) s1

/-- The step's own computation in RUN, after what the boundary has measured (R17, R42, R68, R78). -/
def controlBoundary (b : Nat) (jump : Option Rat) (s : State) : State :=
  match s.sys.state with
  | .run =>
    let s1 := bsBoundary b (hoBoundary b (clBoundary b jump s))
    if s1.sys.state ≠ .run then s1
    else
      let dt := tickSec (b - s.gfm.boundary)
      let s2 := injBoundary b s1
      let s3 := injSampled b { s2 with gfm := { s2.gfm with work := some (stepRun s2 b) } }
      -- the step that ends at the boundary of entry was none of RUN
      if dt = 0 ∨ s1.gfm.run.last = b then s3 else s3.chan.keys.foldl (fun a c => servoStep c dt a) s3
  | _ => s

/-- The step of boundary `b` starts on E0 to E3 (DEDUCED, notes/assumptions/16.md); a step before it that is not complete
goes on to its own completion, whose slack is measured too (R19). -/
def startStep (b : Nat) (s : State) : State :=
  { s with gfm := { s.gfm with boundary := b }, grid := { s.grid with seenWork := stepSeen s },
           sys := { s.sys with late := s.sys.late ++ s.sys.stepStart.toList, stepStart := some b, stepDone := none, pubFor := some b } }

/-- The levels that the board applies to the PIO balls at a boundary, where ISL_PIO is sampled (03_grid_events.md R74): the
table has no row for an input PIO, so that they are free (DESIGN CHOICE, notes/assumptions/2.md). -/
def samplePio (s : State) : State :=
  { s with draws := s.draws + 1, balls := { s.balls with pioIn := Config.freeNat s.draws % 2 ^ 32 } }

/-- SPEED is measured at every outer-step boundary (18_timing.md R398): a free value (DESIGN CHOICE, notes/assumptions/2.md). -/
def measureSpeed (s : State) : State :=
  { s with draws := s.draws + 1, clk := { s.clk with speed := Config.freeNat s.draws % 65536 } }

/-- OUTER_STEP_BOUNDARY (R13, R17): ticks that are multiples of T_step, while TBASE runs and E0 to E3 are not halted
(DEDUCED, notes/assumptions/14.md). -/
def execOuterStepBoundary (t : Nat) (s : State) : Out :=
  ev t s fun s =>
    let b := s.now
    if ¬ tbRuns s ∨ s.sys.state = .boot ∨ b % s.sys.tStep ≠ 0 ∨ s.sys.halted % 16 ≠ 0 ∨ s.sys.stepStart = some b ∨
        (s.gfm.boundary = b ∧ 0 < b) then s
    else
      let m := openBoundary b (mirrorBoundary (staleStep (acqBoundary (rollMarks (samplePio s)))))
      measureSpeed (gooseBoundary (startStep b (controlBoundary b m.2 m.1)))

/-! ### Completion (R19, R400) -/

/-- The slack of a step whose publish tick is `pub`, completed at `t`, in ns. -/
def slackNs (pub t : Nat) : Int := clampI (-(2 ^ 31 - 1)) (2 ^ 31 - 1) (rnd ((((pub : Int) - (t : Int) : Int) : Rat) * 5 / 8))

/-- Stamp the slack of a step completed now; MIN_SLACK takes it where it is lower, or after CLEAR_MIN. -/
def stampSlack (b : Nat) (s : State) : State :=
  let x := s.sys
  let v := slackNs (b + x.tPub) s.now
  let low := x.slackFresh || decide (v < x.minSlack)
  { s with sys := { x with lastSlack := v, minSlack := if low then v else x.minSlack, minTick := if low then s.now else x.minTick
                           slackFresh := false, doneAt := s.now } }

/-- OUTER_STEP_COMPLETE (R18, R19, R400; 14_twin.md R340): the oldest step that is not complete completes; the results of
one that completes after its publish tick are discarded. -/
def execOuterStepComplete (t : Nat) (s : State) : Out :=
  ev t s fun s =>
    match s.sys.late, s.sys.stepStart with
    | b :: r, _ => sendMirror b (stampSlack b { s with sys := { s.sys with late := r } })
    | [], none => s
    | [], some b =>
      let s1 := stampSlack b { s with sys := { s.sys with stepStart := none } }
      if s1.sys.pubFor = some b ∧ s1.now ≤ b + s1.sys.tPub then
        sendMirror b (completeRun { s1 with sys := { s1.sys with stepDone := some s1.now },
                                            grid := { s1.grid with seen := s1.grid.seenWork } })
      else sendMirror b s1

/-! ### The publish tick (R18, R19) -/

/-- The results of a completed step are in force. -/
def publishStep (s : State) : State :=
  { s with gfm := { s.gfm with inForce := s.gfm.ready.getD s.gfm.inForce, ready := none }, sys := { s.sys with missRun := 0 } }

/-- A step miss (R19): the references stay, the late results are discarded; the eighth in a row is a class of its own. -/
def missStep (s : State) : State :=
  let s1 := raiseClass 10 0x0002 0 [] (bump 0x3001 0 20 s)
  let n := s.sys.missRun + 1
  let s2 := { s1 with sys := { s1.sys with missRun := n }, gfm := { s1.gfm with work := none, ready := none } }
  injSpoil (if n = 8 then occur 27 0x0002 0 s2 else s2)

/-- What else waits for a publish tick: channel configurations, HOST values and angle tables (02_grid_forming.md R53,
04_brim_engine.md R98, 05_angle_tables_injection.md R124, R127, R129); the forecasts follow (14_twin.md R336). -/
def publishRest (s : State) : State :=
  let s1 := s.chan.foldl (fun a e => match e.2.cfgPend with | some c => takeChan e.1 c a | none => a) s
  let host (m : ChMap) : ChMap := match m.pend with | some v => { m with value := v, pend := none } | none => m
  let s2 := { s1 with gfm := { s1.gfm with map := s1.gfm.map.map fun e => (e.1, host e.2) } }
  let s3 := anglePublish s2
  (s3.chan.filter fun e => e.2.written && e.2.cfg.outType == 5).foldl (fun a e => if chanLive a e.1 then replan e.1 none a else a) s3

/-- PUBLISH_TICK (R18, R19). -/
def execPublishTick (t : Nat) (s : State) : Out :=
  ev t s fun s =>
    match s.sys.pubFor with
    | none => s
    | some b =>
      if ¬ tbRuns s ∨ s.now < b + s.sys.tPub then s
      else
        let s1 := if s.sys.stepDone.isSome then publishStep s else missStep s
        publishRest { s1 with sys := { s1.sys with pubFor := none, stepDone := none } }

end Sys2Proof.Machine
end

