-- ==== Sys2Proof/Machine/Clocks.lean ====
section
/-! DEFINITION. The wellspring list, the timebase PLL, clock outputs, clock gating and a stop of TBASE
(18_timing.md R402 to R422). -/

namespace Sys2Proof.Machine

open Sys2Proof

/-! ### A stop of TBASE (R415) -/

/-- Hold the REFOUT outputs with source TBASE low. -/
def refoutsLow (s : State) : State :=
  { s with clk := { s.clk with refout := s.clk.refout.map fun e => if e.2.src = 1 then (e.1, { e.2 with level := false }) else e } }

/-- No Brim decision runs: words that were to be decided on are dropped. -/
def dropWords (s : State) : State := { s with chan := s.chan.map fun e => (e.1, { e.2 with inq := [] }) }

/-- No outer step is in flight any more. -/
def dropStep (s : State) : State :=
  { s with sys := { s.sys with stepStart := none, late := [], stepDone := none, pubFor := none }
           gfm := { s.gfm with work := none, ready := none, opened := none } }

/-- TBASE stops: 1 CONFIG, 2 LOOP_FAULT (R26, R165, R186, R198, R247, R328, R357); a stop in HOLDOVER leaves it (R412).
Acquisition restarts (R406, R410; DEDUCED, notes/assumptions/119.md). -/
def tbStop (cause : Nat) (s : State) : State :=
  let s1 := raise 0x0307 (det cause 0) [] (sayLeft s)
  let s2 := (List.range 2).foldl (fun a n => chopMitten n a) (disableAll 5 s1)
  let s3 := dropStep (pondSuspend (dropWords (s2.chan.keys.foldl (fun a c => dropPending c a) s2)))
  let s4 := stopCap s3
  let s5 := if s4.sys.state = .run then enterTripped s4 else s4
  let s6 := setTb .off s5
  let s7 := refoutsLow { s6 with clk := { s6.clk with source := 0, holdValid := false, lockedTicks := 0, tripAt := none,
                                                      fromCoast := false, netLock := false } }
  let s8 := (List.range 4).foldl (fun a n => portLink n false a) (refoutsHeld s7)
  let s9 := (bitsOf 4 s8.lane.quadTbase).foldl (fun a q => quadLost q a) s8
  acquire s9

/-! ### OP_CLK_SELECT, OP_CLK_SET_PLL (R406, R410) -/

/-- The offset of the first bad entry of a list: unknown, named twice, or behind a NONE (R406). -/
def listBad (l : List Nat) : Option Nat :=
  (List.range l.length).find? fun i =>
    let x := l.getD i 0
    (i == 0 && x == 0) || (x != 0 && (!srcKnown x || (l.take i).contains x || (l.take i).contains 0))

/-- OP_CLK_SELECT (R406). -/
def execOpClkSelect (r : Req) (s : State) : Out :=
  runOp { code := 0x0301, states := stIAS } r s fun p s =>
    let l := (List.range 4).map (u8 p)
    let x := l.headD 0
    chk [lenIs p 8, ((listBad l).isSome, .badParam, (listBad l).getD 0), rsvBits p 4 2, rsv p 5 3,
         (tbRuns s && !srcReady s x, .notReady, 0)] fun _ =>
      let s1 := { s with clk := { s.clk with list := l, auto := (u8 p 4).testBit 0, revert := (u8 p 4).testBit 1 } }
      .done
        (match s1.clk.tb with
         | .off => acquire s1
         | .acquiring => if firstReady s1 = some s1.clk.source then s1 else reacquire s1
         | _ => if x = s1.clk.source then s1 else switchTo x s1)

/-- OP_CLK_SET_PLL (R410): every accepted write restarts acquisition. -/
def execOpClkSetPll (r : Req) (s : State) : Out :=
  runOp { code := 0x0302, states := stIS } r s fun p s =>
    let khz := u16 p 2
    let bad := if u8 p 0 = 0 then khz != 25000 else decide (khz < 10000) || decide (50000 < khz) || khz % 625 != 0
    chk [lenIs p 16, (decide (1 < u8 p 0), .badParam, 0), rsv p 1 1, (bad, .range, 2), outOf (u16 p 4) 10 250 4,
         outOf (u16 p 6) 1 1000 6, outOf (u16 p 8) 1 1000 8, rsv p 10 6] fun _ =>
      let s1 := { s with clk := { s.clk with xoMode := u8 p 0, xoKhz := khz, tolPpm := u16 p 4, peTh := u16 p 6, fslew := u16 p 8 } }
      .done
        (if tbRuns s1 then tbStop 1 s1
         else reacquire { s1 with clk := { s1.clk with holdValid := false, lockedTicks := 0 } })

/-! ### REFOUT (R416, R417) -/

/-- Nominal frequency of a wellspring source in kHz. -/
def srcKhz (s : State) (src : Nat) : Nat := if src = 1 then s.clk.xoKhz else if src = 2 then 10000 else 156250

/-- The nominal frequency in kHz of a REFOUT source; none where it is unknown while the timebase is OFF (R416). -/
def refKhz (s : State) (src : Nat) : Option Nat :=
  if src = 1 then some 1600000
  else if s.clk.tb = .off then none
  else some (if src = 2 then srcKhz s s.clk.source else 156250)

/-- The frequency limit of a FORMAT in kHz (Table 18.9). -/
def formatKhz (f : Nat) : Nat := match f with | 0 => 800000 | 1 => 400000 | 2 => 200000 | _ => 125000

/-- The output frequency exceeds its FORMAT's limit. -/
def refTooFast (s : State) (src format div : Nat) : Bool :=
  src != 0 && (match refKhz s src with | some k => decide (formatKhz format * div < k) | none => false)

/-- OP_CLK_SET_REFOUT (R416, R417). -/
def execOpClkSetRefout (r : Req) (s : State) : Out :=
  runOp { code := 0x0303, states := stIAS } r s fun p s =>
    let n := u8 p 0
    let src := u8 p 1
    let known := src == 0 || srcKnown src
    chk [lenIs p 8, outOf n 0 3 0, (!known, .badParam, 1), (decide (3 < u8 p 2), .badParam, 2), rsv p 3 1,
         outOf (u16 p 4) 1 0xFFFF 4, rsv p 6 2, (refTooFast s src (u8 p 2) (u16 p 4), .range, 4),
         (src != 0 && (gateReq s).testBit (8 + n), .notReady, 0)] fun _ =>
      writeOf (8 + n) s
        (.done { s with clk := { s.clk with
          refout := s.clk.refout.put n { src := src, format := u8 p 2, div := u16 p 4, heldTo := s.now + 16 } } })

/-- REFOUT_EDGE (R417): a TBASE output rises at each multiple of DIV and falls DIV/2 ticks later, to the fine edge. An output of
another source that is there changes its level, without phase alignment: the fine tick within the edge's tick is a free value
(DESIGN CHOICE, notes/assumptions/2.md; DEDUCED, notes/assumptions/121.md). -/
def execRefoutEdge (t : Nat) (out : Nat) (s : State) : Out :=
  ev t s fun s =>
    match Tbl.find out s.clk.refout with
    | none => s
    | some x =>
      if x.src = 0 ∨ (x.src = 1 ∧ ¬ tbRuns s) ∨ (x.src ≠ 1 ∧ ¬ refSource s x.src) then s
      else if x.src ≠ 1 then
        let e := 8 * s.now + Config.freeNat s.draws % 8
        { s with draws := s.draws + 1, clk := { s.clk with refout := s.clk.refout.put out { x with level := !x.level, edgeAt := e } } }
      else
        let put (l : Bool) (e : Nat) : State :=
          { s with clk := { s.clk with refout := s.clk.refout.put out { x with level := l, edgeAt := e } } }
        if ¬ x.level then (if s.now % x.div = 0 ∧ x.heldTo ≤ s.now then put true (8 * s.now) else s)
        else if x.div / 2 ≤ s.now % x.div then put false (8 * (s.now - s.now % x.div) + 4 * x.div)
        else s

/-! ### Clock gating (R418, R419) -/

/-- A converter has TIMING not OFF, in force or accepted for its update instant (R418). -/
def convUsed (s : State) (n : Nat) : Bool :=
  (conv s n).cfg.timing != 0 || match (conv s n).cfgPend with | some (c, _) => c.timing != 0 | none => false

/-- The block of a gate bit is in use (R418). -/
def blockUsed (s : State) (b : Nat) : Bool :=
  if b < 4 then (quadLanes b).any fun n => (lane s n).role != 0
  else if b < 8 then (port s (b - 4)).mode != 0
  else if b < 12 then (s.clk.refout.getD (b - 8) {}).src != 0
  else if b < 20 then convUsed s (2 * (b - 12)) || convUsed s (2 * (b - 12) + 1)
  else (List.range 4).any fun k => convUsed s (16 + k)

/-- OP_CLK_GATE (R418): ungating acts at once, gating when the accesses in progress have completed (R419; DEDUCED,
notes/assumptions/120.md). -/
def execOpClkGate (r : Req) (s : State) : Out :=
  runOp { code := 0x0304, states := stIAS } r s fun p s =>
    let m := u32 p 0
    chk [lenIs p 4, (m / 2 ^ 21 != 0, .badParam, 0),
         ((List.range 21).any fun b => m.testBit b && !(gateReq s).testBit b && blockUsed s b, .busy, 0)] fun _ =>
      let now := s.clk.gateMask &&& m
      .done { s with clk := { s.clk with gateMask := now, gatePend := if now = m then none else some m } }

/-- CLOCK_GATE_EFFECTIVE (R419). -/
def execClockGateEffective (t : Nat) (s : State) : Out :=
  ev t s fun s =>
    match s.clk.gatePend with
    | some m => { s with clk := { s.clk with gateMask := m, gatePend := none } }
    | none => s

/-! ### Status (R421) -/

/-- Ticks spent in LOCKED since acquisition started (R411). -/
def lockedTotal (s : State) : Nat := s.clk.lockedTicks + (if s.clk.tb = .locked then s.now - s.clk.lockTick else 0)

/-- The control word and the held word at a reading: while LOCKED the loop moves the first and the mean of 60 s the second, and in
RECOVERING the first moves, to free values; otherwise both stand (R409, R411; DESIGN CHOICE, notes/assumptions/2.md). -/
def readWords (s : State) : State :=
  let free (k : Nat) : Int := sgn 32 (Config.freeNat (s.draws + k) % 2 ^ 32)
  match s.clk.tb with
  | .locked => { s with draws := s.draws + 2, clk := { s.clk with word := free 0, held := free 1 } }
  | .recovering => { s with draws := s.draws + 1, clk := { s.clk with word := free 0 } }
  | _ => s

/-- HOLD_AGE in ms; what four bytes show of an age that they cannot hold is a free value (R411; DESIGN CHOICE,
notes/assumptions/190.md). -/
def holdAge (s : State) : Nat :=
  let a := (s.now - s.clk.holdSince) / 1600000
  if s.clk.tb ≠ .holdover then 0 else if a < 2 ^ 32 then a else Config.freeNat s.draws % 2 ^ 32

/-- OP_CLK_GET_STATUS (R421): what the device measures of the frequency and phase of its loop is free (DESIGN CHOICE,
notes/assumptions/2.md). -/
def execOpClkGetStatus (r : Req) (s : State) : Out :=
  runOp { code := 0x0305, states := stIARTS } r s fun p s =>
    fourReserved p fun _ =>
      let ferr := drawNat (readWords s)
      let phase := drawNat ferr.2
      let s1 := phase.2
      let c := s1.clk
      .give s1
        (le 4 (hwClkstat s1) ++ c.list.flatMap (le 1) ++ le 2 c.speed ++ le 1 (b2n c.auto + 2 * b2n c.revert) ++ le 1 0 ++
          le 4 (if c.tb = .off then 0 else ferr.1) ++ leI 4 (if c.holdValid then c.held - c.word else 0) ++
          le 4 phase.1 ++ le 8 c.lockTick ++
          le 4 (holdAge s1) ++
          le 4 (min 0xFFFFFFFF (lockedTotal s1 / 1600000)) ++ le 4 (gateReq s1) ++ le 4 (c32 s1 0x0305 0 48) ++
          le 4 (c32 s1 0x0305 0 52) ++ le 4 (c32 s1 0x0305 0 56) ++ le 4 (c32 s1 0x0305 0 60))

/-! ### What the clock monitor and the loop see -/

/-- Ticks of 2^(14+k) cycles of the XO, less the 1000 ppm that XO and TBASE may differ by (R404, Table 18.4; DESIGN CHOICE,
notes/assumptions/191.md). -/
def settleTicks (s : State) : Nat := 2 ^ (14 + s.clk.oscSet) * 1600000 / s.clk.xoKhz * 999 / 1000

/-- XO_SETTLE_DONE (R404): the running count comes to its end. -/
def execXoSettleDone (s : State) : Out :=
  ev0 s fun s =>
    if s.pwr.inReset ∨ ¬ s.clk.xoSettling ∨ ¬ due s (s.clk.xoFrom + settleTicks s) then s
    else { s with clk := { s.clk with xoSettling := false, xoSettled := true } }

/-- SOURCE_READY (R403). What the monitor sees of a source's edges is the environment's; the settle delay, the path and
TBASE for a SYNCE source are the device's. Of an XO that has not settled it tells the first edge, or the return, and the settle
count starts (R404; DESIGN CHOICE, notes/assumptions/191.md). -/
def execSourceReady (t : Nat) (src : Nat) (s : State) : Out :=
  ev t s fun s =>
    if s.pwr.inReset ∨ ¬ srcKnown src ∨ srcReady s src ∨ ¬ srcPath s src ∨ (src / 16 = 1 ∧ ¬ tbRuns s) then s
    else if src = 1 ∧ ¬ s.clk.xoSettled then
      if s.clk.xoSettling then s else { s with clk := { s.clk with xoSettling := true, xoFrom := s.now } }
    else sourceGained src s

/-- SOURCE_LOSS (R403): no count runs for an absent XO, and it settles anew after its return (R404). -/
def execSourceLoss (t : Nat) (src : Nat) (cause : Nat) (s : State) : Out :=
  ev t s fun s =>
    if s.pwr.inReset ∨ ¬ srcKnown src ∨ cause < 1 ∨ 3 < cause ∨ (cause = 3 ∧ src < 0x10) then s
    else
      let s1 := if src = 1 ∧ cause = 1 then { s with clk := { s.clk with xoSettled := false, xoSettling := false } } else s
      sourceLost src cause s1

/-- TB_LOCK_DECLARED (R409): TBASE runs from here on; what waited for it resumes (R198, R357; DEDUCED,
notes/assumptions/122.md). -/
def execTbLockDeclared (s : State) : Out :=
  ev0 s fun s =>
    if s.clk.tb ≠ .acquiring then s
    else
      let s1 := setTb .locked { s with clk := { s.clk with everRan := true, netLock := true } }
      pondResume (tbaseInv (raise 0x0301 (det s1.clk.source 0) [] s1))

/-- PHASE_TRIP (R409). -/
def execPhaseTrip (t : Nat) (s : State) : Out :=
  ev t s fun s => if s.clk.tb = .locked ∨ s.clk.tb = .recovering then holdOver true (bump 0x0305 0 56 s) else s

/-- HOLD_VALID_SET (R411): 60 s of LOCKED since acquisition last started; the held word is their mean. -/
def execHoldValidSet (t : Nat) (s : State) : Out :=
  ev t s fun s =>
    if s.clk.tb = .locked ∧ msT 60000 ≤ lockedTotal s then
      let s1 := readWords s
      { s1 with clk := { s1.clk with holdValid := true } }
    else s

/-- RECOVERING_LOCKED (Table 18.6): within 0.1 ppm for 100 ms. -/
def execRecoveringLocked (t : Nat) (s : State) : Out :=
  ev t s fun s =>
    if s.clk.tb = .recovering ∧ s.clk.recSince + msT 100 ≤ s.now then
      let s1 := setTb .locked { s with clk := { s.clk with fromCoast := false } }
      raise 0x0301 (det s1.clk.source 0) [] s1
    else s

/-- PHASE_TRIP_RECOVERY (R412): the source has stayed READY for 10 ms since the trip. -/
def execPhaseTripRecovery (t : Nat) (s : State) : Out :=
  ev t s fun s =>
    match s.clk.tripAt, Tbl.find s.clk.source s.clk.ready with
    | some at_, some since =>
      if (s.clk.tb = .holdover ∨ s.clk.tb = .coastLow) ∧ since ≤ at_ ∧ at_ + msT 10 ≤ s.now then
        enterRecovering s.clk.source s
      else s
    | _, _ => s

/-- WELLSPRING_REVERT (R407): an entry ahead of the present wellspring has stayed READY for 10 s (DEDUCED,
notes/assumptions/117.md). -/
def execWellspringRevert (t : Nat) (s : State) : Out :=
  ev t s fun s =>
    let ahead := s.clk.list.takeWhile fun x => x != s.clk.source
    let long (x : Nat) : Bool := match Tbl.find x s.clk.ready with | some a => decide (a + msT 10000 ≤ s.now) | none => false
    match (if tbRuns s ∧ s.clk.auto ∧ s.clk.revert then ahead.find? (fun x => x != 0 && long x) else none) with
    | some x => switchTo x s
    | none => s

/-- LOOP_FAULT_STOP (R415). -/
def execLoopFaultStop (t : Nat) (s : State) : Out :=
  ev t s fun s => if s.clk.tb = .locked ∨ s.clk.tb = .recovering then tbStop 2 s else s

end Sys2Proof.Machine
end

