-- ==== Sys2Proof/Machine/Grid.lean ====
section
/-! DEFINITION. The grid-event opcodes and their time events (03_grid_events.md). -/

namespace Sys2Proof.Machine

open Sys2Proof

/-! ### Parameters (R62, R63) -/

/-- OP_GRID_SET_PARAM. -/
def execOpGridSetParam (r : Req) (s : State) : Out :=
  runOp { code := 0x1101, states := stIARTS } r s fun p s =>
    match setParams true gridTable s.grid.par p s with
    | .error (st, d) => .no st d
    | .ok x => .done { s with grid := { s.grid with par := x } }

/-- The first relation of R63 that fails. -/
def gridRelation (x : PSet) : Option Nat :=
  let v (id : Nat) : Int := x.st gridTable id
  if v 0x01 < v 0x02 then some 0x02 else if v 0x05 < v 0x04 + 2684354 then some 0x05 else none

/-- OP_GRID_COMMIT (R63, R41). -/
def execOpGridCommit (r : Req) (s : State) : Out :=
  runOp { code := 0x1102, states := stIARTS } r s fun p s =>
    match lateStruct gridTable s.grid.par s with
    | some id => .no .badState id
    | none =>
      chk [lenIs p 4, rsv p 0 4, (hoBlending s, .busy, 0),
           ((gridRelation s.grid.par).isSome, .range, (gridRelation s.grid.par).getD 0)]
        fun _ => .yes { s with grid := { s.grid with par := commitSet s.grid.par } } .accepted 0 []

/-- OP_GRID_DISCARD. -/
def execOpGridDiscard (r : Req) (s : State) : Out :=
  runOp { code := 0x1103, states := stIARTS } r s fun p s =>
    fourReserved p fun _ => .done { s with grid := { s.grid with par := discardSet s.grid.par } }

/-- OP_GRID_GET_PARAM. -/
def execOpGridGetParam (r : Req) (s : State) : Out :=
  runOp { code := 0x1104, states := stIARTS } r s fun p s =>
    chk [lenIs p 4, rsv p 2 2, ((parOf gridTable (u16 p 0)).isNone, .badParam, 0)] fun _ =>
      .give s (paramReply gridTable s.grid.par (u16 p 0))

/-! ### Envelopes (R65) -/

/-- Level k of an envelope payload is outside its range. -/
def envLevelBad (s : State) (p : Bytes) (k : Nat) : Bool :=
  let l : Int := u32 p (8 + 8 * k)
  let f : Int := s.gfm.par.tg gfmTable 0x03
  let ten : Int := 10 * 2 ^ 20
  match u8 p 0 with
  | 0 => decide (2 ^ 27 < l)
  | 1 => decide (l < 2 ^ 27) || decide (2 ^ 28 < l)
  | 2 => decide (l < f - ten) || decide (f < l)
  | _ => decide (l < f) || decide (f + ten < l)

/-- Point k breaks the order of levels or durations against the point before it. -/
def envOrderBad (p : Bytes) (k : Nat) : Bool :=
  let l := u32 p (8 + 8 * k)
  let m := u32 p (8 * k)
  k != 0 && ((if u8 p 0 % 2 = 0 then decide (m ≤ l) else decide (l ≤ m)) || decide (u32 p (8 * k - 4) < u32 p (4 + 8 * k)))

/-- OP_GRID_SET_ENV: a new envelope starts with its timers at zero. -/
def execOpGridSetEnv (r : Req) (s : State) : Out :=
  runOp { code := 0x1105, states := stIA } r s fun p s =>
    let n := u8 p 1
    let e := u8 p 0
    let level := firstBad n (envLevelBad s p)
    let order := firstBad n (envOrderBad p)
    chk [lenIs p (4 + 8 * n), (decide (3 < e), .badParam, 0), outOf n 0 16 1, rsv p 2 2, (level.isSome, .range, level.getD 0),
         (order.isSome, .badParam, order.getD 0)] fun _ =>
      let pts := (List.range n).map fun k => (u32 p (4 + 8 * k), u32 p (8 + 8 * k))
      .done { s with grid := { s.grid with env := s.grid.env.put e pts, timer := s.grid.timer.filter fun x => x.1 / 16 != e } }

/-! ### GF/CL, synchronising, islanding -/

/-- OP_GRID_CL_RELEASE (R70): a reaction that no boundary has taken up yet is released with its hold (DESIGN CHOICE,
notes/assumptions/140.md). -/
def execOpGridClRelease (r : Req) (s : State) : Out :=
  runOp { code := 0x1106, states := stR } r s fun p s =>
    fourReserved p fun _ => .done { s with grid := { s.grid with clHold := false }, gnt := { s.gnt with clmPend := false } }

/-- OP_GRID_MAP_SYNC (R75). -/
def execOpGridMapSync (r : Req) (s : State) : Out :=
  runOp { code := 0x1107, states := stIA } r s fun p s =>
    chk [lenIs p 4, outOf (u8 p 0) 0 19 0, outOf (u8 p 1) 0 19 1, outOf (u8 p 2) 0 19 2, rsv p 3 1] fun _ =>
      .done { s with grid := { s.grid with sync := some (u8 p 0, u8 p 1, u8 p 2) }, gfm := { s.gfm with far := {} } }

/-- START is not possible now (R76). -/
def syncBarred (s : State) : Bool := s.sys.mode != .gf || s.grid.sync.isNone

/-- OP_GRID_SYNC with START (DESIGN CHOICE, notes/assumptions/189.md). -/
def execOpGridSyncStart (r : Req) (s : State) : Out :=
  runOp { code := 0x1108, states := stR } r s fun p s =>
    chk [(syncBarred s, .badState, 0), lenIs p 4, (u8 p 0 != 1, .badParam, 0), rsv p 1 3] fun _ =>
      .done (if s.gfm.run.syncRun then s else startSync s)

/-- OP_GRID_SYNC with STOP (17_opcodes.md R391). -/
def execOpGridSyncStop (r : Req) (s : State) : Out :=
  runOp { code := 0x1108, states := stR } r s fun p s =>
    chk [lenIs p 4, (u8 p 0 != 0, .badParam, 0), rsv p 1 3] fun _ => .done (if s.gfm.run.syncRun then stopSync s else s)

/-- OP_GRID_ISL_CLEAR (R74; 17_opcodes.md R391). -/
def execOpGridIslClear (r : Req) (s : State) : Out :=
  runOp { code := 0x1109, states := stIARTS } r s fun p s =>
    chk [lenIs p 4, rsv p 0 4, ((ep s 0x14).floor.toNat % 4 != 0, .refused, 0)] fun _ =>
      .done (if s.grid.island then raise 0x110D 0 [] { s with grid := { s.grid with island := false } } else s)

/-! ### Hand-overs (R77 to R80) -/

/-- The hand-over of Table 3.5 that a MODE code asks for in the present mode. -/
def hoPair (s : State) (code : Nat) : Option (GridMode × GridMode) :=
  match s.sys.mode, code with
  | .gf, 3 => some (.gf, .gfl)
  | .gfl, 1 => some (.gfl, .gf)
  | .bs, 1 => some (.bs, .gf)
  | _, _ => none

def modeCodeOk (c : Nat) : Bool := c == 1 || c == 3 || c == 4

/-- Request a hand-over, by an opcode or as part of a group command (R78): the refusal, or the state (DESIGN CHOICE,
notes/assumptions/188.md). -/
def requestMode (code : Nat) (owed : Option Owed) (s : State) : Except (Status × Nat) State :=
  match hoPair s code with
  | none => .error (.badState, 0)
  | some (a, b) =>
    if s.gfm.run.ho.isSome then .error (.busy, 0)
    else
      let h : HandOver := { from_ := a, target := b, owed := owed, since := s.now }
      match hoCheck s a b s.now with
      | none => .ok (injAbort 2 (updRun (fun r => { r with ho := some { h with passed := true, owed := none } }) s))
      | some d =>
        if epTicks s 0x0E = 0 then .error (.refused, d)
        else .ok (injAbort 2 (raise 0x110F 0 [] (updRun (fun r => { r with ho := some h }) s)))

/-- The hand-over has passed its check. -/
def hoPassed (s : State) : Bool := match s.gfm.run.ho with | some h => h.passed | none => false

/-- OP_GRID_SET_MODE (R78, R79): ST_ACCEPTED once the check has passed, which it may do later (DEDUCED,
notes/assumptions/127.md). -/
def execOpGridSetMode (r : Req) (s : State) : Out :=
  runOp { code := 0x110A, states := stR } r s fun p s =>
    chk [(decide (1 ≤ p.length) && modeCodeOk (u8 p 0) && (hoPair s (u8 p 0)).isNone, .badState, 0), lenIs p 4,
         (!modeCodeOk (u8 p 0), .badParam, 0), rsv p 1 3] fun _ =>
      match requestMode (u8 p 0) (some (owedTo r 0x110A)) s with
      | .error (st, d) => .no st d
      | .ok s1 => if hoPassed s1 then .yes s1 .accepted 0 [] else .later s1

/-! ### Black-start groups and programs (R87, R89) -/

/-- Partner ids that the groups would name with group g redefined. -/
def bsPeers (s : State) (g : Nat) (ids : List Nat) : List Nat :=
  (ids ++ (s.grid.bsGroup.filter fun e => e.1 != g).flatMap Prod.snd).dedup

/-- OP_GRID_BS_GROUP. An id that the list names twice is one peer (DESIGN CHOICE, notes/assumptions/159.md). -/
def execOpGridBsGroup (r : Req) (s : State) : Out :=
  runOp { code := 0x110B, states := stIA, v2 := false } r s fun p s =>
    let n := u16 p 2
    let id (k : Nat) : Nat := u16 p (4 + 2 * k)
    let bad := firstBad n fun k => decide (4096 ≤ id k) || (partner s (id k)).type != 3
    let ids := (List.range n).map id
    chk [lenIs p (4 + 2 * n), outOf (u8 p 0) 0 7 0, rsv p 1 1, outOf n 1 256 2, (bad.isSome, .badParam, bad.getD 0),
         (decide (256 < (bsPeers s (u8 p 0) ids).length), .range, 2)] fun _ =>
      .done { s with grid := { s.grid with bsGroup := s.grid.bsGroup.put (u8 p 0) ids.dedup } }

/-- Step k of an OP_GRID_BS_LOAD payload (Table 3.6). -/
def bsStepAt (p : Bytes) (k : Nat) : BsStep :=
  let o := 4 + 16 * k
  { action := u8 p o, group := u8 p (o + 1), minMembers := u16 p (o + 2), timeout := u32 p (o + 4), arg0 := u32 p (o + 8),
    arg1 := u32 p (o + 12) }

/-- Why step k is refused (DESIGN CHOICE, notes/assumptions/185.md). -/
def bsStepBad (s : State) (x : BsStep) : Option Status :=
  let ids := s.grid.bsGroup.getD x.group []
  if 7 < x.action then some .badParam
  else if x.group ≠ 0xFF ∧ (7 < x.group ∨ ids = []) then some .badParam
  else if x.action = 4 ∧ x.group = 0xFF then some .badParam
  else if x.timeout < 1000 ∨ 600000000 < x.timeout then some .range
  else if x.minMembers > (if x.group = 0xFF then 0 else ids.length) then some .range
  else if x.action = 1 ∧ x.arg1 ≠ 0 then some .badParam
  else if x.action = 3 ∧ bits x.arg0 30 5 ≠ 0 then some .badParam
  else none

/-- OP_GRID_BS_LOAD. -/
def execOpGridBsLoad (r : Req) (s : State) : Out :=
  runOp { code := 0x110C, states := stIA, v2 := false } r s fun p s =>
    let n := u8 p 0
    let bad := firstBad n fun k => (bsStepBad s (bsStepAt p k)).isSome
    chk [lenIs p (4 + 16 * n), outOf n 1 32 0, rsv p 1 3,
         (bad.isSome, (bsStepBad s (bsStepAt p (bad.getD 0))).getD .badParam, bad.getD 0)] fun _ =>
      .done { s with grid := { s.grid with bsProg := (List.range n).map (bsStepAt p) } }

/-- The program waits at a WAIT_HOST step. -/
def atWaitHost (s : State) : Bool :=
  match s.grid.bs with
  | some b => !b.halted && b.begun && (bsStepOf s b).action == 6
  | none => false

/-- OP_GRID_BS_CONTINUE with an action, its condition and its effect (17_opcodes.md R391). -/
def bsContinue (action : Nat) (r : Req) (s : State) (ok : State → Bool) (f : BsRun → State → State) : Out :=
  runOp { code := 0x110D, states := stR, v2 := false } r s fun p s =>
    chk [lenIs p 4, (u8 p 0 != action, .badParam, 0), rsv p 1 3, (!ok s, .refused, 0)] fun _ =>
      match s.grid.bs with
      | some b => .done (f b s)
      | none => .no .refused 0

/-- PROCEED completes a WAIT_HOST step; one that is paused completes when the pause ends (R85). -/
def execOpGridBsContinueProceed (r : Req) (s : State) : Out :=
  bsContinue 0 r s atWaitHost fun b s => if bsPaused s then setBs { b with proceed := true } s else bsAdvance [] s

def execOpGridBsContinueRetry (r : Req) (s : State) : Out := bsContinue 1 r s bsHalted fun b s => setBs { step := b.step } s

def execOpGridBsContinueSkip (r : Req) (s : State) : Out := bsContinue 2 r s bsHalted fun b s => setBs { step := b.step + 1 } s

/-- OP_GRID_BS_ABORT (R89). -/
def execOpGridBsAbort (r : Req) (s : State) : Out :=
  runOp { code := 0x110E, states := stR, v2 := false } r s fun p s =>
    chk [lenIs p 4, rsv p 0 4, (s.grid.bs.isNone, .refused, 0)] fun _ => .done (bsEnd s)

/-! ### State (R92, Tables 3.9 and 3.10) -/

/-- The reply of OP_GRID_GET_STATE after STATUS and DETAIL (R92): the last completed step, and CL_HOLD as it stands. -/
def gridStateReply (s : State) : Bytes :=
  let e := if observed s then (if s.sys.state = .run then s.grid.seen else s.grid.seen.outside) else {}
  le 8 (stateTick s) ++ le 4 (e.flags + 16 * b2n s.grid.clHold) ++ le 1 e.clCause ++ le 1 e.bsStep ++ le 1 e.lambda ++ le 1 0 ++
    leI 4 e.delta ++ leI 4 e.jump ++ fieldI 0 4 (rnd (e.rocof * 2 ^ 20)) ++ leI 4 (puCode e.vMin) ++ leI 4 (puCode e.vMax)

def execOpGridGetState (r : Req) (s : State) : Out :=
  runOp { code := 0x110F, states := stIARTS } r s fun p s => fourReserved p fun _ => .give s (gridStateReply s)

/-! ### Time events -/

/-- GF/CL is left once the exit conditions have held for CL_EXIT_T; what has been measured and taken since the last completed
step counts as well (R70). -/
def execGfClExit (t : Nat) (s : State) : Out :=
  ev t s fun s =>
    match s.gfm.run.exitSince with
    | some e =>
      if s.sys.mode = .gfCl ∧ s.gfm.run.ho.isNone ∧ ¬ s.grid.clHold ∧ epPu s 0x05 ≤ s.gfm.vLineMin ∧ due s (e + epTicks s 0x07) then
        raise 0x1103 0 [] (beginBlend { from_ := .gfCl, target := .gf } s.now (updRun (fun r => { r with exitSince := none }) s))
      else s
    | none => s

/-- GF/CL, or the limiter in BS, has lasted CL_MAX_T (R71, R85). -/
def execEvGridClLong (t : Nat) (s : State) : Out :=
  ev t s fun s =>
    let r := s.gfm.run
    let from_ := if s.sys.mode = .gfCl then some r.clSince else if s.sys.mode = .bs then r.limSince else none
    match from_ with
    | some x =>
      if ¬ r.clLong ∧ due s (x + epTicks s 0x08) then raiseClass 13 0x1104 0 [] (updRun (fun r => { r with clLong := true }) s) else s
    | none => s

def envTimer (s : State) (env point : Nat) : EnvTimer := s.grid.timer.getD (16 * env + point) {}

def setEnvTimer (env point : Nat) (x : EnvTimer) (s : State) : State :=
  { s with grid := { s.grid with timer := s.grid.timer.put (16 * env + point) x } }

/-- A point is exceeded (R66, R67). -/
def execEnvelopePointExceeded (t : Nat) (env point : Nat) (s : State) : Out :=
  ev t s fun s =>
    let x := envTimer s env point
    match (s.grid.env.getD env []).drop point with
    | (dur, _) :: _ =>
      if env < 4 ∧ observed s ∧ usT dur < x.t ∧ ¬ x.said then
        raiseClass (15 + env) (0x1107 + env) point [] (setEnvTimer env point { x with said := true } s)
      else s
    | [] => s

/-- A timer returns to zero after ENV_RESET_T on the right side (R66). -/
def execEnvelopeTimerReset (t : Nat) (env point : Nat) (s : State) : Out :=
  ev t s fun s =>
    let x := envTimer s env point
    match x.okSince with
    | some o => if due s (o + epTicks s 0x13) then setEnvTimer env point { x with t := 0, said := false } s else s
    | none => s

/-- λ has reached 1: the hand-over is complete (R78). Limited steps of the law before it do not count toward CL_ENTRY_N
(DESIGN CHOICE, notes/assumptions/157.md). -/
def execHandoverBlendDone (t : Nat) (s : State) : Out :=
  ev t s fun s =>
    match s.gfm.run.ho with
    | none => s
    | some h =>
      if h.blending ∧ 1 ≤ h.lambda then
        let f (r : Run) : Run :=
          match r.ho with
          | some g => { r with law := g.inLaw, ho := none, clCause := 0, resync := false, exitSince := none, gflP := g.inLaw.pRef,
                               gflQ := g.inLaw.qRef, gflRamp := false, gflLostSaid := false, clLong := false, limSince := none,
                               limRun := 0, bsRun := false, modeSince := s.now }
          | none => r
        let s1 := updRun f { s with sys := { s.sys with mode := h.target } }
        raise 0x1101 (det h.target.code h.from_.code) (le 8 s.gfm.run.last) s1
      else s

/-- HO_TO has passed without a passing check (R78). -/
def execHandoverPendingTimeout (t : Nat) (s : State) : Out :=
  ev t s fun s =>
    match s.gfm.run.ho with
    | none => s
    | some h =>
      if ¬ h.blending ∧ ¬ h.passed ∧ due s (h.since + epTicks s 0x0E) then
        let d := (hoCheck s h.from_ h.target s.now).getD 0
        let s1 := updRun (fun r => { r with ho := none }) s
        raise 0x1110 0 [] (match h.owed with | some w => answer w .refused d [] s1 | none => s1)
      else s

/-- The hand-over to GF that GFL_LOSS_ACT = GF makes without a check; one that is pending takes its place and is answered with
it (R81; DESIGN CHOICE, notes/assumptions/144.md). -/
def lossHandOver (ho : Option HandOver) : HandOver :=
  match ho with
  | some h => if h.blending then h else { h with passed := true, loss := true }
  | none => { from_ := .gfl, target := .gf, passed := true, loss := true }

/-- obs_lock has been false in GFL for GFL_LOSS_T (R81); the hand-over it requests is an abort cause of a running injection
(05_angle_tables_injection.md R135). -/
def execEvGridGflLost (t : Nat) (s : State) : Out :=
  ev t s fun s =>
    let r := s.gfm.run
    let o := s.gfm.obs
    let since := max r.modeSince (o.lostSince.getD r.modeSince)
    if s.sys.mode = .gfl ∧ ¬ o.lock ∧ ¬ r.gflLostSaid ∧ due s (since + epTicks s 0x1B) then
      let s1 := updRun (fun r => { r with gflLostSaid := true }) s
      let s2 := if ep s 0x1C = 1 then injAbort 2 (updRun (fun r => { r with ho := some (lossHandOver r.ho) }) s1) else s1
      raiseClass 21 0x1112 0 [] s2
    else s

/-- The synchronising windows have held for SYNC_T (R76); a CLOSE step that waits for it starts its pulse. -/
def execEvGridSyncOk (t : Nat) (s : State) : Out :=
  ev t s fun s =>
    match s.gfm.run.syncSince with
    | none => s
    | some x =>
      if s.gfm.run.syncRun ∧ ¬ s.gfm.run.syncOkSaid ∧ due s (x + epTicks s 0x19) then
        let s1 := raise 0x110E 0 [] (updRun (fun r => { r with syncOkSaid := true, syncPerm := true }) s)
        match s1.grid.bs with
        | some b =>
          let y := bsStepOf s1 b
          if b.begun ∧ ¬ b.halted ∧ y.action = 3 ∧ b.pulseTo.isNone then bsPulse b y s1 else s1
        | none => s1
      else s

/-- |θ_far − θ_g| ≤ 0.1° has held for 100 ms: the synchroniser stops (R76). -/
def execSyncBreakerClosed (t : Nat) (s : State) : Out :=
  ev t s fun s =>
    match s.gfm.run.closeSince with
    | some x => if s.gfm.run.syncRun ∧ due s (x + msT 100) then stopSync s else s
    | none => s

def execBsStepStart (t : Nat) (s : State) : Out := ev t s bsBegin

def execBsStepComplete (t : Nat) (s : State) : Out := ev t s (bsTryComplete none)

/-- A step's TIMEOUT passes (R89). -/
def execBsStepTimeout (t : Nat) (s : State) : Out :=
  ev t s fun s =>
    match s.grid.bs with
    | some b => if b.begun ∧ ¬ b.halted ∧ due s (b.started + usT (bsStepOf s b).timeout) then bsFail .timeout s else s
    | none => s

/-- A CLOSE pulse ends (R87; 22_balls.md R469). -/
def execBsClosePulseEnd (t : Nat) (s : State) : Out :=
  ev t s fun s =>
    let close := s.balls.close.filter fun e => !due s e.2
    bsTryComplete (some 3) { s with balls := { s.balls with close := close } }

/-- The condition of a WAIT_V step has held for ARG1 (R87). -/
def execBsWaitVHeld (t : Nat) (s : State) : Out := ev t s (bsTryComplete (some 2))

end Sys2Proof.Machine
end

