-- ==== Sys2Proof/Machine/GroupCmd.lean ====
section
/-! DEFINITION. Group commands: the lead's request, phases and reply, and the member's prepare, commit, cancel and
execution (12_partners_sessions.md R295 to R300, 17_opcodes.md R392). -/

namespace Sys2Proof.Machine

open Sys2Proof

/-! ### Inner packets (Tables 12.5, 12.6) -/

/-- Cut a byte string into exactly `n` packets that fill it. -/
def splitPackets : Nat → Bytes → Option (List Bytes)
  | 0, b => if b.isEmpty then some [] else none
  | n + 1, b =>
    let l := 20 + u16 b 10
    if b.length < l then none else (splitPackets n (b.drop l)).map fun r => b.take l :: r

/-- Opcodes allowed in a group command (Table 12.6). -/
def groupOpcode (c : Nat) : Bool := [0x0008, 0x0009, 0x110A, 0x1001, 0x1101, 0x1007].contains c

/-- Checks 1 to 5 of Table 16.3 and the LAST rule on an inner packet. -/
def innerHeader (b : Bytes) : Option Status :=
  let flags := u8 b 1
  if crc16 (b.take 14) ≠ u16 b 14 then some .check
  else if 4080 < u16 b 10 then some .badLength
  else if crc32c (b.take (b.length - 4)) ≠ u32 b (b.length - 4) then some .check
  else if u8 b 0 / 16 ≠ 2 ∧ u8 b 0 / 16 ≠ 3 then some .version
  else if bits flags 7 4 ≠ 0 ∨ flags.testBit 1 ∨ bits (u16 b 12) 15 12 ≠ 0 ∨ ¬ flags.testBit 2 then some .badParam
  else if ¬ groupOpcode (u16 b 2) then some .badOpcode
  else none

/-- Run checks in order, then go on. -/
def orFail (l : List (Bool × Status × Nat)) (k : Unit → Trial) : Trial :=
  match l.find? fun c => c.1 with
  | some (_, st, d) => .error (st, d)
  | none => k ()

/-- A state opcode inside a group command: a standby refuses it (14_twin.md R341). -/
def innerState (code : Nat) (p : Bytes) (s : State) (f : State → Trial) : Trial :=
  if follows s then .error (.refused, 1)
  else match f s with
    | .error e => .error e
    | .ok s1 => .ok (forwardOp code p s1)

/-- Check one inner packet and execute it (R298, R299). `dry` only assumes its execution; `since` is how long ago in ns
the execute-at was. -/
def innerExec (dry : Bool) (org : Nat) (since : Rat) (code : Nat) (p : Bytes) (s : State) : Trial :=
  match code with
  | 0x0008 =>
    orFail [(s.sys.state != .armed, .badState, 0), lenIs p 4, (!runModeOk (u8 p 0), .badParam, 0), rsv p 1 3] fun _ =>
      innerState code p s fun s =>
        let mode := modeOf (u8 p 0)
        match doRun mode none s with
        | .error e => .error e
        | .ok _ =>
          if dry then .ok { s with sys := { s.sys with state := .run, mode := mode } }
          else .ok (enterRun mode s.gfm.obs.lock (some since) s)
  | 0x0009 =>
    orFail [(s.sys.state != .run, .badState, 0), lenIs p 4, outOf (u32 p 0) 0 1000 0] fun _ =>
      innerState code p s fun s => if dry && !transBusy s then .ok { s with sys := { s.sys with state := .armed } } else doStop (u32 p 0) s
  | 0x110A =>
    orFail [(s.sys.state != .run || (decide (1 ≤ p.length) && modeCodeOk (u8 p 0) && (hoPair s (u8 p 0)).isNone), .badState, 0),
            lenIs p 4, (!modeCodeOk (u8 p 0), .badParam, 0), rsv p 1 3] fun _ => requestMode (u8 p 0) none s
  | 0x1001 =>
    match setParams false gfmTable s.gfm.par p s with
    | .error e => .error e
    | .ok x =>
      let y := if dry then x else s.gfm.par
      match lateStruct gfmTable y s with
      | some id => .error (.badState, id)
      | none =>
        orFail [(hoBlending s, .busy, 0), ((gfmRelation y).isSome, .range, (gfmRelation y).getD 0)] fun _ =>
          .ok { s with gfm := { s.gfm with par := commitSet y } }
  | 0x1101 =>
    match setParams true gridTable s.grid.par p s with
    | .error e => .error e
    | .ok x =>
      let y := if dry then x else s.grid.par
      match lateStruct gridTable y s with
      | some id => .error (.badState, id)
      | none =>
        orFail [(hoBlending s, .busy, 0), ((gridRelation y).isSome, .range, (gridRelation y).getD 0)] fun _ =>
          .ok { s with grid := { s.grid with par := commitSet y } }
  | _ =>
    orFail [lenIs p 4] fun _ => .ok (if gp s 0x21 = 3 ∧ fromPeer s org then secValue (hzOf (i32 p 0)) s else s)

/-- Execute inner packets in order up to the first that fails (R299): the state, and the failure. -/
def innerAll (dry : Bool) (org : Nat) (since : Rat) : List (Nat × Bytes) → State → State × Option (Status × Nat)
  | [], s => (s, none)
  | (c, p) :: r, s =>
    match innerExec dry org since c p s with
    | .error e => (s, some e)
    | .ok s1 => innerAll dry org since r s1

/-- The first failing status of the inner packets, in packet order: a packet's own checks come before its execution is tried
(R298; DEDUCED, notes/assumptions/86.md). -/
def innerTry (org : Nat) : List Bytes → State → Option (Status × Nat)
  | [], _ => none
  | b :: r, s =>
    match innerHeader b with
    | some st => some (st, 0)
    | none =>
      match innerExec true org 0 (u16 b 2) ((b.drop 16).take (u16 b 10)) s with
      | .error e => some e
      | .ok s1 => innerTry org r s1

/-- Stage the parameters of the inner packets at the prepare (Table 12.6). -/
def innerStage (l : List (Nat × Bytes)) (s : State) : State :=
  l.foldl
    (fun a e =>
      if e.1 = 0x1001 then
        match setParams false gfmTable a.gfm.par e.2 a with
        | .ok x => { a with gfm := { a.gfm with par := x } }
        | .error _ => a
      else if e.1 = 0x1101 then
        match setParams true gridTable a.grid.par e.2 a with
        | .ok x => { a with grid := { a.grid with par := x } }
        | .error _ => a
      else a) s

/-! ### The lead (R295 to R297) -/

/-- Member k of an OP_PART_GROUP payload may not take part: no open session with a PEER or RACK, or named twice. -/
def memberBad (s : State) (p : Bytes) (k : Nat) : Bool :=
  let id := u16 p (20 + 2 * k)
  let q := partner s id
  decide (0xFFF < id) || !(q.type == 2 || q.type == 3) || q.session == 0xFFFF || (sess s q.session).state != 2 ||
    (List.range k).any fun j => u16 p (20 + 2 * j) == id

/-- OP_PART_GROUP (R295, R296): the reply is deferred. -/
def execOpPartGroup (r : Req) (s : State) : Out :=
  .next (finish s (runReq { code := 0x2206, states := stIARTS, chained := true, v2 := false } r s (fun _ s => .done s) fun p s =>
    let n := u16 p 0
    let inner := p.drop (20 + 2 * n)
    let packets := splitPackets (u8 p 2) inner
    let bad := firstBad n (memberBad s p)
    let ids := (List.range n).map fun k => u16 p (20 + 2 * k)
    chk [(p.length != 20 + 2 * n + u16 p 12 || packets.isNone, .badLength, 0), outOf n 1 256 0, outOf (u8 p 2) 1 4 2, rsv p 3 1,
         outOf (u32 p 4) 100 10000000 4, outOf (u32 p 8) 100 10000000 8, outOf (u16 p 12) 24 16400 12, rsv p 14 6,
         (bad.isSome, .badParam, bad.getD 0), ((packets.getD []).any fun b => !groupOpcode (u16 b 2), .badOpcode, 0),
         (!timeUsable s, .notReady, 0), (decide (8 ≤ s.part.group.length) || decide (1024 < txns s + n), .noResource, 0)] fun _ =>
      .later (groupStart (some (owedTo r 0x2206)) false ids inner (u8 p 2) (u32 p 4) (u32 p 8) s)))

/-- A running group command by its number. -/
def findGroup (s : State) (txn : Nat) : Option Group := s.part.group.find? fun (g : Group) => g.txn == txn

/-- A member's answer to a prepare or a commit. -/
def groupAnswer (id opcode txn status : Nat) (s : State) : State :=
  match findGroup s txn with
  | none => s
  | some g =>
    match g.members.findIdx? (· == id) with
    | none => s
    | some k =>
      if opcode = 0x2207 then
        if status = 0 then (if s.now < g.deadline then setGroup { g with prepared := g.prepared ++ [k] } s else s)
        else setGroup { g with failed := some (g.failed.getD k), failures := g.failures ++ [k] } s
      else if opcode = 0x2208 then
        setGroup { g with answered := g.answered ++ [k], executed := if status = 0 then g.executed ++ [k] else g.executed } s
      else s

/-- REPLY_PACKET_RECEIVED (16_command_transport.md R366): matched by opcode and tag, or discarded. -/
def execReplyPacketReceived (t : Nat) (org opcode tag : Nat) (payload : List Byte) (s : State) : Out :=
  ev t s fun s =>
    match s.pkt.sent.find? fun x => x.1 == org && x.2.1 == opcode && x.2.2.1 == tag with
    | none => s
    | some x => groupAnswer org opcode x.2.2.2 (u16 payload 0) (dropSent org opcode tag s)

/-- GROUP_PREPARE_DEADLINE (R296): every member has replied, or the limit has come (DESIGN CHOICE, notes/assumptions/85.md); the
commit of a paused step of the black-start program waits (03_grid_events.md R85). -/
def execGroupPrepareDeadline (t : Nat) (txn : Nat) (s : State) : Out :=
  ev t s fun s =>
    match findGroup s txn with
    | none => s
    | some g =>
      if g.execAt.isSome then s
      else if g.allPrepared then (if groupHeld s g then s else groupCommit g s)
      else if g.prepared.length + g.failures.length = g.members.length ∨ due s g.deadline then groupAbort g s
      else s

/-- A commit that has not been acknowledged is abandoned at its execute-at (R296). -/
def abandonCommits (g : Group) (s : State) : State :=
  g.members.foldl
    (fun a id =>
      let c := (partner a id).session
      let keep (x : Option Nat) : Bool := x != some g.txn
      let o := orig a id
      let out := o.outq.filter fun k => !(k.opcode == 0x2208 && !k.flags.testBit 4 && u16 k.payload 0 == g.txn)
      let a1 := setOrig id { o with outq := out } a
      if c = 0xFFFF then a1
      else
        let x := sess a1 c
        setSess c { x with unacked := x.unacked.filter (fun u => keep u.commit), sendq := x.sendq.filter (fun e => keep e.2) } a1)
    s

/-- GROUP_COMMIT_ABANDON (R296). -/
def execGroupCommitAbandon (t : Nat) (txn : Nat) (s : State) : Out :=
  ev t s fun s =>
    match findGroup s txn with
    | none => s
    | some g =>
      match g.execAt with
      | none => s
      | some x => if g.abandoned ∨ ntAt s s.now < x then s else setGroup { g with abandoned := true } (abandonCommits g s)

/-- GROUP_REPLY_DUE (R296): every member, to each of which a commit has gone, has answered, or 20 ms have passed since the
execute-at (Table 12.7). -/
def execGroupReplyDue (t : Nat) (txn : Nat) (s : State) : Out :=
  ev t s fun s =>
    match findGroup s txn with
    | none => s
    | some g =>
      match g.execAt with
      | none => s
      | some x =>
        let nt := ntAt s s.now
        if (List.range g.members.length).all (fun k => g.answered.contains k) ∨ (x : Rat) + 20000000 ≤ nt then
          groupEnd g (if g.executed.length = g.members.length then .ok else .partial_) 0 s
        else s

/-! ### The member (R298, R299) -/

/-- The request has arrived in an open session of a partner of type PEER or PLANT: the path is that of its own packet
(17_opcodes.md R392). -/
def inGroupSession (code : Nat) (r : Req) (s : State) : Bool :=
  let q := partner s r.org
  (q.type == 3 || q.type == 5) &&
    match (s.pkt.inFlight.find? (Flight.is r.org r.seq code)).bind Flight.path with
    | some c => c == q.session && (sess s c).state == 2
    | none => false

/-- Prepared transactions without a commit end at T_exp (R299). -/
def dropExpired (s : State) : State :=
  let nt := ntAt s s.now
  { s with part := { s.part with held := s.part.held.filter fun h => h.commit.isSome || decide (nt < h.texp) } }

/-- A held transaction of a lead. -/
def findHeld (s : State) (org txn : Nat) : Option Prepared := s.part.held.find? fun h => h.from_ == org && h.txn == txn

def dropHeld (org txn : Nat) (s : State) : State :=
  { s with part := { s.part with held := s.part.held.filter fun h => !(h.from_ == org && h.txn == txn) } }

/-- Two lists of inner packets share an opcode family. -/
def shareFamily (a b : List (Nat × Bytes)) : Bool := a.any fun x => b.any fun y => x.1 / 256 == y.1 / 256

/-- OP_PART_PREPARE (R298; DEDUCED, notes/assumptions/86.md). -/
def execOpPartPrepare (r : Req) (s : State) : Out :=
  .next (finish s (runReq { code := 0x2207, states := stIARTS, chained := true, v2 := false } r s (fun _ s => .done s) fun p s =>
    let packets := (splitPackets (u8 p 14) (p.drop 18)).getD []
    chk [(decide (p.length < 18) || p.length != 18 + u16 p 16 || (splitPackets (u8 p 14) (p.drop 18)).isNone, .badLength, 0),
         rsv p 2 2, (!ntOk p 4, .badParam, 4), outOf (u8 p 14) 1 4 14, rsv p 15 1, outOf (u16 p 16) 24 16400 16,
         (!inGroupSession 0x2207 r s, .refused, 0)] fun _ =>
      let z := dropExpired s
      let inner := packets.map fun b => (u16 b 2, (b.drop 16).take (u16 b 10))
      let bad := innerTry r.org packets z
      chk [(bad.isSome, (bad.getD (.ok, 0)).1, (bad.getD (.ok, 0)).2),
           (z.part.held.any fun h => shareFamily h.inner inner, .busy, 0), (decide (8 ≤ z.part.held.length), .noResource, 0),
           (!timeUsable z, .notReady, 0)] fun _ =>
        let h : Prepared := { txn := u16 p 0, from_ := r.org, texp := ntField p 4, inner := inner }
        let s1 := innerStage inner z
        .done { s1 with part := { s1.part with held := s1.part.held ++ [h],
                                               aborted := s1.part.aborted.filter fun x => x != (r.org, u16 p 0) } }))

/-- OP_PART_COMMIT (R299, 17_opcodes.md R392): the reply follows the execution. -/
def execOpPartCommit (r : Req) (s : State) : Out :=
  runOp { code := 0x2208, states := stIARTS, v2 := false } r s fun p s =>
    chk [lenIs p 16, rsv p 2 2, (!ntOk p 4, .badParam, 4), rsv p 14 2, (!inGroupSession 0x2208 r s, .refused, 0)] fun _ =>
      let z := dropExpired s
      let txn := u16 p 0
      let late := decide ((ntField p 4 : Rat) ≤ ntAt z z.now)
      match findHeld z r.org txn with
      | none =>
        if z.part.aborted.contains (r.org, txn) then .yes z .aborted 0 []
        else if late then .yes z .timeout 0 [] else .yes z .badParam 0 []
      | some h =>
        if h.commit.isSome then .no .busy 0
        else if late then .yes (dropHeld r.org txn z) .timeout 0 []
        else
          let set (x : Prepared) : Prepared :=
            if x.from_ = r.org ∧ x.txn = txn then { x with commit := some (ntField p 4, owedTo r 0x2208) } else x
          .later { z with part := { z.part with held := z.part.held.map set } }

/-- OP_PART_CANCEL (R299, 17_opcodes.md R392). -/
def execOpPartCancel (r : Req) (s : State) : Out :=
  runOp { code := 0x2209, states := stIARTS, v2 := false } r s fun p s =>
    chk [lenIs p 4, rsv p 2 2, (!inGroupSession 0x2209 r s, .refused, 0)] fun _ =>
      let txn := u16 p 0
      match findHeld s r.org txn with
      | none => .done s
      | some h =>
        let s1 := dropHeld r.org txn s
        match h.commit with
        | some (_, w) => .done (answer w .aborted 0 [] s1)
        | none => .done s1

/-- GROUP_MEMBER_EXECUTE (R299, R300): the first outer-step boundary at or after t_x (DEDUCED, notes/assumptions/87.md). -/
def execGroupMemberExecute (t : Nat) (txn : Nat) (s : State) : Out :=
  ev t s fun s =>
    let nt := ntAt s s.now
    let ready (h : Prepared) : Bool :=
      h.txn == txn && match h.commit with | some (x, _) => decide ((x : Rat) ≤ nt) | none => false
    if ¬ tbRuns s ∨ s.now % s.sys.tStep ≠ 0 ∨ s.sys.halted % 16 ≠ 0 then s
    else
      match s.part.held.find? ready with
      | none => s
      | some h =>
        match h.commit with
        | none => s
        | some (x, w) =>
          let r := innerAll false h.from_ (nt - x) h.inner (dropHeld h.from_ h.txn s)
          match r.2 with
          | some (st, d) => answer w st d [] r.1
          | none => answer w .ok 0 [] r.1

/-- PREPARED_TXN_EXPIRY (R299): no commit by T_exp. -/
def execPreparedTxnExpiry (t : Nat) (txn : Nat) (s : State) : Out :=
  ev t s fun s =>
    let nt := ntAt s s.now
    { s with part := { s.part with held := s.part.held.filter fun h => !(h.txn == txn && h.commit.isNone && decide ((h.texp : Rat) ≤ nt)) } }

end Sys2Proof.Machine
end

