-- ==== Sys2Proof/Machine/Lanes.lean ====
section
/-! DEFINITION. The Hanel lanes' opcodes and events (10_hanel_lanes.md, 11_strands_cells.md R256). -/

namespace Sys2Proof.Machine

open Sys2Proof

/-! ### Configuration (R234, R237) -/

/-- OP_LANE_SET_QUAD (R234, 17_opcodes.md Table 17.3): the quad takes its new reference and its lanes drop (DEDUCED,
notes/assumptions/93.md). -/
def execOpLaneSetQuad (r : Req) (s : State) : Out :=
  runOp { code := 0x2001, states := stIAS } r s fun p s =>
    let q := u8 p 0
    chk [lenIs p 4, outOf q 0 3 0, (decide (1 < u8 p 1), .badParam, 1), rsv p 2 2] fun _ =>
      let m := s.lane.quadTbase
      let m1 := if m.testBit q then m - 2 ^ q else m
      let l := s.lane.qpllLock
      let s1 := dropLanes ((quadLanes q).filter fun n => (lane s n).up) 4 s
      let s2 := if b2n (m.testBit q) = u8 p 1 then s1 else (quadLanes q).foldl (fun a n => endInjectionsOn 1 n a) s1
      writeOf q s (.done { s2 with
        lane := { s2.lane with quadTbase := m1 + u8 p 1 * 2 ^ q, qpllLock := if l.testBit q then l - 2 ^ q else l } })

/-- The IDLE_AFTER that a role admits (Table 10.4). -/
def idleAfterOk (role v : Nat) : Bool := if privileged role then v == 0 || decide (64 ≤ v) else v == 0

/-- OP_LANE_SET_CONFIG (R237). -/
def execOpLaneSetConfig (r : Req) (s : State) : Out :=
  runOp { code := 0x2002, states := stIAS } r s fun p s =>
    let n := u8 p 0
    let role := u8 p 1
    let ctrl := u16 p 2
    chk [lenIs p 12, outOf n 0 15 0, outOf role 0 5 1, (role == 5 && decide (n < 14), .badParam, 1),
         (ctrl / 16 != 0 || (ctrl.testBit 3 && privileged role), .badParam, 2), outOf (u8 p 4) 0 15 4, outOf (u8 p 5) 0 7 5,
         outOf (u8 p 6) 0 15 6, (u8 p 7 != 0xFF && decide (15 < u8 p 7), .range, 7),
         (!idleAfterOk role (u16 p 8), .range, 8), rsv p 10 2,
         (role != 0 && (gateReq s).testBit (n / 4), .notReady, 0)] fun _ =>
      let x := lane s n
      let s1 := if role = x.role then s else unsleepShed n (endInjectionsOn 1 n (dropLane n 4 s))
      let y := if role = x.role then lane s1 n else { line := x.line }
      let z := { y with role := role, txPol := ctrl.testBit 0, rxPol := ctrl.testBit 1, autoTrain := ctrl.testBit 2,
                        shed := ctrl.testBit 3, txAmp := u8 p 4, txPre := u8 p 5, txPost := u8 p 6, rxEq := u8 p 7,
                        idleAfter := u16 p 8 }
      writeOf (n / 4) s (.done (shedLane n (setLane n z s1)))

/-! ### Training (R238 to R242) -/

/-- Masked lanes whose training the present state forbids (R238). -/
def trainForbidden (s : State) (l : List Nat) : Bool :=
  (s.sys.state == .run || s.sys.state == .tripped) &&
    l.any fun n => carriesCells s n || ((lane s n).role == 5 && s.twin.holder)

/-- One masked lane is OFF, or is one of a pair whose other lane is not masked. -/
def trainMaskBad (s : State) (l : List Nat) : Bool :=
  l.any fun n => (lane s n).role == 0 || (pairRole (lane s n).role && !l.contains (otherLane n))

/-- OP_LANE_TRAIN (R238, R241). -/
def execOpLaneTrain (r : Req) (s : State) : Out :=
  runOp { code := 0x2003, states := stIARTS } r s fun p s =>
    let l := bitsOf 16 (u16 p 0)
    chk [(decide (2 ≤ p.length) && trainForbidden s l, .badState, 0), lenIs p 4, rsv p 2 2, (trainMaskBad s l, .badParam, 0)] fun _ =>
      let s1 := dropLanes l 4 s
      let s2 := l.foldl
        (fun a n => setLane n { lane a n with waits := [], waitTo := [], prbsOn := false, prbsGen := 0, prbsChk := 0, prbsLock := false,
                                              loopOpen := false } a) s1
      .done (l.foldl (fun a n => startAttempt n a) s2)

/-- LANE_TRAIN_ATTEMPT_START: AUTO_TRAIN starts an attempt on a lane that is down, and training goes on outward from
the hops that are UP (R238, R242). -/
def execLaneTrainAttemptStart (t n : Nat) (s : State) : Out :=
  ev t s fun s =>
    let x := lane s n
    if 15 < n ∨ s.sys.state = .boot ∨ x.retryAt.isSome ∨ ¬ (x.up ∨ x.autoTrain) ∨ ¬ s.lane.qpllLock.testBit (n / 4) then s
    else startAttempt n s

/-- With RX_EQ AUTO the receiver chooses its CTLE code in SIGNAL and keeps it until the lane drops: a free value (23_electrical.md
R480; DESIGN CHOICE, notes/assumptions/2.md). -/
def equalise (n : Nat) (s : State) : State :=
  let x := lane s n
  if x.rxEq ≠ 0xFF ∨ x.ctle.isSome then s
  else let d := drawNat s; setLane n { lane d.2 n with ctle := some (d.1 % 16) } d.2

/-- LANE_TRAIN_STATE_ADVANCE: the state's work is done and the next begins (Table 10.6): no CDR locks without the quad PLL, and
DESKEW waits for aligned markers (R243). HOPS ends with HOP_DELAY_MEASURED. -/
def execLaneTrainStateAdvance (t n : Nat) (s : State) : Out :=
  ev t s fun s =>
    let x := lane s n
    let go (st : Nat) : State := setLane n { x with st := st, stateAt := s.now } s
    if ¬ x.training then s
    else
      match x.st with
      | 1 => if s.lane.qpllLock.testBit (n / 4) then equalise n (go 2) else s
      | 2 =>
        if x.good < 4 then s
        else ownBlock n (trainBlock 1 0x23 x.hop ((listedAt s n x.hop).getD 0xFFF))
          (setLane n { x with st := 3, stateAt := s.now, shWin := 0, shBad := 0 } s)
      | 3 => if x.heard.isNone then s else if bonded x.role then go 4 else echoStart n x.hop (go 5)
      | 4 => if x.deskew then echoStart n x.hop (go 5) else s
      | _ => s

/-- The limit of a state within the attempt, µs (Table 10.6). -/
def stateLimit (st : Nat) : Nat := match st with | 1 => 200 | 2 => 300 | 3 => 100 | 4 => 400 | 5 => 500 | _ => 0

/-- LANE_TRAIN_TIMEOUT: a state's own limit or the 2 ms of the attempt (R238). -/
def execLaneTrainTimeout (t n : Nat) (s : State) : Out :=
  ev t s fun s =>
    let x := lane s n
    if x.training ∧ (due s (x.stateAt + usT (stateLimit x.st)) ∨ due s (x.attemptAt + usT 2000)) then failAttempt n 1 false s else s

/-- LANE_RETRY_WAIT_END (R241). -/
def execLaneRetryWaitEnd (t n : Nat) (s : State) : Out :=
  ev t s fun s =>
    match (lane s n).retryAt with
    | some e => if due s e then startAttempt n s else s
    | none => s

/-- The version in use for an answer (R240); none below 0x12. -/
def versionFor (v : Nat) : Option Nat := if 0x23 ≤ v then some 0x23 else if 0x12 ≤ v then some 0x12 else none

/-- A HELLO_ACK in HELLO: version and id (R240, R274, 12_partners_sessions.md R285). -/
def helloAck (n ver id : Nat) (s : State) : State :=
  let x := lane s n
  let want := (listedAt s n x.hop).getD 0xFFF
  let noVersion : State := failAttempt n 3 true (raise 0x2004 n (le 1 ver ++ le 3 0) s)
  match versionFor ver with
  | none => noVersion
  | some v =>
    if v = 0x12 ∧ (x.role = 2 ∨ x.role = 5) then noVersion
    else if id ≠ want then
      let s1 := match listedAt s n x.hop with
        | some k => if (partner s k).type = 1 then s else setPartner k { partner s k with fault := (partner s k).fault ||| 4 } s
        | none => s
      failAttempt n 1 false s1
    else setLane n { x with heard := some (v, id) } s

/-- A TRAIN block whose CHK is right (Table 10.3, R240, 11_strands_cells.md R256). -/
def takeTrain (n : Nat) (b : Bytes) (s : State) : State :=
  let x := lane s n
  let msg := u8 b 1
  let hop := u8 b 3
  if msg = 2 then (if x.training ∧ x.st = 3 ∧ hop = x.hop then helloAck n (u8 b 2) (u16 b 4 % 4096) s else s)
  else if msg = 1 then ownBlock n (trainBlock 2 0x23 hop (u16 b 4 % 4096)) s
  else if msg = 4 then
    (if x.training ∧ (x.st = 1 ∨ x.st = 2) ∧ hop = x.hop ∧ 0 < x.reach then
      -- an outcome that names no partner is a failed one (DESIGN CHOICE, notes/assumptions/170.md)
      (if u16 b 4 % 4096 = 0xFFF then failAttempt n 1 false s
       else setLane n { x with st := 2, stateAt := s.now, good := 4 } s) else s)
  else if msg = 0x10 then ownBlock n (trainBlock 0x11 (u8 b 2) hop (u16 b 4)) s
  else s

/-- A control block of no type, counted in BAD_BLOCK; the open frame is closed as errored, and what its own row brings is
discarded (R236). -/
def badBlock (n : Nat) (s : State) : State :=
  let x := lane s n
  bump 0x2007 n 44 (match x.rxFrames with
    | f :: r => setLane n { x with rxFrames := { f with bad := true } :: r } s
    | [] => s)

/-- A TRAIN block as received: one whose CHK fails is discarded and counted (Table 10.3). -/
def trainIn (n : Nat) (b : Bytes) (s : State) : State :=
  if u8 b 0 ≠ 0x33 then badBlock n s
  else if crc16 (bytesAt 6 b 0) ≠ u16 b 6 then bump 0x2007 n 44 s
  else takeTrain n b s

/-- A lane's receiver is powered and hears coded blocks: it has a role, is awake, runs no PRBS test, and no LINK_DROP holds
it (R235, R245, R249; 21_test_diagnostics.md Table 21.3). -/
def hears (s : State) (n : Nat) : Bool :=
  decide (n ≤ 15) && (lane s n).role != 0 && !(lane s n).rxSleep && !(lane s n).prbsOn && !laneDropped s n

/-- TRAIN_BLOCK_RECEIVED. -/
def execTrainBlockReceived (t n : Nat) (block : List Byte) (s : State) : Out :=
  ev t s fun s => if hears s n then trainIn n block (rxValid n 1 s) else s

/-- ALIGN_SEARCH_STEP: one window of 64 blocks at the present position, with the invalid headers in it (R239). -/
def execAlignSearchStep (t n bad : Nat) (s : State) : Out :=
  ev t s fun s =>
    let x := lane s n
    if ¬ x.training ∨ x.st ≠ 2 ∨ 4 ≤ x.good then s
    else if bad = 0 then setLane n { x with good := x.good + 1, slip := x.pos, shErr := 0 } s
    else if x.pos = 65 then failAttempt n 1 false (setLane n { x with shErr := bad } s)
    else setLane n { x with pos := x.pos + 1, good := 0, slip := x.pos + 1, shErr := bad } s

/-- HOP_DELAY_MEASURED: the exchange of 256 echoes ends with the round trips of those that came (11_strands_cells.md
R256). In HOPS the offset ends the attempt; on a closed loop it is held beside the other head's. -/
def execHopDelayMeasured (t n : Nat) (delays : List Nat) (s : State) : Out :=
  ev t s fun s =>
    let x := lane s n
    -- no more responses than requests sent
    let o := offsetOf (delays.take x.echoNext)
    let rises (h : Nat) : Bool := match o, offsetBefore s n h with
      | some a, some b => decide (b < a)
      | some _, none => true
      | none, _ => false
    if x.training ∧ x.st = 5 then (if rises x.hop ∧ x.echoFor = some x.hop then hopUp n o s else failAttempt n 1 false s)
    else if x.training then s
    else
      match farHop s n with
      | none => s
      | some h =>
        if ¬ rises h ∨ x.echoFor ≠ some h then s
        else
          match listedAt s n h with
          | none => s
          | some id =>
            let c := cell s id
            let up := upperHead s n
            let s1 := setCell id { c with ofsL := (if up then c.ofsL else o), ofsU := (if up then o else c.ofsU),
                                          heads := c.heads ||| (if up then 2 else 1), gone := false,
                                          setDue := some (c.setDue == some true) } (setLane n { x with echoFor := none } s)
            farEcho n (recomputeD n s1)

/-- The search of R239 over what the line gives: the invalid headers of window `k` of position `pos` are `bad pos k`. -/
def searchSlip (bad : Nat → Nat → Nat) : Option Nat :=
  (List.range 66).find? fun pos => (List.range 4).all fun k => bad pos k == 0

/-- OP_LANE_SLIP (R239): the reply carries the position used and SH_ERR over 256 blocks. A search that fails has used the
last position. A lane of a gated quad is not reached, and the fields read zero (18_timing.md R419). What the line gives are
free values (DESIGN CHOICE, notes/assumptions/2.md; DEDUCED, notes/assumptions/94.md). -/
def execOpLaneSlip (r : Req) (s : State) : Out :=
  runOp { code := 0x2004, states := stS } r s fun p s =>
    let n := u8 p 0
    chk [lenIs p 4, outOf n 0 15 0, (u8 p 1 != 0xFF && decide (65 < u8 p 1), .range, 1), rsv p 2 2,
         ((lane s n).up, .busy, 0)] fun _ =>
      let bad (pos k : Nat) : Nat := Config.freeNat (s.draws + 4 * pos + k) % 65
      let pos := if u8 p 1 = 0xFF then (searchSlip bad).getD 65 else u8 p 1
      let e := drawNat { s with draws := s.draws + 264 }
      if gated s 0x2007 n then .give (gatedAcc s) [0, 0, 0, 0]
      else .give (setLane n { lane e.2 n with slip := pos, pos := pos, shErr := e.1 % 257 } e.2) (le 1 pos ++ le 1 0 ++ le 2 (e.1 % 257))

/-! ### Drops and bonded pairs (R243, R244, R247) -/

/-- LANE_DROP with its cause (R247); HEADERS means that 16 invalid headers have come within a window (R239). -/
def execLaneDrop (t n cause : Nat) (s : State) : Out :=
  ev t s fun s =>
    let x := lane s n
    if 15 < n ∨ cause = 0 ∨ 4 < cause ∨ ¬ (x.up ∨ x.training ∧ cause ≠ 4) ∨ (cause = 2 ∧ ¬ x.aligned) then s
    else dropLane n cause (if cause = 2 ∧ x.up then bumpN 0x2007 n 40 (16 - x.shBad) s else s)

/-- LANE_SIGNAL_LOSS at an awake receiver, outside electrical idle (R246, R247). -/
def execLaneSignalLoss (t n : Nat) (s : State) : Out :=
  ev t s fun s =>
    let x := lane s n
    if 15 < n ∨ x.rxSleep ∨ x.rxIdle then s else dropLane n 1 s

def execQuadPllLoss (t quad : Nat) (s : State) : Out := ev t s fun s => if 3 < quad then s else quadLost quad s

/-- QUAD_PLL_RELOCK: AUTO_TRAIN lanes start an attempt at once, without the wait of R241; one in progress, which has found
no lock, fails first (R238, R247). -/
def execQuadPllRelock (t quad : Nat) (s : State) : Out :=
  ev t s fun s =>
    if 3 < quad ∨ s.lane.qpllLock.testBit quad ∨ (s.lane.quadTbase.testBit quad ∧ ¬ tbRuns s) then s
    else
      let s1 := { s with lane := { s.lane with qpllLock := s.lane.qpllLock + 2 ^ quad } }
      if s1.sys.state = .boot then s1
      else (quadLanes quad).foldl
        (fun a n =>
          if (lane a n).autoTrain ∧ ¬ (lane a n).up then
            let b := failAttempt n 1 false a
            let x := lane b n
            startAttempt n (setLane n { x with waitTo := Tbl.del (hopAt b n x.reach) x.waitTo } b)
          else a)
        s1

/-- 16,384 block slots have passed since the last MARKER of a pair (R243). -/
def markDue (s : State) (x : Bond) : Bool := match x.markAt with | some t => due s (t + 138412) | none => true

/-- The lost lane of a pair is UP and joins at this marker interval (R244). -/
def joinsNow (s : State) (pair : Nat) : Bool :=
  let x := bond s pair
  x.joining && (match x.lost with | some l => (lane s l).up | none => false)

/-- MARKERs with JOIN on both lanes of a pair, and striping resumes (R244). -/
def rejoinPair (pair : Nat) (s : State) : State :=
  let x := bond s pair
  let m (n : Nat) (a : State) : State :=
    ownBlock n (markerBlock n x.markerCnt false true) (setLane n { lane a n with degraded := false } a)
  m (2 * pair + 1) (m (2 * pair)
    (setBond pair { x with lost := none, joining := false, odd := false, markerCnt := (x.markerCnt + 1) % 2 ^ 24,
                                markAt := some s.now } s))

/-- BOND_LANE_REJOIN (R244), at a marker interval. -/
def execBondLaneRejoin (t pair : Nat) (s : State) : Out :=
  ev t s fun s => if ¬ joinsNow s pair ∨ 7 < pair ∨ ¬ markDue s (bond s pair) then s else rejoinPair pair s

/-- BOND_MARKER_TX (R243): every 16,384 block slots both lanes of the pair send a MARKER in the same slot, in DESKEW too;
the upper lane's block of the slot in progress goes out first, where neither transmitter sleeps (R245). One lane alone
carries DEGRADED, and at the interval of a rejoin both carry JOIN (R244). -/
def execBondMarkerTx (t pair : Nat) (s : State) : Out :=
  ev t s fun s =>
    if 7 < pair ∨ ¬ bonded (lane s (2 * pair)).role ∨ ¬ markDue s (bond s pair) then s
    else if joinsNow s pair then rejoinPair pair s
    else
      let s := if (bond s pair).odd ∧ (bond s pair).lost.isNone ∧ pairUp s pair ∧ ¬ (txLanes s (2 * pair)).any (fun m => (lane s m).txSleep) then sendBlock 0 (2 * pair) s else s
      let x := bond s pair
      let one (n : Nat) (a : State) : State :=
        let y := lane a n
        let degraded := x.lost.isSome && x.lost != some n
        if y.up ∧ x.lost ≠ some n ∨ y.training ∧ 4 ≤ y.st then ownBlock n (markerBlock n x.markerCnt degraded false) a else a
      setBond pair { x with markerCnt := (x.markerCnt + 1) % 2 ^ 24, markAt := some s.now } (one (2 * pair + 1) (one (2 * pair) s))

/-! ### Power states (R245, R246) -/

/-- Fields of OP_LANE_POWER. -/
def lanePower (action : Nat) (p : Bytes) (k : Unit → Ans) : Ans :=
  chk [lenIs p 4, outOf (u8 p 0) 0 15 0, rsvBits p 1 2, (u8 p 2 != action, .badParam, 2), rsv p 3 1] k

/-- OP_LANE_POWER, ACTION SLEEP (R245). -/
def execOpLanePowerSleep (r : Req) (s : State) : Out :=
  runOp { code := 0x2005, states := stIARTS } r s fun p s =>
    let n := u8 p 0
    chk [((s.sys.state == .run || s.sys.state == .tripped) && decide (n < 16) && (u8 p 1).testBit 0 && u8 p 2 == 1 &&
            carriesCells s n, .badState, 0)] fun _ =>
      lanePower 1 p fun _ =>
        chk [(privileged (lane s n).role, .badParam, 0)] fun _ =>
          let s1 := if (u8 p 1).testBit 0 then unsleepShed n (txSleepNow n s) else s
          writeOf (n / 4) s
            (.done (if (u8 p 1).testBit 1 ∧ (lane s1 n).role ≠ 0 then setLane n { lane s1 n with rxSleep := true, rxWake := none } s1 else s1))

/-- OP_LANE_POWER, ACTION WAKE (R245). -/
def execOpLanePowerWake (r : Req) (s : State) : Out :=
  runOp { code := 0x2005, states := stIARTS } r s fun p s =>
    let n := u8 p 0
    lanePower 0 p fun _ =>
      let s1 := if (u8 p 1).testBit 0 then unsleepShed n (txWakeNow n s) else s
      writeOf (n / 4) s (.done (if (u8 p 1).testBit 1 then rxWakeNow n s1 else s1))

/-- LANE_WAKE_DONE: a woken direction is valid (Table 10.8). -/
def execLaneWakeDone (t n : Nat) (s : State) : Out :=
  ev t s fun s =>
    let x := lane s n
    let ended (w : Option Nat) : Bool := match w with | some e => due s e | none => false
    if ¬ ended x.txWake ∧ ¬ ended x.rxWake then s
    else setLane n { x with txSleep := x.txSleep && !ended x.txWake, txWake := if ended x.txWake then none else x.txWake,
                            rxSleep := x.rxSleep && !ended x.rxWake, rxWake := if ended x.rxWake then none else x.rxWake } s

/-- RX_SIGNAL_DETECT: signal at the detector wakes a sleeping receiver (Table 10.8). -/
def execRxSignalDetect (t n : Nat) (s : State) : Out := ev t s fun s => if 15 < n then s else rxWakeNow n s

/-- ELECTRICAL_IDLE_ENTRY: IDLE_AFTER idle blocks have gone out; EIDLE follows (R246). -/
def execElectricalIdleEntry (t n : Nat) (s : State) : Out :=
  ev t s fun s =>
    let x := lane s n
    let q := lane s (queueLane s n)
    let still := q.queue.isEmpty && q.cur.isNone
    if ¬ privileged x.role ∨ ¬ x.up ∨ x.eidle ∨ x.idleAfter = 0 ∨ x.idleRun < x.idleAfter ∨ ¬ still ∨ 15 < n then s
    else
      let s1 := ownBlock n (ctlBlock 0x2D 0) s
      setLane n { lane s1 n with eidle := true, eidleSince := s1.now } s1

/-- ELECTRICAL_IDLE_EXIT: a frame waits, or the 100 µs limit has come and 16 IDLE blocks follow (R246). -/
def execElectricalIdleExit (t n : Nat) (s : State) : Out :=
  ev t s fun s =>
    let x := lane s n
    if ¬ x.eidle ∨ ((lane s (queueLane s n)).queue.isEmpty ∧ ¬ due s (x.eidleSince + usT 100)) then s
    else
      let s1 := setLane n (Lane.sent { x with eidle := false, idleRun := 0 } exitBurst) s
      if (lane s (queueLane s n)).queue.isEmpty then (List.range 16).foldl (fun a _ => ownBlock n idleBlock a) s1 else s1

/-- EXIT_BURST_RECEIVED: the receiver takes its block boundary from the word (R246). -/
def execExitBurstReceived (t n : Nat) (s : State) : Out :=
  ev t s fun s => if (lane s n).rxIdle then setLane n { lane s n with rxIdle := false } s else s

/-! ### Blocks and frames (R236, 11_strands_cells.md R254) -/

/-- The far end has lost the other lane of an UP pair, which is UP here: this transmitter, too, sends on the remaining lane alone
(R244; DESIGN CHOICE, notes/assumptions/193.md). -/
def farLost (n : Nat) (s : State) : State :=
  let k := n / 2
  let o := otherLane n
  if ¬ (lane s n).up ∨ ¬ (lane s o).up ∨ (bond s k).lost.isSome then s
  else
    let s1 := setLane o { lane s o with degraded := true } (setLane n { lane s n with degraded := true } s)
    let s2 := setBond k { bond s1 k with lost := some o, joining := false, odd := false } s1
    raise 0x2005 o [] (ownBlock n (markerBlock n (bond s2 k).markerCnt true false) s2)

/-- A MARKER as received (R243, R244). The lanes of a pair in DESKEW are aligned by markers of one count within 32 blocks of each
other; a larger skew, or two intervals without a match, fails the attempt. A receiver follows DEGRADED and JOIN. -/
def markerIn (n : Nat) (b : Bytes) (s : State) : State :=
  let x := lane s n
  let k := n / 2
  let cnt := uLE 3 b 2
  let mine := ((cnt, s.now) :: x.marks).take 2
  let s1 := setLane n { x with marks := mine } s
  if ¬ bonded x.role then s
  else
    let ls := [n, otherLane n].filter fun m => (lane s1 m).training && (lane s1 m).st == 4
    if ls.isEmpty then
      if (u8 b 1).testBit 1 then farLost n (setBond k { bond s1 k with rxFrom := some n } s1)
      else if (u8 b 1).testBit 2 then
        -- the far end has rejoined: a lane that never dropped here joins at the next interval
        let y := bond s1 k
        setBond k { y with rxFrom := none, joining := y.joining || (match y.lost with | some l => (lane s1 l).up | none => false) } s1
      else s1
    else
      match (lane s1 (otherLane n)).marks.find? fun m => m.1 == cnt with
      | some (_, t0) =>
        if s.now ≤ t0 + 270 then ls.foldl (fun a m => setLane m { lane a m with deskew := true } a) s1
        else ls.foldl (fun a m => failAttempt m 1 false a) s1
      | none =>
        if mine.length = 2 ∧ (lane s1 (otherLane n)).marks.length = 2 then ls.foldl (fun a m => failAttempt m 1 false a) s1 else s1

/-- A block as the receiver takes it from its pair: RX_POL inverts every bit, which the descrambler passes on as it is
(Table 10.5). -/
def rxBlock (x : Lane) (b : CodeBlock) : Nat × Bytes :=
  if x.rxPol then (if b.hdr = 0 ∨ b.hdr = 3 then b.hdr else 3 - b.hdr, b.bytes.map fun c => ~~~c) else (b.hdr, b.bytes)

/-- The START block of a frame, with the class and frame bytes 0 to 5; behind a SUSPEND the frame before it stays open
(R236). One of a class that no frame has is discarded and counted (11_strands_cells.md R253). -/
def startIn (n : Nat) (b : Bytes) (s : State) : State :=
  let x := lane s n
  let cls := u8 b 1
  let s1 := setLane n { x with rxFarSleep := false, rxFrames := { cls := cls, bytes := bytesAt 6 b 2 } :: x.rxFrames.filter (·.susp) } s
  if (lane s n).up ∧ (cls = 0 ∨ 8 < cls) ∧ ¬ (heads s n).isEmpty then
    bump 0x2103 (strandOf s n) 40 s1
  else s1

/-- A data block belongs to the innermost open frame (R236). -/
def dataIn (n : Nat) (b : Bytes) (s : State) : State :=
  let x := lane s n
  match x.rxFrames with
  | f :: r => setLane n { x with rxFrames := { f with bytes := f.bytes ++ b } :: r } s
  | [] => s

/-- SUSPEND and RESUME: the innermost open frame stops and goes on (11_strands_cells.md R254). -/
def suspIn (n : Nat) (on : Bool) (s : State) : State :=
  let x := lane s n
  setLane n { x with rxFarSleep := false, rxFrames := match x.rxFrames with | f :: r => { f with susp := on } :: r | [] => [] } s

/-- TERM ends the innermost open frame. What an errored one has brought is discarded (R236); a frame of a class that runs
downstream, which has no row of its own, is checked here (11_strands_cells.md R253, R270). -/
def termIn (n : Nat) (b : Bytes) (s : State) : State :=
  let x := lane s n
  match x.rxFrames with
  | f :: r =>
    let s1 := setLane n { x with rxFarSleep := false, rxFrames := r, rxBad := f.bad && !downClass f.cls } s
    if downClass f.cls ∧ ¬ f.bad then laneFrame n f.cls (f.bytes ++ bytesAt (min 6 (u8 b 1)) b 2) s1 else s1
  | [] => setLane n { x with rxFarSleep := false } s

/-- CONTROL_BLOCK_RECEIVED: a block with its sync header and its 8 bytes behind the descrambler. A control block is handled
by type (Table 10.2), a data block belongs to the open frame, which its own row brings once its TERM has come, and an
invalid header counts (R236, R239; DESIGN CHOICE, notes/assumptions/193.md). A lane in a PRBS test takes 64 bits of the
pattern (R249). -/
def execControlBlockReceived (t n : Nat) (block : CodeBlock) (s : State) : Out :=
  ev t s fun s =>
    let y := lane s n
    let b := rxBlock y block
    if n ≤ 15 ∧ y.prbsOn ∧ y.prbsLoop = 0 ∧ y.role ≠ 0 ∧ ¬ y.rxSleep then prbsIn n b.2 s
    else if ¬ hears s n then s
    else if b.1 ≠ 1 ∧ b.1 ≠ 2 then rxInvalid n s
    else if b.1 = 1 then dataIn n b.2 (rxValid n 1 s)
    else
      let s1 := rxValid n 1 s
      let x := lane s1 n
      match u8 b.2 0 with
      | 0x33 => trainIn n b.2 s1
      | 0x2D => setLane n { x with rxIdle := true } s1
      | 0x4C => setLane n { x with rxFarSleep := true } s1
      | 0x78 => startIn n b.2 s1
      | 0xE1 => termIn n b.2 s1
      | 0x1E => setLane n { x with rxFarSleep := false } s1
      | 0x4B => markerIn n b.2 (setLane n { x with rxFarSleep := false } s1)
      | 0x96 => suspIn n true s1
      | 0xA5 => suspIn n false s1
      | _ => badBlock n s1

/-- LANE_FRAME_TRANSMIT: a number of blocks leaves: what is queued, with suspension and resumption (R254), IDLE where
nothing is and on a lane that is DOWN (Table 10.6), and 64-bit words of its pattern on a lane in a PRBS test (R249). A sleeping
transmitter sends nothing (R245). -/
def execLaneFrameTransmit (t n blocks : Nat) (s : State) : Out :=
  ev t s fun s =>
    let x := lane s n
    let k := List.range (min blocks 4096)
    if 15 < n ∨ x.role = 0 ∨ x.txSleep then s
    else if x.prbsOn then k.foldl (fun a _ => prbsOut n a) s
    else k.foldl (fun a i => laneSlot i n a) s

/-! ### PRBS and status (R249, R250) -/

/-- OP_LANE_PRBS (R249): the lane drops and stays down until it is trained again. -/
def execOpLanePrbs (r : Req) (s : State) : Out :=
  runOp { code := 0x2006, states := stS } r s fun p s =>
    let n := u8 p 0
    chk [lenIs p 8, outOf n 0 15 0, outOf (u8 p 1) 0 4 1, outOf (u8 p 2) 0 4 2, outOf (u8 p 3) 0 1 3, outOf (u8 p 4) 0 2 4,
         outOf (u8 p 5) 3 12 5, rsv p 6 2] fun _ =>
      let s1 := dropLane n 4 s
      let x := lane s1 n
      -- a generator or checker that goes on with its pattern keeps its registers (DESIGN CHOICE, notes/assumptions/39.md)
      let same := x.prbsOn && x.prbsGen == u8 p 1
      let kept := x.prbsOn && x.prbsChk == u8 p 2 && x.prbsLoop == u8 p 3
      writeOf (n / 4) s <|
      .done (setLane n { x with prbsGen := u8 p 1, prbsChk := u8 p 2, prbsLoop := u8 p 3, prbsInj := u8 p 4, prbsRate := u8 p 5,
                                prbsOn := true, prbsReg := if same then x.prbsReg else laneStart (u8 p 1),
                                prbsSent := if same then x.prbsSent else 0,
                                prbsFlip := (if same then x.prbsFlip else 0) + b2n (u8 p 4 == 1),
                                prbsLock := kept && x.prbsLock, chkReg := if kept then x.chkReg else 0,
                                chkRun := if kept then x.chkRun else 0, chkErrs := if kept then x.chkErrs else 0 } s1)

/-- PRBS_LOCK_LOSS: a locked checker finds 16 or more errors within 64 bits (R249); how many is a free value (DESIGN CHOICE,
notes/assumptions/2.md). -/
def execPrbsLockLoss (t n : Nat) (s : State) : Out :=
  ev t s fun s =>
    let x := lane s n
    if ¬ x.prbsOn ∨ x.prbsChk = 0 ∨ ¬ x.prbsLock then s
    else
      let d := drawNat (setLane n { x with prbsLock := false, chkRun := 0, chkErrs := 0 } s)
      raise 0x2007 n [] (bumpN 0x2007 n 36 (16 + d.1 % 49) (bump64 0x2007 n 28 64 d.2))

/-- Lane FLAGS (Table 10.10). -/
def laneFlags (s : State) (n : Nat) : Nat :=
  let x := lane s n
  b2n x.up + 2 * b2n (x.training || x.retryAt.isSome) + 4 * b2n (s.lane.qpllLock.testBit (n / 4)) + 8 * b2n x.txSleep +
    16 * b2n x.rxSleep + 32 * b2n x.eidle + 64 * b2n x.degraded + 128 * b2n x.loopOpen + 256 * b2n x.prbsLock

/-- Time to the next retry in ms, rounded up; 0 where none is due. -/
def nextTryMs (s : State) (x : Lane) : Nat := match x.retryAt with | some e => (e - s.now + 1599999) / 1600000 | none => 0

/-- STATE of Table 10.9: the hop being trained, or UP. -/
def laneState (x : Lane) : Nat := if x.training then x.st else if x.up then 6 else x.st

/-- OP_LANE_GET_STATUS (R250, Table 10.9). -/
def execOpLaneGetStatus (r : Req) (s : State) : Out :=
  runOp { code := 0x2007, states := stIARTS } r s fun p s =>
    oneByte p 15 fun n =>
      let x := lane s n
      giveOf 0x2007 n s (le 2 (laneFlags s n) ++ le 1 (laneState x) ++ le 1 x.role ++ le 1 x.ver ++ le 1 x.slip ++ le 2 x.reach ++
        le 8 (c64 s 0x2007 n 12) ++ le 8 (c64 s 0x2007 n 20) ++ le 8 (c64 s 0x2007 n 28) ++ le 4 (c32 s 0x2007 n 36) ++
        le 4 (c32 s 0x2007 n 40) ++ le 4 (c32 s 0x2007 n 44) ++ le 4 (c32 s 0x2007 n 48) ++ le 4 (c32 s 0x2007 n 52) ++
        le 4 (c32 s 0x2007 n 56) ++ le 4 (nextTryMs s x))

end Sys2Proof.Machine
end

