-- ==== Sys2Proof/Machine/Nodes.lean ====
section
/-! DEFINITION. A compliant cell node: an agent of its own on a strand (11_strands_cells.md R256 to R275,
10_hanel_lanes.md R248). A node is named by the partner id it has adopted in training. -/

namespace Sys2Proof.Machine

open Sys2Proof

def node (s : State) (n : Nat) : Node := s.node.getD n {}

def setNode (n : Nat) (x : Node) (s : State) : State := { s with node := s.node.put n x }

/-! ### Half-bridges (R260, Table 11.6) -/

/-- Positions of half-bridges A and B and of the bypass device in a state: 0 both off, 1 upper, 2 lower. -/
def cellSwitches (st : Nat) : Nat × Nat × Bool :=
  match st with
  | 1 => (1, 2, false)
  | 2 => (2, 2, false)
  | 3 => (1, 1, false)
  | 4 => (2, 1, false)
  | 5 => (0, 0, true)
  | _ => (0, 0, false)

/-- A node's dead time that has run out turns the incoming switches on (R260). -/
def Node.settleBridges (now : Nat) (x : Node) : Node :=
  match x.deadTo with
  | some e => if e ≤ now then { x with hbA := (cellSwitches x.state).1, hbB := (cellSwitches x.state).2.1, deadTo := none } else x
  | none => x

/-- A node's own time in fine ticks: the TBASE tick extended into it, in the time that SYNC carries (R257). -/
def Node.fine (now : Nat) (x : Node) : Int := 8 * (now : Int) + x.phase + (x.rate * 8 * ((now - x.refAt : Nat) : Rat)).floor

/-- A node's own time in ticks. -/
def Node.time (now : Nat) (x : Node) : Nat := (x.fine now / 8).toNat

/-! ### Ports (10_hanel_lanes.md R246, R248; R254) -/

/-- The port toward a head: upstream for the lower or plain head, downstream for the upper one. -/
def portTo (head : Nat) : Nat := if head = 1 then 1 else 0

def Node.port (x : Node) (p : Nat) : NPort := if p = 1 then x.down else x.up

def Node.setPort (p : Nat) (q : NPort) (x : Node) : Node := if p = 1 then { x with down := q } else { x with up := q }

/-- On a looped strand a node holds the offsets from both heads: its ports use electrical idle (10_hanel_lanes.md R248). -/
def Node.looped (x : Node) : Bool := x.ofsL.isSome && x.ofsU.isSome

/-- A block on a port's line, scrambled, after the exit burst where its transmitter is in electrical idle (10_hanel_lanes.md R236,
R246). -/
def Node.put (now p hdr : Nat) (b : Bytes) (x : Node) : Node :=
  let q := x.port p
  let c := scramble q.scr b
  let burst := if q.eidle then exitBurst.map fun e => (p, e) else []
  { x.setPort p { q with scr := c.2, eidle := hdr == 2 && u8 b 0 == 0x2D, eidleSince := now,
                         idleRun := if hdr = 2 ∧ b = idleBlock then q.idleRun + 1 else 0 } with
    out := x.out ++ burst ++ [(p, hdr, c.1)] }

/-- A block leaves on a port: not from a transmitter that sleeps, nor toward a receiver that has sent SLEEP
(10_hanel_lanes.md R248). An IDLE block lets electrical idle go on; on a looped strand IDLE_AFTER of them, 256 by default,
begin it (R246; DESIGN CHOICE, notes/assumptions/170.md). -/
def Node.blockOut (now p hdr : Nat) (b : Bytes) (x : Node) : Node :=
  let q := x.port p
  let idle : Bool := hdr == 2 && b == idleBlock
  if q.farSleep ∨ q.txSleep ∨ (q.eidle ∧ idle) then x
  else
    let y := x.put now p hdr b
    if y.looped ∧ 256 ≤ (y.port p).idleRun then y.put now p 2 (ctlBlock 0x2D 0) else y

/-- A frame of the node's own waits at the port toward a head; it leaves at block boundaries (R254). -/
def Node.send (x : Node) (head cls : Nat) (b : Bytes) : Node :=
  let p := portTo head
  x.setPort p { x.port p with own := (x.port p).own ++ [{ cls := cls, bytes := b }] }

/-- The heads that a node can reach: those whose offset it holds, the serving one of its NODE_SET, and any from which a
frame has come in; the upstream one where it knows of none (R268; DEDUCED, notes/assumptions/194.md). -/
def Node.headsReached (x : Node) : List Nat :=
  let l := [0, 1].filter fun h => x.looped || (x.configured && x.head == h) || (x.port (portTo h)).head
  if l.isEmpty then [0] else l

/-- A frame leaves toward each head the node can reach (R268). -/
def Node.sendAll (x : Node) (cls : Nat) (b : Bytes) : Node := x.headsReached.foldl (fun a h => a.send h cls b) x

/-- A forwarded block of a SYNC that has been held: HELD is set, and the CHK made anew (R254). The data block of a SYNC carries
frame bytes 6 to 13, TERM bytes 14 and 15. -/
def heldBlock (f : NTx) (hdr : Nat) (b : Bytes) : Bytes :=
  if f.cls = 2 ∧ f.held then
    let body := if hdr = 1 then f.bytes ++ b else f.bytes
    let g := body.take 9 ++ le 1 (u8 body 9 ||| 1) ++ bytesAt 2 body 10
    if hdr = 1 then bytesAt 6 g 6 ++ (le 4 (crc32c g)).take 2
    else if u8 b 0 = 0xE1 then b.take 2 ++ (le 4 (crc32c g)).drop 2 ++ b.drop 4
    else b
  else b

/-- A control block of a type. -/
def isCtl (type : Nat) (e : Nat × Bytes) : Bool := e.1 == 2 && u8 e.2 0 == type

/-- One of the node's own frames starts on a port. -/
def Node.startOwn (now p : Nat) (f : LFrame) (rest : List LFrame) (x : Node) : Node :=
  let q := x.port p
  match frameBlocks f with
  | b :: bs =>
    (x.setPort p { q with own := rest, frames := { own := some { frame := f, left := bs }, cls := f.cls } :: q.frames }).blockOut now p b.1 b.2
  | [] => x.setPort p { q with own := rest }

/-- The block at the head of those that wait is forwarded: START opens a frame in passage, a data block belongs to the
innermost and TERM closes it. -/
def Node.passOut (now p : Nat) (x : Node) : Node :=
  let q := x.port p
  match q.fifo with
  | [] => x.blockOut now p 2 idleBlock
  | (late, e) :: rest =>
    let go (frames : List NTx) (b : Bytes) : Node := (x.setPort p { q with fifo := rest, frames := frames }).blockOut now p e.1 b
    if isCtl 0x78 e then go ({ cls := u8 e.2 1, bytes := bytesAt 6 e.2 2, held := late } :: q.frames) e.2
    else
      match q.frames with
      | f :: r =>
        if e.1 = 1 then go ({ f with bytes := f.bytes ++ e.2 } :: r) (heldBlock f e.1 e.2)
        else if isCtl 0xE1 e then go r (heldBlock f e.1 e.2)
        else go q.frames e.2
      | [] => go [] e.2

/-- What leaves in a block slot of a port (R254): the frame of higher priority, its own or one in passage, suspends the one in
progress, which resumes behind it; own frames of equal or lower priority wait for the passage. -/
def Node.pickSlot (now p : Nat) (x : Node) : Node :=
  let q := x.port p
  let own := takeBest q.own
  let mine := match own with | some (f, _) => f.priority | none => 99
  -- a COMMAND or SYNC that waits behind others counts, too: it waits for one inserted block at most
  let theirs := q.fifo.foldl (fun m w => if isCtl 0x78 w.2 then min m (clsPriority (u8 w.2.2 1)) else m) 99
  let begin_ : Node := match own with | some (f, r) => x.startOwn now p f r | none => x.passOut now p
  match q.frames with
  | [] => if mine < theirs ∧ (q.fifo.isEmpty ∨ theirs < 99) then begin_ else x.passOut now p
  | f :: r =>
    let pf := clsPriority f.cls
    let next := if f.own.isSome then min mine theirs else mine
    let mark (b : Bool) : Node := x.setPort p { q with frames := { f with susp := b } :: r }
    if f.susp then
      if next < pf then (if mine < theirs ∨ f.own.isNone then begin_ else x.passOut now p)
      else (mark false).blockOut now p 2 (ctlBlock 0xA5 f.cls)
    else if next < pf ∧ pf ≠ 1 then (mark true).blockOut now p 2 (ctlBlock 0x96 f.cls)
    else
      match f.own with
      | none => x.passOut now p
      | some g =>
        match g.left with
        | [] => x.setPort p { q with frames := r }
        | [b] => (x.setPort p { q with frames := r }).blockOut now p b.1 b.2
        | b :: l => (x.setPort p { q with frames := { f with own := some { g with left := l } } :: r }).blockOut now p b.1 b.2

/-- One block slot of a port, in which a block `e` is to be forwarded: what then waits behind the node's own frame has been
held, and slots of IDLE blocks take it up (DESIGN CHOICE, notes/assumptions/152.md). -/
def Node.slotOut (now p : Nat) (e : Nat × Bytes) (x : Node) : Node :=
  let q := x.port p
  let y := (x.setPort p { q with fifo := if isCtl 0x1E e then q.fifo else q.fifo ++ [(false, e)] }).pickSlot now p
  let r := y.port p
  y.setPort p { r with fifo := r.fifo.map fun w => (true, w.2) }

/-! ### What time does at a node's ports (10_hanel_lanes.md R246, R248) -/

/-- Nothing comes in on a port: electrical idle, or no block for two block times, as at the end of a plain strand. -/
def NPort.silent (now : Nat) (q : NPort) : Bool := q.rxIdle || decide (q.heardAt + 17 ≤ now)

/-- A node's own frames leave a port whose other side receives nothing, so that no block opens a slot, and through which no
frame is in passage (DESIGN CHOICE, notes/assumptions/152.md). -/
def Node.ownSlots (now p : Nat) (x : Node) : Node :=
  if (x.port (1 - p)).silent now ∧ (x.port p).frames.all (·.own.isSome) then
    (List.range (8 * ((x.port p).own.length + (x.port p).frames.length))).foldl (fun a _ => a.slotOut now p (2, idleBlock)) x
  else x

/-- A port's time limits: SIGNAL and ALIGN of a training, whose failed outcome PORT_RESULT reports with no partner id
(DESIGN CHOICE, notes/assumptions/170.md); the 100 µs of electrical idle, behind which 16 IDLE blocks go out; and the end of
a PRBS test 10 µs after the receiver has lost its signal. -/
def Node.portLimits (now p : Nat) (x : Node) : Node :=
  let q := x.port p
  let q1 := if q.heardAt + usT 10 ≤ now then { q with prbs := none } else q
  let x1 := x.setPort p q1
  let x2 := match q.train with
    | some t =>
      if t.since + usT (if t.st = 1 then 200 else 300) ≤ now then
        (x1.setPort p { q1 with train := none }).blockOut now (1 - p) 2 (trainBlock 4 x.ver t.hop 0xFFF)
      else x1
    | none => x1
  let x3 := if q.eidle ∧ q.eidleSince + usT 100 ≤ now then
      (List.range 16).foldl (fun a _ => a.put now p 2 idleBlock) x2
    else x2
  x3.ownSlots now p

/-- A node that has been powered up acts on what reaches it, and on what time has brought. -/
def nodeEv (t n : Nat) (s : State) (f : Node → State → Node) : Out :=
  evAny t s fun s =>
    match Tbl.find n s.node with
    | none => s
    | some x =>
      let y := f (((x.settleBridges s.now).portLimits s.now 0).portLimits s.now 1) s
      setNode n ((y.ownSlots s.now 0).ownSlots s.now 1) s

/-- NODE_POWER_UP (R259, R275): OFF, no references. Whether a bypass device is fitted, which version the node serves, what
its time shows and how far within ±100 ppm its clock is off (10_hanel_lanes.md R248) are its own: free values (DESIGN
CHOICE, notes/assumptions/2.md; DESIGN CHOICE, notes/assumptions/98.md). -/
def execNodePowerUp (t n : Nat) (s : State) : Out :=
  evAny t s fun s =>
    let a := drawNat s
    let b := drawNat a.2
    let c := drawNat b.2
    let d := drawNat c.2
    setNode n { id := n, bypass := a.1 % 2 == 1, ver := if b.1 % 2 = 1 then 0x23 else 0x12, lastDown := s.now, phase := c.1,
                rate := (((d.1 % 201 : Nat) : Rat) - 100) / 1000000, refAt := s.now } d.2

/-! ### States (R260, R261, R275) -/

/-- Put a state in force: without a bypass device BYPASS is realised as ZERO_LOW. Each half-bridge that changes is off for the
node's dead time first, so that a change between the two zero states passes through OFF (R260, R261, R275). -/
def Node.enter (now : Nat) (x : Node) (st : Nat) : Node :=
  let st := if st = 5 ∧ ¬ x.bypass then 2 else st
  let w := cellSwitches st
  { x with state := st, hbA := if x.hbA = w.1 then x.hbA else 0, hbB := if x.hbB = w.2.1 then x.hbB else 0, closed := w.2.2,
           deadTo := if x.hbA = w.1 ∧ x.hbB = w.2.1 then none else some (now + Config.nodeDead x.id) }

/-- In OFF or BYPASS by its own decision, or in SAFE reached through LINK_LOST (R268, R269). -/
def Node.keeps (x : Node) : Bool := x.safeOwn || (x.linkLost && !x.planRun)

/-- An event is executed: a node that protects itself stays in its state until a CLEAR (R268). -/
def Node.obey (now : Nat) (x : Node) (st : Nat) : Node := if x.keeps then x else x.enter now st

/-- The node's SAFE state. -/
def Node.safeState (x : Node) : Nat := if x.safe = 1 then 5 else 0

/-- With LINK_LOST, the last event executed leads to SAFE (R269); a node in OFF or BYPASS by its own decision stays there
(R268). -/
def Node.settle (now : Nat) (x : Node) : Node :=
  if x.linkLost ∧ x.planRun ∧ x.queue.isEmpty then { (if x.safeOwn then x else x.enter now x.safeState) with planRun := false } else x

/-- A valid downstream frame has arrived on a port: the link is there, and so is a head; LINK_LOST ends unless SAFE has been
reached (R268, R269). -/
def Node.heard (x : Node) (now port : Nat) : Node :=
  let x := x.setPort port { x.port port with head := true }
  if x.planRun then { x with lastDown := now, linkLost := false, planRun := false } else { x with lastDown := now }

/-! ### Commands (R260 to R265) -/

/-- A command as a node reads it. -/
structure NCmd where
  dest : Nat
  seq : Nat
  epoch : Nat
  state : Nat
  plans : List (Nat × Nat)
  execLow : Nat
  arm : Nat
  /-- A reserved field is not zero. -/
  dirty : Bool
  deriving DecidableEq, Repr, Inhabited

/-- The fields of a COMMAND (Table 11.5) or of a COMMAND_12 frame (Table 11.12). -/
def parseCommand (x : Node) (b : Bytes) : NCmd :=
  if b.length = 16 then
    { dest := u16 b 0 % 4096, seq := u16 b 2, epoch := 0, state := u8 b 4 % 8, plans := [], execLow := uLE 6 b 6, arm := x.arm,
      dirty := u16 b 0 / 4096 != 0 || u8 b 4 / 8 != 0 || u8 b 5 != 0 }
  else
    let n := u8 b 5 / 8 % 4
    let e (i : Nat) : Nat := u32 b (12 + 4 * i)
    { dest := u16 b 0 % 4096, seq := u16 b 2, epoch := u8 b 4, state := u8 b 5 % 8,
      plans := (List.range n).map fun i => (e i % 2 ^ 24, e i / 2 ^ 24 % 8), execLow := uLE 6 b 6, arm := u8 b 24,
      dirty := u16 b 0 / 4096 != 0 || u8 b 5 / 64 != 0 || !zeroAt b 25 3 ||
        (List.range 3).any fun i => if i < n then e i / 2 ^ 27 != 0 else e i != 0 }

/-- The 64-bit tick nearest to the node's time with these low 48 bits (R262). -/
def nearestTick (now low : Nat) : Int :=
  let m : Int := 2 ^ 48
  let d := ((low : Int) - now) % m
  (now : Int) + (if d < 2 ^ 47 then d else d - m)

/-- What R264 says of an arriving sequence against the last accepted epoch and sequence. -/
inductive SeqVerdict where
  | accept (gap newer : Bool)
  | dup
  | older
  deriving DecidableEq, Repr

/-- The comparison of R264. -/
def judgeSeq (ref : Option (Nat × Nat)) (epoch seq : Nat) : SeqVerdict :=
  match ref with
  | none => .accept false false
  | some (e, q) =>
    let de := (epoch + 256 - e) % 256
    let ds := (seq + 65536 - q) % 65536
    if 128 ≤ de then .older
    else if 0 < de then .accept false true
    else if ds = 0 ∨ 32768 ≤ ds then .dup
    else .accept (ds != 1) false

/-- What makes a node reject a command, the queue's room apart (R261, R262; DEDUCED, notes/assumptions/99.md). -/
def rejects (x : Node) (c : NCmd) (ahead : Int) : Bool :=
  decide (5 < c.state) || c.plans.any (fun p => decide (p.1 < 320) || decide (5 < p.2)) ||
    (c.dest == 0xFFF && !c.plans.isEmpty) || (c.dest != 0xFFF && c.arm != x.arm) || c.dirty || decide (2 ^ 24 < ahead) ||
    (c.dest != 0xFFF && x.keeps)

/-- The main event of a command and its plan events (R263). -/
def newEvents (x : Node) (c : NCmd) (at_ : Nat) : List NEvt :=
  let main : NEvt := { at_ := at_, state := c.state, plan := false, epoch := c.epoch, cmd := x.nextCmd }
  let plans := c.plans.foldl
    (fun (acc : Nat × List NEvt) p =>
      (acc.1 + p.1, acc.2 ++ [{ at_ := acc.1 + p.1, state := p.2, plan := true, epoch := c.epoch, cmd := x.nextCmd }]))
    (at_, [])
  main :: plans.2

/-- Insert an event in execute-at order; a main event takes the place of an earlier command's main on its tick (R263). -/
def insertEvt (e : NEvt) : List NEvt → List NEvt
  | [] => [e]
  | f :: r =>
    if e.at_ = f.at_ ∧ ¬ e.plan ∧ ¬ f.plan then e :: r
    else if e.at_ < f.at_ then e :: f :: r else f :: insertEvt e r

/-- Pending events that stay when a command is accepted (R263, R265). -/
def keptEvents (x : Node) (c : NCmd) (newer : Bool) (at_ : Nat) : List NEvt :=
  (x.queue.filter fun e =>
      if c.dest = 0xFFF then decide (e.at_ ≤ at_) || !(c.state == 0 || c.state == 5) else !e.plan).filter fun e =>
    !(newer && !e.plan && decide (1 ≤ (c.epoch + 256 - e.epoch) % 256) && decide ((c.epoch + 256 - e.epoch) % 256 ≤ 127) &&
      decide (at_ < e.at_))

/-- Execute at once an event whose time has passed, at the device's tick `tick` and the node's time `now` (R262). -/
def Node.lateEvent (tick : Nat) (x : Node) (now : Nat) (e : NEvt) : Node :=
  let y := x.obey tick e.state
  if now - e.at_ ≤ 1600 then { y with tardy := y.tardy + 1 } else { y with late := y.late + 1, lateFlag := true }

/-- A command that a node has found to be for it (R261 to R265). -/
def takeCommand (tick now : Nat) (c : NCmd) (x : Node) : Node :=
  let isB := c.dest == 0xFFF
  match judgeSeq (if isB then x.bcast else x.uni) c.epoch c.seq with
  | .dup => { x with dup := x.dup + 1 }
  | .older => { x with rej := x.rej + 1 }
  | .accept gap newer =>
    let exact := nearestTick now c.execLow
    let at_ := exact.toNat
    let new := newEvents x c at_
    let future := new.filter fun e => decide (now ≤ e.at_)
    let past := new.filter fun e => decide (e.at_ < now)
    let q := future.foldl (fun l e => insertEvt e l) (keptEvents x c newer at_)
    if rejects x c (exact - now) || decide (8 < q.length) then { x with rej := x.rej + 1 }
    else
      let y := { x with queue := q, nextCmd := x.nextCmd + 1, gap := if gap then x.gap + 1 else x.gap,
                        uni := if isB then x.uni else some (c.epoch, c.seq), bcast := if isB then some (c.epoch, c.seq) else x.bcast }
      past.foldl (fun (a : Node) e => a.lateEvent tick now e) y

/-- A command is for this node: its id, or a broadcast to its arm or to all (R265). -/
def forNode (x : Node) (c : NCmd) : Bool := c.dest == x.id || (c.dest == 0xFFF && (c.arm == x.arm || c.arm == 0xFF))

/-- NODE_COMMAND_RECEIVED: a frame of class COMMAND or COMMAND_12 with the length of its class (R253, R257, R258, R261 to
R265). -/
def execNodeCommandReceived (t n port : Nat) (cmd : CmdFrame) (s : State) : Out :=
  nodeEv t n s fun x s =>
    let frame := cmd.bytes
    if frame.length ≠ (if cmd.v12 then 16 else 32) then { x with badFrame := x.badFrame + 1 }
    else if crc32c (frame.take (frame.length - 4)) ≠ u32 frame (frame.length - 4) then { x with chkErr := x.chkErr + 1 }
    else
      let y := x.heard s.now port
      let c := parseCommand y frame
      if ¬ y.configured ∨ ¬ y.timeValid ∨ ¬ forNode y c then y else takeCommand s.now (y.time s.now) c y

/-- NODE_EVENT_EXECUTE: the events whose execute-at has come (R262, R263, R269). Without TIME_VALID nothing executes
(R257). -/
def execNodeEventExecute (t n : Nat) (s : State) : Out :=
  nodeEv t n s fun x s =>
    let now := x.time s.now
    if ¬ x.timeValid then x
    else
      let y := (x.queue.filter fun e => decide (e.at_ ≤ now)).foldl (fun (a : Node) e => a.obey s.now e.state) x
      ({ y with queue := x.queue.filter fun e => !decide (e.at_ ≤ now) } : Node).settle s.now

/-! ### Time (R257, R270) -/

/-- NODE_SYNC_RECEIVED: a SYNC that is not HELD, from a head whose offset is held, disciplines the node's time: it takes the
phase that the SYNC gives, and from the second one on moves its rate by the error over the time since the last (R257; DESIGN
CHOICE, notes/assumptions/153.md). -/
def execNodeSyncReceived (t n port : Nat) (frame : List Byte) (s : State) : Out :=
  nodeEv t n s fun x s =>
    if frame.length ≠ 16 then { x with badFrame := x.badFrame + 1 }
    else if crc32c (frame.take 12) ≠ u32 frame 12 then { x with chkErr := x.chkErr + 1 }
    else
      let y := x.heard s.now port
      let upper := (u8 frame 9).testBit 1
      match (if (u8 frame 9).testBit 0 then none else if upper then y.ofsU else y.ofsL) with
      | none => y
      | some o =>
        -- error of the node's time in fine ticks at this SYNC; ±2 ns are 25.6 fine ticks
        let err : Int := ((8 * u64 frame 0 + u8 frame 8 + o : Nat) : Int) - y.fine s.now
        let run := if |err| ≤ 25 then y.syncRun + 1 else 0
        let past := s.now - y.refAt
        let rate := if 0 < max y.syncL y.syncU ∧ 0 < past then y.rate + (err : Rat) / (8 * past) else y.rate
        { y with phase := y.fine s.now + err - 8 * (s.now : Int), rate := rate, refAt := s.now, align := err, syncRun := run,
                 timeValid := y.timeValid || decide (16 ≤ run),
                 syncL := if upper then y.syncL else s.now, syncU := if upper then s.now else y.syncU }

/-- NODE_SYNC_TIMEOUT: 8 cycles without a usable SYNC clear TIME_VALID; 3 without one from its own head change the head
where the other offset is held (R257, R270). -/
def execNodeSyncTimeout (t n : Nat) (s : State) : Out :=
  nodeEv t n s fun x s =>
    let y := if due s (max x.syncL x.syncU + 8 * 32000) then { x with timeValid := false, syncRun := 0 } else x
    let mine := if y.head = 1 then y.syncU else y.syncL
    let other := if y.head = 1 then y.ofsL else y.ofsU
    if due s (mine + 3 * 32000) ∧ other.isSome then { y with head := 1 - y.head } else y

/-! ### Configuration (R258, R259, R268) -/

/-- A NODE_SET that a node can apply as a whole. -/
def nodeSetOk (x : Node) (b : Bytes) : Bool :=
  u16 b 0 / 4096 == 0 && decide (u16 b 2 ≤ 255) && decide (40 ≤ u16 b 12) && decide (u16 b 12 ≤ 1000) &&
    decide (u8 b 14 ≤ 1) && decide (u8 b 15 ≤ 7) && decide (u8 b 16 ≤ 1) && decide (u8 b 17 ≤ 1) && zeroAt b 18 2 &&
    !(u8 b 17 == 1 && x.fault != 0)

/-- A NODE_ACK (Table 11.4). -/
def nodeAck (x : Node) (result : Nat) (b : Bytes) : Bytes :=
  withChk (le 2 x.id ++ le 1 result ++ le 1 x.ver ++ le 2 (b2n x.bypass) ++ le 2 0 ++ le 4 (u32 b 20))

/-- An offset of a NODE_SET. -/
def nodeOfs (v : Nat) : Option Nat := if v = 0xFFFFFFFF then none else some v

/-- NODE_SET_RECEIVED (R258, R259, R264, R268). -/
def execNodeSetReceived (t n port : Nat) (frame : List Byte) (s : State) : Out :=
  nodeEv t n s fun x s =>
    if frame.length ≠ 24 then { x with badFrame := x.badFrame + 1 }
    else if crc32c (frame.take 20) ≠ u32 frame 20 then { x with chkErr := x.chkErr + 1 }
    else
      let y := x.heard s.now port
      if u16 frame 0 % 4096 ≠ y.id then y
      else if ¬ nodeSetOk y frame then y.send y.head 5 (nodeAck y 1 frame)
      else
        let clear := u8 frame 17 == 1
        let z : Node := { y with slot := u16 frame 2, ofsL := nodeOfs (u32 frame 4), ofsU := nodeOfs (u32 frame 8), watch := u16 frame 12,
                                 safe := u8 frame 14, arm := u8 frame 15, head := u8 frame 16, configured := true, uni := none,
                                 bcast := none, safeOwn := y.safeOwn && !clear, linkLost := y.linkLost && !clear }
        -- one that protects itself stays where it is (R259, R268)
        let w := if y.configured ∨ z.safeOwn then z else z.enter s.now z.safeState
        w.send w.head 5 (nodeAck w 0 frame)

/-! ### Telemetry, faults and link loss (R266 to R269) -/

/-- A FAULT frame, with the tick of the detection (Table 11.9). -/
def faultFrame (x : Node) : Bytes :=
  withChk (le 2 x.id ++ le 2 x.fault ++ le 1 x.state ++ le 1 0 ++ le 6 x.faultAt)

/-- A TELEMETRY frame (Table 11.7); `m` holds VCELL, SOC, T_SW and T_BAT as measured. -/
def telemetryFrame (x : Node) (cycle : Nat) (m : List Nat) : Bytes :=
  let v12 := x.ver == 0x12
  withChk (le 2 x.id ++ le 2 cycle ++
    le 1 (x.state + 8 * b2n x.safeOwn + 16 * b2n x.linkLost + 32 * b2n x.planRun + 64 * b2n x.timeValid + 128 * b2n x.lateFlag) ++
    le 1 (if v12 then 0 else (x.uni.getD (0, 0)).1) ++ le 2 (x.uni.getD (0, 0)).2 ++ le 2 (m.getD 0 0) ++ le 2 (m.getD 1 0 % 10001) ++
    le 2 (m.getD 2 0) ++ le 2 (m.getD 3 0) ++ le 2 x.fault ++ le 2 (if v12 then 0 else (x.bcast.getD (0, 0)).2) ++
    le 1 x.late ++ le 1 x.dup ++ le 1 x.rej ++ le 1 x.gap ++ leI 2 (if v12 then 0 else x.align) ++ le 1 x.chkErr ++
    le 1 (if v12 then 0 else x.tardy))

/-- The telemetry slot that a node is in, by the number of its cycle: from the cycle boundary plus (TLM_OFS + 8 · SLOT)
block times less its offset from the serving head, for the 8 block times to the next slot (R267). One block time is 67.584
fine ticks. -/
def slotCycle (s : State) (x : Node) : Option Int :=
  let ofs := (if x.head = 1 then x.ofsU else x.ofsL).getD 0
  let blocks := (strand s (cellStrand s x.id)).tlmOfs + 8 * x.slot
  let since : Int := x.fine s.now - ((blocks * 67584 / 1000 : Nat) : Int) + ofs
  if since % 256000 < 8 * 67584 / 1000 then some (since / 256000) else none

/-- NODE_TELEMETRY_SLOT (R266 to R268): TELEMETRY once per cycle in the node's slot, and in every second cycle the FAULT of a node
that protects itself. What the cell measures is its own, four free values (DESIGN CHOICE, notes/assumptions/2.md). -/
def execNodeTelemetrySlot (t n : Nat) (s : State) : Out :=
  evAny t s fun s =>
    match Tbl.find n s.node with
    | none => s
    | some x =>
      let now := x.time s.now
      let cycle := if x.configured then slotCycle s x else some ((now / 32000 : Nat) : Int)
      match cycle with
      | none => s
      | some k =>
        let c := k.toNat
        if x.tlmCycle = some c then s
        else
          let m := (List.range 4).map fun i => Config.freeNat (s.draws + i) % 65536
          let y := if x.configured then ({ x with lateFlag := false } : Node).send x.head 6 (telemetryFrame x (c % 65536) m) else x
          let z := if x.safeOwn ∧ c % 2 = 0 then y.sendAll 3 (faultFrame x) else y
          let w : Node := { z with tlmCycle := some c }
          setNode n ((w.ownSlots s.now 0).ownSlots s.now 1) { s with draws := s.draws + 4 }

/-- NODE_FAULT_DETECT with the fault bits now in force (R268). OFF or BYPASS is the node's own choice: a free value
(DESIGN CHOICE, notes/assumptions/2.md). -/
def execNodeFaultDetect (t n fault : Nat) (s : State) : Out :=
  evAny t s fun s =>
    match Tbl.find n s.node with
    | none => s
    | some x =>
      let f := fault % 512
      if f = 0 ∨ f &&& x.fault = f then setNode n { x with fault := f } s
      else
        let d := drawNat s
        let y := ({ x with fault := f, faultAt := x.time s.now, safeOwn := true, queue := [] } : Node).enter s.now (if d.1 % 2 = 1 ∧ x.bypass then 5 else 0)
        let z := y.sendAll 3 (faultFrame y)
        setNode n ((z.ownSlots s.now 0).ownSlots s.now 1) d.2

/-- NODE_WATCH_EXPIRY: no downstream frame for WATCH (R269). Training that passed the node before is over. -/
def execNodeWatchExpiry (t n : Nat) (s : State) : Out :=
  nodeEv t n s fun x s =>
    if ¬ due s (x.lastDown + usT x.watch) then x
    else
      let y := { x with up := { x.up with beyond := none }, down := { x.down with beyond := none } }
      if ¬ y.configured ∨ y.linkLost then y
      else ({ y with linkLost := true, planRun := true } : Node).settle s.now

/-! ### Training and forwarding (R248, R252, R254, R256) -/

/-- A TRAIN block whose CHK is right. -/
def trainOk (b : Bytes) : Bool := u8 b 0 == 0x33 && crc16 (bytesAt 6 b 0) == u16 b 6

/-- NODE_ECHO_REQUEST: the target that HOP names answers an ECHO_REQ as ECHO_RSP on the port it came on (R256). -/
def execNodeEchoRequest (t n port : Nat) (block : List Byte) (s : State) : Out :=
  nodeEv t n s fun x s =>
    if ¬ trainOk block ∨ u8 block 1 ≠ 0x10 ∨ x.pos ≠ some (u8 block 3) then x
    else x.blockOut s.now port 2 (trainBlock 0x11 (u8 block 2) (u8 block 3) (u16 block 4))

/-- 64 bits of a node's PRBS31 test: the checker's lane, what it has found, and the bits that go out (10_hanel_lanes.md R248,
R249). -/
def nodePrbs (x : Lane) (word : Bytes) : Lane × ChkSum × Bytes :=
  let w := uLE 8 word 0
  let g := (List.range 64).foldl (fun (a : Nat × Lane) i => let b := a.2.genBit; (a.1 + b2n b.1 * 2 ^ i, b.2)) (0, x)
  let c := (List.range 64).foldl (fun a i => Lane.chkBit (w.testBit i) a) (g.2, {})
  (c.1, c.2, le 8 g.1)

/-- A TRAIN block at a node (10_hanel_lanes.md R238, R240, R248): a HELLO that no PORT_TRAIN for its hop has gone before is
for this node, which takes the position it names and answers with its highest version and its id (DEDUCED,
notes/assumptions/171.md). PORT_TRAIN for the hop beyond the node trains its other port, and PRBS_REQ for its position
starts the test on the port it came on. What is for another node goes on. -/
def Node.trainIn (now port : Nat) (b : Bytes) (x : Node) : Node × Bool :=
  let hop := u8 b 3
  let o := 1 - port
  let q := x.port port
  if ¬ trainOk b then (x, true)
  else match u8 b 1 with
    | 1 =>
      if q.beyond = some hop then (x, false)
      else ((({ x with pos := some hop } : Node).setPort port { q with beyond := none, head := true }).blockOut now port 2 (trainBlock 2 x.ver hop x.id), true)
    | 3 =>
      let y := x.setPort port { q with beyond := some hop }
      match x.pos with
      | some p => if hop = p + 1 ∨ hop + 1 = p then (y.setPort o { y.port o with train := some { hop := hop, since := now } }, true) else (y, false)
      | none => (y, false)
    | 5 =>
      if x.pos = some hop then (x.setPort port { q with prbs := some { prbsGen := 4, prbsChk := 4, prbsReg := laneStart 4 }, prbsErr := 0 }, true)
      else (x, false)
    | 0x10 => (x, x.pos = some hop)
    | _ => (x, false)

/-- The far side of a port sleeps: once the node's own frames are out, its transmitter beyond sends 16 SLEEP blocks and sleeps too
(10_hanel_lanes.md R248). -/
def Node.sleepOut (now p : Nat) (x : Node) : Node :=
  let q := x.port p
  if q.txSleep then x
  else if ¬ q.own.isEmpty ∨ ¬ q.frames.isEmpty ∨ ¬ q.fifo.isEmpty then x.slotOut now p (2, idleBlock)
  else
    let y := (List.range 16).foldl (fun a _ => a.blockOut now p 2 (ctlBlock 0x4C 0)) x
    y.setPort p { y.port p with txSleep := true }

/-- A port in training takes a block: the first shows a signal, one with a valid header then the alignment, which PORT_RESULT
reports upstream (10_hanel_lanes.md R248, Table 10.6). -/
def Node.trainBlockIn (now port hdr : Nat) (t : NTrain) (x : Node) : Node :=
  let q := x.port port
  if t.st = 1 then x.setPort port { q with train := some { t with st := 2, since := now } }
  else if hdr = 1 ∨ hdr = 2 then (x.setPort port { q with train := none }).blockOut now (1 - port) 2 (trainBlock 4 x.ver t.hop x.id)
  else x

/-- NODE_BLOCK_FORWARD: a block that reaches a port leaves on the other one, cut through and in order with the node's own
frames (R254); a COMMAND or NODE_SET for this node stops (R270), and a START of a class that no frame has counts (R253). SLEEP and
electrical idle of the far side are noted, and a port in training or in a PRBS test takes the block itself
(10_hanel_lanes.md R246, R248). -/
def execNodeBlockForward (t n port : Nat) (block : CodeBlock) (s : State) : Out :=
  nodeEv t n s fun x s =>
    let now := s.now
    let o := 1 - port
    let q := { x.port port with heardAt := now }
    let e := (block.hdr, block.bytes)
    match q.prbs, q.train with
    | some st, _ =>
      let r := nodePrbs st block.bytes
      { x.setPort port { q with prbs := some r.1, prbsErr := q.prbsErr + r.2.1.errs } with out := x.out ++ [(port, 0, r.2.2)] }
    | none, some tr => (x.setPort port q).trainBlockIn now port block.hdr tr
    | none, none =>
      let cls := u8 block.bytes 1
      let start := isCtl 0x78 e
      let mine : Bool := start && (cls == 1 || cls == 4 || cls == 8) && u16 block.bytes 2 % 4096 == x.id
      let rest : Bool := q.stop && (block.hdr == 1 || isCtl 0xE1 e)
      let y := x.setPort port { q with farSleep := isCtl 0x4C e, rxIdle := isCtl 0x2D e,
                                       stop := mine || (rest && !isCtl 0xE1 e) }
      if isCtl 0x4C e then y.sleepOut now o
      else
        let z := y.setPort o { y.port o with txSleep := false }
        let w := if start ∧ (cls = 0 ∨ 8 < cls) then { z with badFrame := z.badFrame + 1 } else z
        if isCtl 0x33 e then (let r := w.trainIn now port block.bytes; if r.2 then r.1 else r.1.slotOut now o e)
        else w.slotOut now o (if mine ∨ rest then (2, idleBlock) else e)

end Sys2Proof.Machine
end

