-- ==== Sys2Proof/Machine/Pond.lean ====
section
/-! DEFINITION. Pond's commands: capture configuration, triggers, frames, records and readout (15_pond.md). -/

namespace Sys2Proof.Machine

open Sys2Proof

/-! ### Configuration (R349, R351, R358) -/

/-- A channel entry names a source of Table 15.2. -/
def chanSourceOk (type sel : Nat) : Bool :=
  match type with
  | 0 => (sel / 16 < 4 || (8 ≤ sel / 16 && sel / 16 < 12) : Bool)
  | 1 => decide (sel < 20)
  | 2 => decide (sel < 20)
  | 3 => decide (sel < 64)
  | 4 => decide (sel < 64)
  | 5 => decide (sel < 64)
  | 6 => decide (sel < 3)
  | 7 => decide (sel < 2)
  | 8 => decide (sel < 11)
  | _ => false

/-- OP_POND_SET_CAPTURE (R349, R351). -/
def execOpPondSetCapture (r : Req) (s : State) : Out :=
  runOp { code := 0x1801, states := stIARTS } r s fun p s =>
    let n := u8 p 0
    let stream := (u8 p 1).testBit 2
    let id := u16 p 16
    let powers := [1, 2, 4, 8, 16, 32, 64, 128, 256]
    let chBad (k : Nat) : List (Bool × Status × Nat) :=
      [(!chanSourceOk (u8 p (20 + 4 * k)) (u8 p (21 + 4 * k)), .badParam, 20 + 4 * k),
       (u8 p (22 + 4 * k) != 16 && u8 p (22 + 4 * k) != 32, .badParam, 22 + 4 * k), rsv p (23 + 4 * k) 1]
    let type := (partner s (id % 4096)).type
    chk ([(p.length != 20 + 4 * n, Status.badLength, 0), (s.pond.armed, .busy, 0), outOf n 1 32 0, rsvBits p 1 3, outOf (u16 p 2) 1 65535 2,
          (!powers.contains (u16 p 4), .range, 4), (u16 p 6 / 2048 != 0, .badParam, 6), outOf (pondLen p) 2 8388608 8,
          outOf (pondPre p) 0 (pondLen p - 1) 12, (if stream then decide (4095 < id) else id != 0, .range, 16), rsv p 18 2,
          (decide (8388608 < (64 + pondLen p * frameBytes p) * pondSegs p), .range, 8)] ++ (List.range n).flatMap chBad ++
         [(stream && type != 4 && type != 5, .badParam, 16)]) fun _ =>
      .done { s with pond := { s.pond with cfg := some p } }

/-- OP_POND_SET_TRIG (R358). -/
def execOpPondSetTrig (r : Req) (s : State) : Out :=
  runOp { code := 0x1804, states := stIARTS } r s fun p s =>
    let n := u8 (pondCfg s) 0
    let one (j : Nat) : List (Bool × Status × Nat) :=
      [(decide (n ≤ u8 p (12 * j)), .badParam, 12 * j), (decide (2 < u8 p (12 * j + 1)), .badParam, 12 * j + 1), rsv p (12 * j + 2) 2]
    chk ([lenIs p 32, (s.pond.armed, .busy, 0)] ++ one 0 ++ one 1) fun _ => .done { s with pond := { s.pond with trig := p } }

/-! ### Arming (R352, R356) -/

/-- A record is being streamed: STREAM names its partner and the session with it is open (R362). -/
def streamsNow (s : State) (r : PRec) : Bool := r.streaming && streamTo s == some r.dest && sessOpenWith s r.dest

/-- The held record that may be overwritten: the oldest that is not being read or streamed (R356). -/
def reusable (s : State) : Option PRec :=
  s.pond.held.find? fun r => decide (r.readTo ≤ s.now) && !streamsNow s r

/-- Take a segment for the next pre-trigger phase, whose first instant is `from_`, or be FULL (R355, R356). -/
def takeSegment (from_ : Nat) (s : State) : State :=
  let start (s : State) : State :=
    let early := s.pond.trigs.filter fun x => decide (x.2.1 < from_)
    let s1 := { s with pond := { s.pond with phase := 1, from_ := from_, pre := [],
                                             trigs := s.pond.trigs.filter fun x => decide (from_ ≤ x.2.1) } }
    early.foldl (fun a _ => pondMissed a) s1
  if pondFree s then start s
  else
    match (if (u8 (pondCfg s) 1).testBit 0 then none else reusable s) with
    | some r =>
      start (bump 0x1809 0 28 { s with pond := { s.pond with held := s.pond.held.filter fun x => x.recNo != r.recNo } })
    | none =>
      let s1 := raise 0x1802 0 [] { s with pond := { s.pond with phase := 4, trigs := [] } }
      s.pond.trigs.foldl (fun a _ => pondMissed a) s1

/-- Levels of the balls at arming. -/
def noteBalls (s : State) : State :=
  let g (a : State) (k : Nat) : State := pondNote 6 k a.now (gateBits a k) a
  notePins (g (g (g s 0) 1) 2)

/-- OP_POND_ARM (R352). -/
def execOpPondArm (r : Req) (s : State) : Out :=
  runOp { code := 0x1802, states := stIARTS } r s fun p s =>
    fourReserved p fun _ =>
      match s.pond.cfg with
      | none => .no .notReady 0
      | some c =>
        if s.pond.armed then .no .busy 0
        else
          let s1 := takeSegment (capAt c (s.now + 1))
            (noteBalls { s with pond := { s.pond with armed := true, trigs := [], log := [], lvl := [], decided := s.now } })
          .done (if s.pwr.shedding ∨ ¬ tbRuns s then pondSuspend s1 else s1)

/-- OP_POND_DISARM (R352). -/
def execOpPondDisarm (r : Req) (s : State) : Out :=
  runOp { code := 0x1803, states := stIARTS } r s fun p s =>
    fourReserved p fun _ =>
      let s1 := pondStop 0 s
      .done { s1 with pond := { s1.pond with armed := false, trigs := [], log := [], lvl := [] } }

/-! ### Frames (R350, R353, R354) -/

/-- The value of a channel at an instant, zero where its source has given none since arming (R350). -/
def chanValue (s : State) (x : Nat × Nat × Nat) (t : Nat) : Nat :=
  let odd := x.1 == 0 && x.2.1 % 2 == 1 && (pair s (x.2.1 % 16 / 2)).mode % 2 == 1
  let lim := if odd then t + 40 else t
  match (s.pond.log.getD (256 * x.1 + x.2.1) []).find? fun e => decide (e.1 ≤ lim) with
  | some e => e.2
  | none => 0

/-- The stored value of a channel: for 16 bits the half that Table 15.2 names. -/
def stored (x : Nat × Nat × Nat) (v : Nat) : Nat :=
  if x.2.2 = 32 then v % 2 ^ 32
  else if x.1 = 5 ∨ x.1 = 6 ∨ x.1 = 7 then v % 65536 else bits v 31 16

/-- The stored values of the frame of an instant. -/
def frameValues (s : State) (t : Nat) : List (Nat × Nat) :=
  (pondChans (pondCfg s)).map fun x => (x.2.2, stored x (chanValue s x t))

/-- A comparator on a frame: whether it fires, and its state after. After a crossing the value has to return beyond THRESH by HYST
before any crossing fires again; the frame in which it returns may be one (R358; DEDUCED, notes/assumptions/176.md). -/
def comparator (slope : Nat) (th : Int) (hyst : Nat) (v : Int) (st : Option Int × Nat) : Bool × (Option Int × Nat) :=
  let wait := match st.2 with
    | 1 => if v ≤ th - hyst then 0 else 1
    | 2 => if th + hyst ≤ v then 0 else 2
    | _ => 0
  match st.1 with
  | none => (false, (some v, 0))
  | some p =>
    let rise := slope != 1 && wait == 0 && decide (p < th) && decide (th ≤ v)
    let fall := slope != 0 && wait == 0 && decide (th < p) && decide (v ≤ th)
    (rise || fall, (some v, if rise then 1 else if fall then 2 else wait))

/-- The level comparators on a frame: their triggers join those that wait (R358, R359). -/
def levelStep (t : Nat) (vals : List (Nat × Nat)) (s : State) : State :=
  if s.pond.trig = [] then s
  else
    (List.range 2).foldl
      (fun a j =>
        let o := 12 * j
        let x := vals.getD (u8 s.pond.trig o) (32, 0)
        let v := sgn x.1 x.2
        let st := a.pond.lvl.getD j (none, 0)
        let q := comparator (u8 s.pond.trig (o + 1)) (i32 s.pond.trig (o + 4)) (u32 s.pond.trig (o + 8)) v st
        let b := { a with pond := { a.pond with lvl := a.pond.lvl.put j q.2 } }
        if q.1 then pondTrig (7 + j) t j 0 b else b) s

/-- The trigger sample: a record starts (R353, R354, R359). -/
def startRecord (c : Bytes) (t : Nat) (frame : Bytes) (trigs : List (Nat × Nat × Nat × Nat)) (s : State) : State :=
  let drive := (u8 c 1).testBit 1 && trigs.any fun x => x.1 != 1
  let mine := if drive then trigs.filter fun x => !(x.1 == 1 && decide (t ≤ x.2.1) && decide (x.2.1 < t + 48)) else trigs
  let mask := maskOf ((List.range 16).filter fun k => mine.any fun x => x.1 == k)
  let src := ((List.range 16).find? fun k => mask.testBit k).getD 0
  let first := (mine.find? fun x => x.1 == src).getD (0, 0, 0, 0)
  let late := mine.any fun x => decide (x.2.1 < t)
  let short := decide (s.pond.pre.length < pondPre c)
  let r : PRec := { recNo := s.pond.nextRec, flags := b2n short + 2 * b2n late, mask := mask, trigTick := t,
                    preAct := s.pond.pre.length, frames := s.pond.pre ++ [frame],
                    gntRec := ((mine.find? fun x => x.1 == 0).map fun x => x.2.2.2).getD 0,
                    detail := if src = 6 ∨ src = 7 ∨ src = 8 ∨ src = 9 then first.2.2.1 else 0,
                    capDiv := pondDiv c, nCh := u8 c 0, frameBytes := frameBytes c, cfgCrc := crc32c c }
  bump 0x1809 0 20 { s with pond := { s.pond with phase := 2, cur := some r, pre := [], nextRec := s.pond.nextRec + 1,
                                                   xDriven := drive || s.pond.xDriven,
                                                   xDrive := if drive then t + 32 else s.pond.xDrive } }

/-- POND_CAPTURE_FRAME (R350, R353, R354): at `t` the frame of the instant 1 µs before is assembled and decided (DEDUCED,
notes/assumptions/66.md). -/
def execPondCaptureFrame (t : Nat) (s : State) : Out :=
  ev t s fun s0 =>
    match s0.pond.cfg with
    | none => s0
    | some c =>
      let k := t - 1600
      if t < 1600 ∨ ¬ tbRuns s0 ∨ k % pondPeriod c ≠ 0 ∨ k < s0.pond.from_ ∨ k ≤ s0.pond.decided ∧ k ≠ s0.pond.from_ ∨
          (s0.pond.phase ≠ 1 ∧ s0.pond.phase ≠ 2) then s0
      else
        let vals := frameValues s0 k
        let frame := vals.flatMap fun x => le (x.1 / 8) x.2
        let s := levelStep k vals { s0 with pond := { s0.pond with decided := k } }
        let mine := s.pond.trigs.filter fun x => decide (x.2.1 < k + pondPeriod c)
        let rest := s.pond.trigs.filter fun x => decide (k + pondPeriod c ≤ x.2.1)
        let s1 := { s with pond := { s.pond with trigs := rest } }
        match s.pond.cur with
        | none =>
          if mine = [] then { s1 with pond := { s1.pond with pre := keepLast (pondPre c) (s1.pond.pre ++ [frame]) } }
          else startRecord c k frame mine s1
        | some r =>
          if pondFull s r then s
          else
            let extra := maskOf ((List.range 16).filter fun j => mine.any fun x => x.1 == j)
            let late := b2n (mine.any fun x => decide (x.2.1 < k)) * 2
            { s1 with pond := { s1.pond with cur := some { r with frames := r.frames ++ [frame], extra := r.extra ||| extra,
                                                                  flags := r.flags ||| late } } }

/-- POND_RECORD_CLOSE (R355). -/
def execPondRecordClose (t : Nat) (s : State) : Out :=
  ev t s fun s =>
    match s.pond.cur with
    | some r =>
      if pondFull s r then
        let s1 := closePond false r s
        -- what has come after the last frame falls in the re-arm (R353)
        s1.pond.trigs.foldl (fun a _ => pondMissed a) { s1 with pond := { s1.pond with phase := 3, rearmAt := s.pond.decided, trigs := [] } }
      else s
    | none => s

/-- POND_REARM_END (R355, R356): at most 2 µs after the capture instant of the last frame. -/
def execPondRearmEnd (t : Nat) (s : State) : Out :=
  ev t s fun s => if s.pond.phase = 3 ∧ tbRuns s then takeSegment (capAt (pondCfg s) s.now) s else s

/-! ### Triggers (R353, R359) -/

/-- XTRIG asserted at an instant: ignored while Pond drives the ball and for 16 ticks afterwards (R359; DEDUCED,
notes/assumptions/67.md). -/
def xtrigIn (inst : Nat) (s : State) : State :=
  if inst < s.pond.xDrive + 16 ∧ s.pond.xDrive ≠ 0 ∧ s.pond.xDrive ≤ inst + 32 then s else pondTrig 1 inst 0 0 s

/-- POND_TRIGGER_INPUT (R353): a trigger of a source of Table 15.4. -/
def execPondTriggerInput (t : Nat) (source : Nat) (s : State) : Out :=
  ev t s fun s => if source = 1 then xtrigIn t s else if source ≤ 10 then pondTrig source t 0 0 s else s

/-- XTRIG_ASSERT (R359): the ball has stood for 8 ticks. -/
def execXtrigAssert (t : Nat) (s : State) : Out := ev t s fun s => xtrigIn (t - 8) s

/-- TRIG_IN_EDGE (R359): the edge has stood for 8 ticks. -/
def execTrigInEdge (t : Nat) (i : Nat) (s : State) : Out := ev t s fun s => if i < 4 then pondTrig (2 + i) (t - 8) 0 0 s else s

/-- XTRIG_DRIVE_END (R359): the ball is released; it stays ignored for 16 ticks more. -/
def execXtrigDriveEnd (t : Nat) (s : State) : Out :=
  ev t s fun s => if reached s s.pond.xDrive then { s with pond := { s.pond with xDriven := false } } else s

/-- OP_POND_TRIGGER (R359). -/
def execOpPondTrigger (r : Req) (s : State) : Out :=
  runOp { code := 0x1805, states := stIARTS } r s fun p s => fourReserved p fun _ => .done (pondTrig 10 s.now 0 0 s)

/-! ### Readout (R361, R362) -/

def heldRec (s : State) (n : Nat) : Option PRec := s.pond.held.find? fun r => r.recNo == n

/-- OP_POND_READ (R361). -/
def execOpPondRead (r : Req) (s : State) : Out :=
  runOp { code := 0x1806, states := stIARTS } r s fun p s =>
    chk [lenIs p 16, outOf (u32 p 12) 1 4000 12] fun _ =>
      match heldRec s (u64 p 0) with
      | none => .no .notReady 0
      | some x =>
        if x.size < u32 p 8 + u32 p 12 then .no .range 0
        else .give (updHeld x.recNo (fun y => { y with readTo := s.now + msT 100 }) s) ((x.bytes.drop (u32 p 8)).take (u32 p 12))

/-- Free the segment of a record; a full Pond re-arms (R356, R361). -/
def freeRec (n : Nat) (s : State) : State :=
  let s1 := { s with pond := { s.pond with held := s.pond.held.filter fun r => r.recNo != n } }
  if s.pond.phase = 4 then { s1 with pond := { s1.pond with phase := 3, rearmAt := s.now } } else s1

/-- OP_POND_FREE (R361). -/
def execOpPondFree (r : Req) (s : State) : Out :=
  runOp { code := 0x1807, states := stIARTS } r s fun p s =>
    chk [lenIs p 8, ((heldRec s (u64 p 0)).isNone, .notReady, 0)] fun _ => .done (freeRec (u64 p 0) s)

/-- OP_POND_LIST (R361). -/
def execOpPondList (r : Req) (s : State) : Out :=
  runOp { code := 0x1808, states := stIARTS } r s fun p s =>
    fourReserved p fun _ => .give s (le 2 s.pond.held.length ++ le 2 0 ++ s.pond.held.flatMap fun x => le 8 x.recNo)

/-- A packet of the record still waits to be sent to its partner or acknowledged (R362). -/
def streamPending (s : State) (r : PRec) : Bool :=
  !(streamOffsets r.recNo (streamLeft (sess s (partner s r.dest).session) (orig s r.dest))).isEmpty

/-- POND_STREAM_ACKED (R362): the record's packets have all been sent, and the session has acknowledged them. -/
def execPondStreamAcked (t : Nat) (n : Nat) (s : State) : Out :=
  ev t s fun s =>
    match heldRec s n with
    | some r => if r.streaming ∧ r.size ≤ r.sentTo ∧ ¬ streamPending s r then freeRec n s else s
    | none => s

/-- POND_READ_HOLD_END (R361): the record may be overwritten again at the next re-arm; a full Pond stays FULL until a
segment is freed (R356). -/
def execPondReadHoldEnd (t : Nat) (n : Nat) (s : State) : Out :=
  ev t s fun s =>
    match heldRec s n with
    | some r => if due s r.readTo then updHeld n (fun y => { y with readTo := 0 }) s else s
    | none => s

/-- OP_POND_GET_STATUS (Tables 15.7, 15.8). -/
def execOpPondGetStatus (r : Req) (s : State) : Out :=
  runOp { code := 0x1809, states := stIARTS } r s fun p s =>
    fourReserved p fun _ =>
      let x := s.pond
      let wait := match streamTo s with | some id => !sessOpenWith s id && !x.held.isEmpty | none => false
      let flags := b2n x.cfg.isSome + 2 * b2n x.armed + 4 * b2n (x.phase == 2) + 8 * b2n (x.phase == 4) + 16 * b2n (x.phase == 5) +
        32 * b2n wait
      let c (o : Nat) : Bytes := le 4 (c32 s 0x1809 0 o)
      .give s (le 2 flags ++ le 2 x.held.length ++ le 8 x.nextRec ++ le 4 x.pre.length ++ c 20 ++ c 24 ++ c 28 ++ c 32)

end Sys2Proof.Machine
end

