-- ==== Sys2Proof/Machine/Supplies.lean ====
section
/-! DEFINITION. Supplies, the sag policy, resets, their release and the start of an image
(19_supplies_reset.md R424 to R433, 20_security.md R439). -/

namespace Sys2Proof.Machine

open Sys2Proof

/-! ### Warnings (R425, R426, R428) -/

/-- OP_SYS_SET_SAG (R428). -/
def execOpSysSetSag (r : Req) (s : State) : Out :=
  runOp { code := 0x000D, states := stIAS } r s fun p s =>
    chk [lenIs p 4, (decide (2 < u8 p 0), .badParam, 0), outOf (u8 p 1) 0 6 1, rsv p 2 2] fun _ =>
      .give { s with pwr := { s.pwr with policy := u8 p 0, vcoreWarn := u8 p 1 } } (le 1 (u8 p 0) ++ le 1 (u8 p 1) ++ le 2 0)

/-- SAG of HW_INT_CAUSE (Table 16.12). -/
def sagCause (s : State) : State := { s with win := { s.win with intCause := s.win.intCause ||| 32 } }

/-- The start of a warning is reported: its event, WARN_SEEN and the interrupt cause; under PRE_MITTEN with the class
where no other supply is in warning (R425, R426). -/
def sayWarning (supply : Nat) (first : Bool) (s : State) : State :=
  let s1 := sagCause { s with pwr := { s.pwr with warnSeen := s.pwr.warnSeen ||| 2 ^ supply } }
  if s.pwr.policy = 2 ∧ first then raiseClass 11 0x0003 (det supply 1) [] s1 else raise 0x0003 (det supply 1) [] s1

/-- SHED: capture stops and the lanes with SHED set put their transmitters to sleep (R426). -/
def shed (s : State) : State :=
  let s1 := pondSuspend { s with pwr := { s.pwr with shedding := true } }
  (List.range 16).foldl (fun a n => shedLane n a) s1

/-- The last warning under SHED has ended: the transmitters that it put to sleep wake (R426). -/
def unshed (s : State) : State :=
  let s1 := { s with pwr := { s.pwr with shedding := false, shedSlept := [] } }
  pondResume (s.pwr.shedSlept.foldl (fun a n => txWakeNow n a) s1)

/-- SUPPLY_WARNING_START (R425, R426; DEDUCED, notes/assumptions/123.md). -/
def execSupplyWarningStart (t : Nat) (supply : Nat) (s : State) : Out :=
  evAny t s fun s =>
    if 3 < supply ∨ s.pwr.warn.contains supply then s
    else
      let s1 := { s with pwr := { s.pwr with warn := supply :: s.pwr.warn } }
      if s.pwr.inReset then s1
      else
        let s2 := sayWarning supply s.pwr.warn.isEmpty s1
        if s.pwr.policy = 1 then shed s2 else s2

/-- SUPPLY_WARNING_END (R425, R426): the supply stands above its reset threshold again (R430). -/
def execSupplyWarningEnd (t : Nat) (supply : Nat) (s : State) : Out :=
  evAny t s fun s0 =>
    let s := { s0 with pwr := { s0.pwr with low := s0.pwr.low.filter (· != supply) } }
    if ¬ s.pwr.warn.contains supply then s
    else
      let s1 := { s with pwr := { s.pwr with warn := s.pwr.warn.filter (· != supply) } }
      if s.pwr.inReset then s1
      else
        let s2 := sagCause (raise 0x0003 (det supply 0) [] s1)
        if s2.pwr.warn.isEmpty ∧ s2.pwr.shedding then unshed s2 else s2

/-! ### Resets (R430, R431) -/

/-- SAG_RESET (R430): where every supply has fallen below its reset threshold, the latch is lost and reads POWER. A supply
is below it from this row until its warning has ended or reset is released (DESIGN CHOICE, notes/assumptions/197.md).
Whether VIO33, once it is below, falls below 0.8 V too is free (R424; DESIGN CHOICE, notes/assumptions/2.md). -/
def execSagReset (supply : Nat) (s : State) : Out :=
  if 3 < supply then .next (finish s s)
  else
    let low := if s.pwr.low.contains supply then s.pwr.low else supply :: s.pwr.low
    let off := s.pwr.ioOff || (low.contains 1 && Config.freeNat s.draws % 2 == 1)
    let s1 := resetDevice 2 supply { s with draws := s.draws + 1, pwr := { s.pwr with low := low, ioOff := off } }
    .next (if low.length = 4 then { s1 with pwr := { s1.pwr with cause := 1, sagSupply := 0 } } else s1)

/-- POR_N_RESET (R430). -/
def execPorNReset (s : State) : Out := .next (resetDevice 3 0 { s with pwr := { s.pwr with porLow := true } })

/-- POWER_ON (R424, Table 19.3): VIO33 has risen past 0.8 V; the supplies were off, so that no hold, cause or level of
before is left. -/
def execPowerOn (s : State) : Out :=
  let s1 := resetDevice 1 0 { s with leg := s.leg.map fun e => (e.1, { e.2 with gh := false, gl := false, hold := none }) }
  .next { s1 with pwr := { s1.pwr with cause := 1, sagSupply := 0, low := [], porLow := false, ioOff := false } }

/-- RESET_RELEASE (R432): every supply has been at its release level and POR_N high for 1 ms. Whether the XO already
oscillates, so that its settle count runs from here (18_timing.md R404), is free (DESIGN CHOICE, notes/assumptions/2.md). -/
def execResetRelease (twinId : Bool) (oscSet : Nat) (s : State) : Out :=
  ev0 s fun s =>
    if ¬ s.pwr.inReset then s
    else
      let d := drawNat s
      let s1 : State := { d.2 with
        pwr := { d.2.pwr with inReset := false, low := [], porLow := false, ioOff := false }
        twin := { d.2.twin with idB := twinId }
        clk := { d.2.clk with oscSet := oscSet % 8, xoSettling := d.1 % 2 == 1, xoFrom := d.2.now } }
      let s2 := raise 0x0004 (det s1.pwr.cause (if s1.pwr.cause = 2 then s1.pwr.sagSupply else 0)) [] s1
      (s2.pwr.warn.reverse).foldl (fun a k => sayWarning k false a) s2

/-! ### Start of an image (20_security.md R439, 08_acquisition.md R211) -/

/-- BOOT_SLOT_SELECTION (R439): TRY_SLOT once, else PERM_SLOT; READY of the status byte is set (R432; DEDUCED,
notes/assumptions/11.md). -/
def execBootSlotSelection (s : State) : Out :=
  ev0 s fun s =>
    if s.pwr.inReset ∨ s.sys.state ≠ .boot ∨ s.win.ready ∨ s.sec.running ≠ 0 ∨ s.sec.verifying.isSome then s
    else
      let m := bootRec s.mram
      let b := m.tryB.getD m.permB
      let s1 := if m.tryB.isSome then writeBoot { m with tryB := none } s else s
      { s1 with win := { s1.win with ready := true }, sec := { s1.sec with verifying := some (b2n b, .boot false m.tryB.isSome) } }

/-- IDLE_ENTRY_FROM_BOOT (R211, R439, R441): a verified image starts. -/
def execIdleEntryFromBoot (t : Nat) (s : State) : Out :=
  ev t s fun s =>
    if s.sys.state ≠ .boot ∨ s.sec.running = 0 ∨ s.sec.verifying.isSome then s else loadCal (enterState .idle s)

end Sys2Proof.Machine
end

