-- ==== Sys2Proof/Machine/Transport.lean ====
section
/-! DEFINITION. The QSPI port, the host window and the recovery opcodes (16_command_transport.md). -/

namespace Sys2Proof.Machine

open Sys2Proof

/-! ### Recovery opcodes -/

/-- OP_SYS_HELLO (R374): NEXT_OUT is filled in as the reply is queued. -/
def execOpSysHello (r : Req) (s : State) : Out :=
  runOp { code := 1, states := stBIARTS } r s fun p s =>
    chk [lenIs p 12, rsv p 1 3, (u8 p 0 / 16 != 2 && u8 p 0 / 16 != 3, .version, 0)] fun _ =>
      let ver := if u8 p 0 / 16 = 3 then 0x32 else u8 p 0
      let o := orig s r.org
      let exp := (r.seq + 1) % 2 ^ 32
      let s1 := setOrig r.org { o with expected := some exp, gapSaid := false, aborting := none, chain := none,
                                       deadChain := none, evMask := u64 p 4, ver := ver } s
      -- VER of an ETHERNET partner's entry is the version it has negotiated (12_partners_sessions.md Table 12.1)
      let s1 := if r.org ≠ 0 ∧ (partner s1 r.org).path = 1 then setPartner r.org { partner s1 r.org with ver := ver } s1 else s1
      .give s1 (le 1 ver ++ le 3 0 ++ le 4 0x77300B01 ++ le 4 exp ++ le 4 ((o.nextOut + 1) % 2 ^ 32))

/-- Packets of an originator in the replay store, oldest first (R373). -/
def heldFor (s : State) (org : Nat) : List OutPkt := (s.pkt.store.filter fun k => k.org == org).map Stored.pkt

/-- OP_SYS_RESYNC (R375, Table 16.6): it changes nothing. IN_FLIGHT is what is in flight beside it, as in Table 16.7, and
LAST_SENT is filled in as the reply is queued. -/
def execOpSysResync (r : Req) (s : State) : Out :=
  .next (finish s (runReq { code := 2, states := stBIARTS } r s (fun _ s => .done s) fun p s =>
    fourReserved p fun _ =>
      let o := orig s r.org
      let h := heldFor s r.org
      let fl := (s.pkt.inFlight.filter fun f => f.org == r.org && !f.is r.org r.seq 2).length
      .give s
        (le 4 (o.expected.getD 0) ++ le 4 ((o.nextOut + 2 ^ 32 - 1) % 2 ^ 32) ++ le 4 ((h.head?.map OutPkt.seq).getD 0) ++
          le 2 h.length ++ le 2 fl ++
          le 1 (b2n o.expected.isNone + 2 * b2n o.aborting.isSome + 4 * b2n o.chain.isSome) ++ le 1 o.ver)))

/-- OP_SYS_REPLAY (R376). -/
def execOpSysReplay (r : Req) (s : State) : Out :=
  runOp { code := 3, states := stBIARTS } r s fun p s =>
    let o := orig s r.org
    let last := (o.nextOut + 2 ^ 32 - 1) % 2 ^ 32
    let h := heldFor s r.org
    let from_ := u32 p 0
    chk [lenIs p 8, rsv p 6 2, outOf (u16 p 4) 1 256 4, (decide (0 < sdiff from_ last), .range, 0)] fun _ =>
      let oldest := (h.head?.map OutPkt.seq).getD 0
      let first := if h.isEmpty then from_ else seqMax from_ oldest
      let ps := (h.filter fun k => decide (0 ≤ sdiff k.seq first)).take (u16 p 4)
      let w := owedTo r 3
      -- the reply goes first, then the packets
      let s1 := answer { w with ackReq := true } .ok 0 (le 4 first ++ le 2 ps.length ++ le 2 0) s
      .later (ps.foldl (fun a k => replay r.org k a) s1)

/-! ### The host window (R383, Tables 16.9 to 16.14) -/

/-- QSPI status byte (Table 16.9). -/
def statusByte (s : State) : Nat :=
  b2n s.win.lastErr * 32 + b2n (s.sys.state == .boot) * 16 + b2n (intN s) * 8 + b2n (txAvail s) * 4 +
    b2n (rxSpace s) * 2 + b2n s.win.ready

/-- HW_STATUS (Table 16.11). -/
def hwStatus (s : State) : Nat :=
  let o := orig s 0
  s.sys.mode.code * 2 ^ 12 + s.sys.state.code * 2 ^ 8 + b2n o.expected.isNone * 128 + b2n o.aborting.isSome * 64 +
    b2n o.chain.isSome * 32 + b2n (intN s) * 16 + b2n (txAvail s) * 8 + b2n (rxSpace s) * 4 + b2n (tbRuns s) * 2 +
    b2n s.win.ready

/-- The value a register of the window reads (Table 16.10). -/
def windowReg (s : State) (a : Nat) : Nat :=
  let o := orig s 0
  match a with
  | 0x00 => 0x77300B01
  | 0x04 => hwStatus s
  | 0x08 => s.win.intCause
  | 0x0C => s.win.intMask
  | 0x10 => min 4095 o.outq.length * 2 ^ 20 + queued o
  | 0x14 => (s.pkt.inFlight.filter fun f => f.org == 0).length * 2 ^ 20 + rxFree s
  | 0x18 => o.expected.getD 0
  | 0x1C => (o.nextOut + 2 ^ 32 - 1) % 2 ^ 32
  | 0x24 => hwSag s
  | 0x28 => hwClkstat s
  | 0x2C => hwBootstat s
  | 0x30 => 0x3200 + o.ver
  | 0x34 => stamp s % 2 ^ 32
  | 0x38 => s.win.tickHi
  | 0x3C => s.pkt.inFlight.length
  | 0x40 => c32 s 0 0 0x40
  | 0x44 => c32 s 0 0 0x44
  | 0x48 => c32 s 0 0 0x48
  | 0x4C => c32 s 0 0 0x4C
  | 0x50 => c32 s 0 0 0x50
  | 0x54 => c32 s 0 0 0x54
  | 0x58 => c32 s 0 0 0x58
  | 0x5C => c32 s 0 0 0x5C
  | _ => if 0x60 ≤ a ∧ a ≤ 0x7C then s.win.scratch.getD ((a - 0x60) / 4) 0 else 0

/-- The bits of `ones` cleared in `v`, where those in `set` are set by hardware in the same access (00_scope.md R10). -/
def w1c (v ones set : Nat) : Nat := maskOf ((bitsOf 32 (v ||| set)).filter fun i => !ones.testBit i || set.testBit i)

/-- Write ones to HW_INT_CAUSE (Table 16.12). -/
def writeCause (ones hw : Nat) (s : State) : State :=
  { s with win := { s.win with intCause := w1c s.win.intCause ones (hw % 1024) } }

/-- Write ones to WARN_SEEN of HW_SAG (19_supplies_reset.md R429). -/
def writeSag (ones starting : Nat) (s : State) : State :=
  { s with pwr := { s.pwr with warnSeen := w1c s.pwr.warnSeen (bits ones 19 16) (starting % 16) } }

/-- CLEAR_ABORT (R368). -/
def clearAbort (s : State) : State := setOrig 0 { orig s 0 with aborting := none } s

/-- Replies that waited for space enter the pull queue; where it was empty it becomes non-empty, which is cause TX_AVAIL (R379,
Table 16.12). -/
def refill (s : State) : State :=
  let s1 := admitWaiting 512 0 s
  if ¬ txAvail s ∧ txAvail s1 then { s1 with win := { s1.win with intCause := s1.win.intCause ||| 1 } } else s1

/-- FLUSH_TX: every queued pull packet is discarded, and the replay store keeps it; replies that waited for space
then enter the queue (Table 16.14, R379). -/
def flushTx (s : State) : State := refill (setOrig 0 { orig s 0 with outq := [] } s)

/-- KICK: TX_AVAIL is set again if the queue is non-empty (Table 16.14). -/
def kick (s : State) : State :=
  if txAvail s then { s with win := { s.win with intCause := s.win.intCause ||| 1 } } else s

/-- Write one register of the window (Tables 0.3, 16.10). HW_DOORBELL acts bit by bit, CLEAR_ABORT first. -/
def writeReg (a v : Nat) (s : State) : State :=
  if a = 0x08 then writeCause v 0 s
  else if a = 0x0C then { s with win := { s.win with intMask := v % 1024 } }
  else if a = 0x20 then
    let s1 := if v.testBit 2 then clearAbort s else s
    let s2 := if v.testBit 1 then flushTx s1 else s1
    if v.testBit 0 then kick s2 else s2
  else if a = 0x24 then writeSag v 0 s
  else if 0x60 ≤ a ∧ a ≤ 0x7C then { s with win := { s.win with scratch := s.win.scratch.put ((a - 0x60) / 4) v } }
  else s

/-- A transaction that ends without effect (R382). -/
def badTransaction (s : State) : State :=
  let s1 := bump 0 0 0x5C s
  { s1 with win := { s1.win with lastErr := true, intCause := s1.win.intCause ||| 8 } }

/-- A burst of register writes: 4 bytes each, the address advancing by 4; beyond 0xFC nothing is written (R382). -/
def writeBurst (fuel a : Nat) (d : Bytes) (s : State) : State :=
  match fuel with
  | 0 => s
  | n + 1 =>
    if d.length < 4 ∨ 0xFC < a then s else writeBurst n (a + 4) (d.drop 4) (writeReg a (u32 d 0) s)

/-- Instruction 0x02 (R381, R382). -/
def execQspiWriteWindow (t addr : Nat) (data : Bytes) (s : State) : Out :=
  ev t s fun s => if addr % 4 ≠ 0 then badTransaction s else writeBurst 64 addr data s

/-- A write of ones to HW_INT_CAUSE; `hwSet` are bits hardware sets in the same access (00_scope.md Table 0.3). -/
def execHwIntCauseW1c (t ones hwSet : Nat) (s : State) : Out := ev t s (writeCause ones hwSet)

/-- A write of ones to WARN_SEEN; `starting` are supplies whose warning starts in the same access (R429). -/
def execHwSagWarnSeenClear (t ones starting : Nat) (s : State) : Out := ev t s (writeSag ones starting)

def execClearAbort (t : Nat) (s : State) : Out := ev t s clearAbort

def execFlushTx (t : Nat) (s : State) : Out := ev t s flushTx

def execKick (t : Nat) (s : State) : Out := ev t s kick

/-- A burst of register reads, 4 bytes each, the address advancing by 4; beyond 0xFC zeros are read. Reading HW_TICK_LO
latches the high word into HW_TICK_HI (R382, R383). -/
def readBurst (fuel a : Nat) (s : State) : Bytes × State :=
  match fuel with
  | 0 => ([], s)
  | n + 1 =>
    let s1 := if a = 0x34 then { s with win := { s.win with tickHi := stamp s / 2 ^ 32 % 2 ^ 32 } } else s
    let r := readBurst n (a + 4) s1
    (le 4 (windowReg s1 a) ++ r.1, r.2)

/-- Instruction 0x0B: a read of window registers from an address, HW_TICK_LO or any other (R381 to R383, 00_scope.md R10). -/
def execHwTickLoRead (read : RegRead) (s : State) : Out :=
  ev read.tick s fun s =>
    if read.addr % 4 ≠ 0 then badTransaction s
    else
      let r := readBurst read.regs read.addr s
      { r.2 with win := { r.2.win with hostOut := r.1 } }

/-- The status byte as it is driven again and again: the first one clears LAST_ERR (Table 16.9; DEDUCED,
notes/assumptions/181.md). -/
def statusBytes (n : Nat) (s : State) : Bytes :=
  match n with
  | 0 => []
  | k + 1 => le 1 (statusByte s) ++ (List.replicate k (le 1 (statusByte { s with win := { s.win with lastErr := false } }))).flatten

/-- Instruction 0x05: the status byte, repeated while clocked; LAST_ERR clears on read (Tables 16.8, 16.9). -/
def execQspiReadStatus (read : StatusRead) (s : State) : Out :=
  ev read.tick s fun s =>
    { s with win := { s.win with hostOut := statusBytes read.bytes s, lastErr := s.win.lastErr && read.bytes == 0 } }

/-- A push discarded before check 1 (R377, R382). -/
def dropPush (s : State) : State := hostError 0 0x54 s

/-- Instruction 0x32: a packet arrives from the QSPI host (R366, R377, R382). -/
def execQspiPushPacket (t : Nat) (bytes : Bytes) (s : State) : Out :=
  ev t s fun s =>
    if ¬ s.win.ready ∨ 512 ≤ s.pkt.inFlight.length ∨ rxFree s < bytes.length then dropPush s
    else arrive 0 none bytes s

/-- Instruction 0x6B: BYTES, REMAIN and the head packet, which leaves the queue once `clocked` covers it (R382). -/
def execQspiPullPacket (t clocked : Nat) (s : State) : Out :=
  ev t s fun s =>
    let o := orig s 0
    match (if s.win.ready then o.outq else []) with
    | [] => { s with win := { s.win with hostOut := fit (4 + clocked) [] } }
    | k :: r =>
      let b := k.bytes
      let s1 := { s with win := { s.win with hostOut := fit (4 + clocked) (le 2 b.length ++ le 2 (min 0xFFFF r.length) ++ b) } }
      if b.length ≤ clocked then refill (setOrig 0 { o with outq := r } s1) else s1

/-- A transaction with an unknown instruction, a bad address or a partial byte (R382). -/
def execQspiBadTransaction (t : Nat) (s : State) : Out := ev t s badTransaction

/-- A continuation of a chain that arrived in time still waits in flight (R369, R378). -/
def continues (org : Nat) (c : Chain) (s : State) : Bool :=
  s.pkt.inFlight.any fun f => f.org == org && f.opcode == c.opcode && f.tag == c.tag && !f.begun && decide (f.since < c.since + msT 1000)

/-- No continuation has arrived within 1 s of the last chain packet: the chain is discarded, and its next continuation is refused
(R369). -/
def execChainContinuationTimeout (t org : Nat) (s : State) : Out :=
  ev t s fun s =>
    let o := orig s org
    match o.chain with
    | none => s
    | some c =>
      if due s (c.since + msT 1000) ∧ ¬ continues org c s then setOrig org { o with chain := none, deadChain := some (c.opcode, c.tag) } s else s

end Sys2Proof.Machine
end

