-- ==== Sys2Proof/Machine/Dispatch.lean ====
section
/-! DEFINITION. One arm per command of the table: each calls the one definition of its meaning. -/

namespace Sys2Proof.Machine

def exec (i : Instr) (s : State) : Host.Outcome State Fault Refusal :=
  match i with
  | .opSysHello r => Sys2Proof.Machine.execOpSysHello r s
  | .opSysResync r => Sys2Proof.Machine.execOpSysResync r s
  | .opSysReplay r => Sys2Proof.Machine.execOpSysReplay r s
  | .opSysGetInfo r => Sys2Proof.Machine.execOpSysGetInfo r s
  | .opSysSetStep r => Sys2Proof.Machine.execOpSysSetStep r s
  | .opSysArm r => Sys2Proof.Machine.execOpSysArm r s
  | .opSysRun r => Sys2Proof.Machine.execOpSysRun r s
  | .runEntryBoundary t => Sys2Proof.Machine.execRunEntryBoundary t s
  | .opSysStop r => Sys2Proof.Machine.execOpSysStop r s
  | .stopRampEnd t => Sys2Proof.Machine.execStopRampEnd t s
  | .opSysDisarm r => Sys2Proof.Machine.execOpSysDisarm r s
  | .opSysService r => Sys2Proof.Machine.execOpSysService r s
  | .opSysIdle r => Sys2Proof.Machine.execOpSysIdle r s
  | .opSysSetSag r => Sys2Proof.Machine.execOpSysSetSag r s
  | .opSecGetId r => Sys2Proof.Machine.execOpSecGetId r s
  | .opSecQuote r => Sys2Proof.Machine.execOpSecQuote r s
  | .opSecImageLoad r => Sys2Proof.Machine.execOpSecImageLoad r s
  | .opSecImageVerify r => Sys2Proof.Machine.execOpSecImageVerify r s
  | .slotVerificationDone t => Sys2Proof.Machine.execSlotVerificationDone t s
  | .opSecSlotSelectTryOnce r => Sys2Proof.Machine.execOpSecSlotSelectTryOnce r s
  | .opSecSlotSelectPermanent r => Sys2Proof.Machine.execOpSecSlotSelectPermanent r s
  | .opSecReboot r => Sys2Proof.Machine.execOpSecReboot r s
  | .opSecOwnerFuse r => Sys2Proof.Machine.execOpSecOwnerFuse r s
  | .opSecDebugChallenge r => Sys2Proof.Machine.execOpSecDebugChallenge r s
  | .opSecDebugLock r => Sys2Proof.Machine.execOpSecDebugLock r s
  | .opSecDebugUnlock r => Sys2Proof.Machine.execOpSecDebugUnlock r s
  | .opSecCfgSave r => Sys2Proof.Machine.execOpSecCfgSave r s
  | .opSecCfgLoad r => Sys2Proof.Machine.execOpSecCfgLoad r s
  | .opSecJournalRead r => Sys2Proof.Machine.execOpSecJournalRead r s
  | .journalEntryWrite t => Sys2Proof.Machine.execJournalEntryWrite t s
  | .opTimeSetDomain r => Sys2Proof.Machine.execOpTimeSetDomain r s
  | .opTimeGetDomain r => Sys2Proof.Machine.execOpTimeGetDomain r s
  | .opTimeGet r => Sys2Proof.Machine.execOpTimeGet r s
  | .opTimeSetActive r => Sys2Proof.Machine.execOpTimeSetActive r s
  | .opTimeStep r => Sys2Proof.Machine.execOpTimeStep r s
  | .timeStepExecuted t => Sys2Proof.Machine.execTimeStepExecuted t s
  | .opTimeSetPps r => Sys2Proof.Machine.execOpTimeSetPps r s
  | .opClkSelect r => Sys2Proof.Machine.execOpClkSelect r s
  | .opClkSetPll r => Sys2Proof.Machine.execOpClkSetPll r s
  | .opClkSetRefout r => Sys2Proof.Machine.execOpClkSetRefout r s
  | .opClkGate r => Sys2Proof.Machine.execOpClkGate r s
  | .clockGateEffective t => Sys2Proof.Machine.execClockGateEffective t s
  | .opClkGetStatus r => Sys2Proof.Machine.execOpClkGetStatus r s
  | .opGfmSetParam r => Sys2Proof.Machine.execOpGfmSetParam r s
  | .opGfmCommit r => Sys2Proof.Machine.execOpGfmCommit r s
  | .opGfmDiscard r => Sys2Proof.Machine.execOpGfmDiscard r s
  | .opGfmGetParam r => Sys2Proof.Machine.execOpGfmGetParam r s
  | .opGfmGetState r => Sys2Proof.Machine.execOpGfmGetState r s
  | .opGfmMapChannel r => Sys2Proof.Machine.execOpGfmMapChannel r s
  | .opGfmSetSec r => Sys2Proof.Machine.execOpGfmSetSec r s
  | .opGridSetParam r => Sys2Proof.Machine.execOpGridSetParam r s
  | .opGridCommit r => Sys2Proof.Machine.execOpGridCommit r s
  | .opGridDiscard r => Sys2Proof.Machine.execOpGridDiscard r s
  | .opGridGetParam r => Sys2Proof.Machine.execOpGridGetParam r s
  | .opGridSetEnv r => Sys2Proof.Machine.execOpGridSetEnv r s
  | .opGridClRelease r => Sys2Proof.Machine.execOpGridClRelease r s
  | .opGridMapSync r => Sys2Proof.Machine.execOpGridMapSync r s
  | .opGridSyncStart r => Sys2Proof.Machine.execOpGridSyncStart r s
  | .opGridSyncStop r => Sys2Proof.Machine.execOpGridSyncStop r s
  | .opGridIslClear r => Sys2Proof.Machine.execOpGridIslClear r s
  | .opGridSetMode r => Sys2Proof.Machine.execOpGridSetMode r s
  | .opGridBsGroup r => Sys2Proof.Machine.execOpGridBsGroup r s
  | .opGridBsLoad r => Sys2Proof.Machine.execOpGridBsLoad r s
  | .opGridBsContinueProceed r => Sys2Proof.Machine.execOpGridBsContinueProceed r s
  | .opGridBsContinueRetry r => Sys2Proof.Machine.execOpGridBsContinueRetry r s
  | .opGridBsContinueSkip r => Sys2Proof.Machine.execOpGridBsContinueSkip r s
  | .opGridBsAbort r => Sys2Proof.Machine.execOpGridBsAbort r s
  | .opGridGetState r => Sys2Proof.Machine.execOpGridGetState r s
  | .opBrimSetChannel r => Sys2Proof.Machine.execOpBrimSetChannel r s
  | .opBrimSetArm r => Sys2Proof.Machine.execOpBrimSetArm r s
  | .opBrimGetStatus r => Sys2Proof.Machine.execOpBrimGetStatus r s
  | .opAngleSetTable r => Sys2Proof.Machine.execOpAngleSetTable r s
  | .opAngleWrite r => Sys2Proof.Machine.execOpAngleWrite r s
  | .opAngleRead r => Sys2Proof.Machine.execOpAngleRead r s
  | .opAngleSwap r => Sys2Proof.Machine.execOpAngleSwap r s
  | .angleBankExchange t => Sys2Proof.Machine.execAngleBankExchange t s
  | .angleCopyBackDone t => Sys2Proof.Machine.execAngleCopyBackDone t s
  | .opAngleBind r => Sys2Proof.Machine.execOpAngleBind r s
  | .opAngleBindRemove r => Sys2Proof.Machine.execOpAngleBindRemove r s
  | .opAngleInjSet r => Sys2Proof.Machine.execOpAngleInjSet r s
  | .opAngleInjStart r => Sys2Proof.Machine.execOpAngleInjStart r s
  | .injectionFadeInDone t => Sys2Proof.Machine.execInjectionFadeInDone t s
  | .correlationWindowEnd t => Sys2Proof.Machine.execCorrelationWindowEnd t s
  | .injectionFadeOutDone t => Sys2Proof.Machine.execInjectionFadeOutDone t s
  | .scanReportReady t => Sys2Proof.Machine.execScanReportReady t s
  | .opAngleInjStop r => Sys2Proof.Machine.execOpAngleInjStop r s
  | .opAngleCorrSet r => Sys2Proof.Machine.execOpAngleCorrSet r s
  | .opAngleScanRead r => Sys2Proof.Machine.execOpAngleScanRead r s
  | .opLegSetConfig r => Sys2Proof.Machine.execOpLegSetConfig r s
  | .opLegSync r => Sys2Proof.Machine.execOpLegSync r s
  | .legAnchorApplied t leg => Sys2Proof.Machine.execLegAnchorApplied t leg s
  | .opLegStage r => Sys2Proof.Machine.execOpLegStage r s
  | .opLegCommit r => Sys2Proof.Machine.execOpLegCommit r s
  | .opLegSetCmp r => Sys2Proof.Machine.execOpLegSetCmp r s
  | .opLegDisable r => Sys2Proof.Machine.execOpLegDisable r s
  | .opLegEnable r => Sys2Proof.Machine.execOpLegEnable r s
  | .opLegGetStatus r => Sys2Proof.Machine.execOpLegGetStatus r s
  | .opGntSetInputs r => Sys2Proof.Machine.execOpGntSetInputs r s
  | .opGntSetBlank r => Sys2Proof.Machine.execOpGntSetBlank r s
  | .opGntGetRecords r => Sys2Proof.Machine.execOpGntGetRecords r s
  | .opGntUnpin r => Sys2Proof.Machine.execOpGntUnpin r s
  | .opGntLoadTable r => Sys2Proof.Machine.execOpGntLoadTable r s
  | .opGntLoadTableFactory r => Sys2Proof.Machine.execOpGntLoadTableFactory r s
  | .opGntConfirm r => Sys2Proof.Machine.execOpGntConfirm r s
  | .opGntGetTable r => Sys2Proof.Machine.execOpGntGetTable r s
  | .opGntSetChop r => Sys2Proof.Machine.execOpGntSetChop r s
  | .opGntChopCtrlRelease r => Sys2Proof.Machine.execOpGntChopCtrlRelease r s
  | .opGntChopCtrlEnable r => Sys2Proof.Machine.execOpGntChopCtrlEnable r s
  | .opGntClear r => Sys2Proof.Machine.execOpGntClear r s
  | .opGntRaise r => Sys2Proof.Machine.execOpGntRaise r s
  | .opGntGetInput r => Sys2Proof.Machine.execOpGntGetInput r s
  | .opAcqSetConv r => Sys2Proof.Machine.execOpAcqSetConv r s
  | .opAcqSetPair r => Sys2Proof.Machine.execOpAcqSetPair r s
  | .opAcqCalibrate r => Sys2Proof.Machine.execOpAcqCalibrate r s
  | .calibrationDone t results => Sys2Proof.Machine.execCalibrationDone t results s
  | .opAcqGetCal r => Sys2Proof.Machine.execOpAcqGetCal r s
  | .opAcqSetCal r => Sys2Proof.Machine.execOpAcqSetCal r s
  | .opAcqSaveCal r => Sys2Proof.Machine.execOpAcqSaveCal r s
  | .opAcqGetStatus r => Sys2Proof.Machine.execOpAcqGetStatus r s
  | .tempMonitorRead t temps => Sys2Proof.Machine.execTempMonitorRead t temps s
  | .opFiltSetChain r => Sys2Proof.Machine.execOpFiltSetChain r s
  | .opFiltLoadCoef r => Sys2Proof.Machine.execOpFiltLoadCoef r s
  | .opFiltApply r => Sys2Proof.Machine.execOpFiltApply r s
  | .filterChangeEffective t chain => Sys2Proof.Machine.execFilterChangeEffective t chain s
  | .opFiltGetStatus r => Sys2Proof.Machine.execOpFiltGetStatus r s
  | .opPondSetCapture r => Sys2Proof.Machine.execOpPondSetCapture r s
  | .opPondArm r => Sys2Proof.Machine.execOpPondArm r s
  | .opPondDisarm r => Sys2Proof.Machine.execOpPondDisarm r s
  | .opPondSetTrig r => Sys2Proof.Machine.execOpPondSetTrig r s
  | .opPondTrigger r => Sys2Proof.Machine.execOpPondTrigger r s
  | .opPondRead r => Sys2Proof.Machine.execOpPondRead r s
  | .opPondFree r => Sys2Proof.Machine.execOpPondFree r s
  | .opPondList r => Sys2Proof.Machine.execOpPondList r s
  | .opPondGetStatus r => Sys2Proof.Machine.execOpPondGetStatus r s
  | .opLaneSetQuad r => Sys2Proof.Machine.execOpLaneSetQuad r s
  | .opLaneSetConfig r => Sys2Proof.Machine.execOpLaneSetConfig r s
  | .opLaneTrain r => Sys2Proof.Machine.execOpLaneTrain r s
  | .opLaneSlip r => Sys2Proof.Machine.execOpLaneSlip r s
  | .opLanePowerSleep r => Sys2Proof.Machine.execOpLanePowerSleep r s
  | .opLanePowerWake r => Sys2Proof.Machine.execOpLanePowerWake r s
  | .opLanePrbs r => Sys2Proof.Machine.execOpLanePrbs r s
  | .opLaneGetStatus r => Sys2Proof.Machine.execOpLaneGetStatus r s
  | .opStrandSetConfig r => Sys2Proof.Machine.execOpStrandSetConfig r s
  | .opStrandNodeClear r => Sys2Proof.Machine.execOpStrandNodeClear r s
  | .opStrandGetStatus r => Sys2Proof.Machine.execOpStrandGetStatus r s
  | .opStrandGetCell r => Sys2Proof.Machine.execOpStrandGetCell r s
  | .opPartSet r => Sys2Proof.Machine.execOpPartSet r s
  | .opPartRemove r => Sys2Proof.Machine.execOpPartRemove r s
  | .opPartGet r => Sys2Proof.Machine.execOpPartGet r s
  | .opPartList r => Sys2Proof.Machine.execOpPartList r s
  | .opPartSessionOpen r => Sys2Proof.Machine.execOpPartSessionOpen r s
  | .opPartSessionClose r => Sys2Proof.Machine.execOpPartSessionClose r s
  | .opPartGroup r => Sys2Proof.Machine.execOpPartGroup r s
  | .opPartPrepare r => Sys2Proof.Machine.execOpPartPrepare r s
  | .opPartCommit r => Sys2Proof.Machine.execOpPartCommit r s
  | .opPartCancel r => Sys2Proof.Machine.execOpPartCancel r s
  | .opPartSessStatus r => Sys2Proof.Machine.execOpPartSessStatus r s
  | .opNetSetPort r => Sys2Proof.Machine.execOpNetSetPort r s
  | .opNetSend r => Sys2Proof.Machine.execOpNetSend r s
  | .opNetTsqRead r => Sys2Proof.Machine.execOpNetTsqRead r s
  | .opNetGoosePub r => Sys2Proof.Machine.execOpNetGoosePub r s
  | .opNetGooseValue r => Sys2Proof.Machine.execOpNetGooseValue r s
  | .opNetGooseSub r => Sys2Proof.Machine.execOpNetGooseSub r s
  | .opNetSvPub r => Sys2Proof.Machine.execOpNetSvPub r s
  | .opNetGetPort r => Sys2Proof.Machine.execOpNetGetPort r s
  | .opTwinSetConfig r => Sys2Proof.Machine.execOpTwinSetConfig r s
  | .opTwinRelease r => Sys2Proof.Machine.execOpTwinRelease r s
  | .opTwinGetStatus r => Sys2Proof.Machine.execOpTwinGetStatus r s
  | .opDiagGetSlack r => Sys2Proof.Machine.execOpDiagGetSlack r s
  | .opDiagGetCnt r => Sys2Proof.Machine.execOpDiagGetCnt r s
  | .opDiagClearCnt r => Sys2Proof.Machine.execOpDiagClearCnt r s
  | .opDiagSelftest r => Sys2Proof.Machine.execOpDiagSelftest r s
  | .opTestPermitChallenge r => Sys2Proof.Machine.execOpTestPermitChallenge r s
  | .opTestPermitGrant r => Sys2Proof.Machine.execOpTestPermitGrant r s
  | .opTestPermitRevoke r => Sys2Proof.Machine.execOpTestPermitRevoke r s
  | .testPermitExpiry t => Sys2Proof.Machine.execTestPermitExpiry t s
  | .opTestInject r => Sys2Proof.Machine.execOpTestInject r s
  | .opTestStop r => Sys2Proof.Machine.execOpTestStop r s
  | .opTestStatus r => Sys2Proof.Machine.execOpTestStatus r s
  | .testInjectionEnd t slot => Sys2Proof.Machine.execTestInjectionEnd t slot s
  | .qspiWriteWindow t addr data => Sys2Proof.Machine.execQspiWriteWindow t addr data s
  | .hwIntCauseW1c t ones hwSet => Sys2Proof.Machine.execHwIntCauseW1c t ones hwSet s
  | .hwSagWarnSeenClear t ones starting => Sys2Proof.Machine.execHwSagWarnSeenClear t ones starting s
  | .clearAbort t => Sys2Proof.Machine.execClearAbort t s
  | .flushTx t => Sys2Proof.Machine.execFlushTx t s
  | .kick t => Sys2Proof.Machine.execKick t s
  | .hwTickLoRead read => Sys2Proof.Machine.execHwTickLoRead read s
  | .qspiReadStatus read => Sys2Proof.Machine.execQspiReadStatus read s
  | .qspiPushPacket t bytes => Sys2Proof.Machine.execQspiPushPacket t bytes s
  | .qspiPullPacket t clocked => Sys2Proof.Machine.execQspiPullPacket t clocked s
  | .qspiBadTransaction t => Sys2Proof.Machine.execQspiBadTransaction t s
  | .chainContinuationTimeout t org => Sys2Proof.Machine.execChainContinuationTimeout t org s
  | .replyPacketReceived t org opcode tag payload => Sys2Proof.Machine.execReplyPacketReceived t org opcode tag payload s
  | .outerStepBoundary t => Sys2Proof.Machine.execOuterStepBoundary t s
  | .outerStepComplete t => Sys2Proof.Machine.execOuterStepComplete t s
  | .publishTick t => Sys2Proof.Machine.execPublishTick t s
  | .gfClExit t => Sys2Proof.Machine.execGfClExit t s
  | .evGridClLong t => Sys2Proof.Machine.execEvGridClLong t s
  | .envelopePointExceeded t env point => Sys2Proof.Machine.execEnvelopePointExceeded t env point s
  | .envelopeTimerReset t env point => Sys2Proof.Machine.execEnvelopeTimerReset t env point s
  | .obsLockGained t => Sys2Proof.Machine.execObsLockGained t s
  | .evGfmBlendDone t => Sys2Proof.Machine.execEvGfmBlendDone t s
  | .evGfmSecStale t => Sys2Proof.Machine.execEvGfmSecStale t s
  | .handoverBlendDone t => Sys2Proof.Machine.execHandoverBlendDone t s
  | .handoverPendingTimeout t => Sys2Proof.Machine.execHandoverPendingTimeout t s
  | .evGridGflLost t => Sys2Proof.Machine.execEvGridGflLost t s
  | .evGridSyncOk t => Sys2Proof.Machine.execEvGridSyncOk t s
  | .syncBreakerClosed t => Sys2Proof.Machine.execSyncBreakerClosed t s
  | .bsStepStart t => Sys2Proof.Machine.execBsStepStart t s
  | .bsStepComplete t => Sys2Proof.Machine.execBsStepComplete t s
  | .bsStepTimeout t => Sys2Proof.Machine.execBsStepTimeout t s
  | .bsClosePulseEnd t => Sys2Proof.Machine.execBsClosePulseEnd t s
  | .bsWaitVHeld t => Sys2Proof.Machine.execBsWaitVHeld t s
  | .acqConversion t conv pv => Sys2Proof.Machine.execAcqConversion t conv pv s
  | .fastWordDelivered t conv => Sys2Proof.Machine.execFastWordDelivered t conv s
  | .brimDecision t ch split slips => Sys2Proof.Machine.execBrimDecision t ch split slips s
  | .brimOutputSlot t ch => Sys2Proof.Machine.execBrimOutputSlot t ch s
  | .minTimeExpiry t ch => Sys2Proof.Machine.execMinTimeExpiry t ch s
  | .anpcChainSecondChange t ch => Sys2Proof.Machine.execAnpcChainSecondChange t ch s
  | .filterInputWord t chain => Sys2Proof.Machine.execFilterInputWord t chain s
  | .filterOutputDelivered t chain => Sys2Proof.Machine.execFilterOutputDelivered t chain s
  | .auxWordClose t conv steps => Sys2Proof.Machine.execAuxWordClose t conv steps s
  | .legPeriodBoundary t leg => Sys2Proof.Machine.execLegPeriodBoundary t leg s
  | .legApexUpdate t leg => Sys2Proof.Machine.execLegApexUpdate t leg s
  | .legOutputEdge t leg => Sys2Proof.Machine.execLegOutputEdge t leg s
  | .deadTimeExpiry t leg => Sys2Proof.Machine.execDeadTimeExpiry t leg s
  | .nodeCommutation t leg level => Sys2Proof.Machine.execNodeCommutation t leg level s
  | .commutationWatchEnd t leg => Sys2Proof.Machine.execCommutationWatchEnd t leg s
  | .refreshGuard t leg => Sys2Proof.Machine.execRefreshGuard t leg s
  | .refreshLowEnd t leg => Sys2Proof.Machine.execRefreshLowEnd t leg s
  | .interlockBlankEnd t leg => Sys2Proof.Machine.execInterlockBlankEnd t leg s
  | .legCompareFire t leg cmp => Sys2Proof.Machine.execLegCompareFire t leg cmp s
  | .trigOutPulseEnd t out => Sys2Proof.Machine.execTrigOutPulseEnd t out s
  | .mitDelayHoldEnd t leg => Sys2Proof.Machine.execMitDelayHoldEnd t leg s
  | .mittenAssertWaitEnd t leg => Sys2Proof.Machine.execMittenAssertWaitEnd t leg s
  | .faultInputAssert t input => Sys2Proof.Machine.execFaultInputAssert t input s
  | .faultInputRelease t input => Sys2Proof.Machine.execFaultInputRelease t input s
  | .faultInputRecognised t input => Sys2Proof.Machine.execFaultInputRecognised t input s
  | .blankingWindowEnd t input => Sys2Proof.Machine.execBlankingWindowEnd t input s
  | .faultRecordClose t => Sys2Proof.Machine.execFaultRecordClose t s
  | .mittenNAssert t => Sys2Proof.Machine.execMittenNAssert t s
  | .mittenNQualified t => Sys2Proof.Machine.execMittenNQualified t s
  | .mittenNRelease t => Sys2Proof.Machine.execMittenNRelease t s
  | .chopperSample t chop => Sys2Proof.Machine.execChopperSample t chop s
  | .chopperEdge t chop => Sys2Proof.Machine.execChopperEdge t chop s
  | .chopperEnergyUpdate t chop => Sys2Proof.Machine.execChopperEnergyUpdate t chop s
  | .supplyWarningStart t supply => Sys2Proof.Machine.execSupplyWarningStart t supply s
  | .supplyWarningEnd t supply => Sys2Proof.Machine.execSupplyWarningEnd t supply s
  | .sagReset supply => Sys2Proof.Machine.execSagReset supply s
  | .porNReset => Sys2Proof.Machine.execPorNReset s
  | .powerOn => Sys2Proof.Machine.execPowerOn s
  | .resetRelease twinId oscSet => Sys2Proof.Machine.execResetRelease twinId oscSet s
  | .bootSlotSelection => Sys2Proof.Machine.execBootSlotSelection s
  | .idleEntryFromBoot t => Sys2Proof.Machine.execIdleEntryFromBoot t s
  | .xoSettleDone => Sys2Proof.Machine.execXoSettleDone s
  | .sourceReady t src => Sys2Proof.Machine.execSourceReady t src s
  | .sourceLoss t src cause => Sys2Proof.Machine.execSourceLoss t src cause s
  | .tbLockDeclared => Sys2Proof.Machine.execTbLockDeclared s
  | .phaseTrip t => Sys2Proof.Machine.execPhaseTrip t s
  | .holdValidSet t => Sys2Proof.Machine.execHoldValidSet t s
  | .recoveringLocked t => Sys2Proof.Machine.execRecoveringLocked t s
  | .phaseTripRecovery t => Sys2Proof.Machine.execPhaseTripRecovery t s
  | .wellspringRevert t => Sys2Proof.Machine.execWellspringRevert t s
  | .loopFaultStop t => Sys2Proof.Machine.execLoopFaultStop t s
  | .debugHalt t engine => Sys2Proof.Machine.execDebugHalt t engine s
  | .ppsOutSecond t => Sys2Proof.Machine.execPpsOutSecond t s
  | .ppsOutPulseEnd t => Sys2Proof.Machine.execPpsOutPulseEnd t s
  | .ppsInEdge t => Sys2Proof.Machine.execPpsInEdge t s
  | .refoutEdge t out => Sys2Proof.Machine.execRefoutEdge t out s
  | .ptpMessageReceived t port head msg => Sys2Proof.Machine.execPtpMessageReceived t port head msg s
  | .ptpAnnounceTimeout t dom => Sys2Proof.Machine.execPtpAnnounceTimeout t dom s
  | .ptpMasterMessageTx t dom kind => Sys2Proof.Machine.execPtpMasterMessageTx t dom kind s
  | .timeSlewDone t => Sys2Proof.Machine.execTimeSlewDone t s
  | .ethernetFrameReceived t port frame => Sys2Proof.Machine.execEthernetFrameReceived t port frame s
  | .ethernetLinkChange t port up => Sys2Proof.Machine.execEthernetLinkChange t port up s
  | .prpSupervisionTx t pair => Sys2Proof.Machine.execPrpSupervisionTx t pair s
  | .prpNodeForget t pair => Sys2Proof.Machine.execPrpNodeForget t pair s
  | .txTimestamp t port => Sys2Proof.Machine.execTxTimestamp t port s
  | .gooseRepeatTx t pub => Sys2Proof.Machine.execGooseRepeatTx t pub s
  | .gooseFrameReceived t port frame => Sys2Proof.Machine.execGooseFrameReceived t port frame s
  | .gooseSubLost t sub => Sys2Proof.Machine.execGooseSubLost t sub s
  | .svSamplePublish t stream => Sys2Proof.Machine.execSvSamplePublish t stream s
  | .sessionSegmentReceived t path seg => Sys2Proof.Machine.execSessionSegmentReceived t path seg s
  | .sessionRetxTimer t ctx => Sys2Proof.Machine.execSessionRetxTimer t ctx s
  | .sessionAckDue t ctx => Sys2Proof.Machine.execSessionAckDue t ctx s
  | .sessionKeepalive t ctx => Sys2Proof.Machine.execSessionKeepalive t ctx s
  | .sessionProbe t ctx => Sys2Proof.Machine.execSessionProbe t ctx s
  | .sessionOpenRetx t ctx => Sys2Proof.Machine.execSessionOpenRetx t ctx s
  | .sessionCloseRetx t ctx => Sys2Proof.Machine.execSessionCloseRetx t ctx s
  | .autoSessionRetry t partner => Sys2Proof.Machine.execAutoSessionRetry t partner s
  | .partnerLivenessTimeout t partner => Sys2Proof.Machine.execPartnerLivenessTimeout t partner s
  | .txnSlotFreed t txn => Sys2Proof.Machine.execTxnSlotFreed t txn s
  | .groupPrepareDeadline t txn => Sys2Proof.Machine.execGroupPrepareDeadline t txn s
  | .groupCommitAbandon t txn => Sys2Proof.Machine.execGroupCommitAbandon t txn s
  | .groupReplyDue t txn => Sys2Proof.Machine.execGroupReplyDue t txn s
  | .groupMemberExecute t txn => Sys2Proof.Machine.execGroupMemberExecute t txn s
  | .preparedTxnExpiry t txn => Sys2Proof.Machine.execPreparedTxnExpiry t txn s
  | .laneTrainAttemptStart t lane => Sys2Proof.Machine.execLaneTrainAttemptStart t lane s
  | .laneTrainStateAdvance t lane => Sys2Proof.Machine.execLaneTrainStateAdvance t lane s
  | .laneTrainTimeout t lane => Sys2Proof.Machine.execLaneTrainTimeout t lane s
  | .laneRetryWaitEnd t lane => Sys2Proof.Machine.execLaneRetryWaitEnd t lane s
  | .trainBlockReceived t lane block => Sys2Proof.Machine.execTrainBlockReceived t lane block s
  | .alignSearchStep t lane bad => Sys2Proof.Machine.execAlignSearchStep t lane bad s
  | .hopDelayMeasured t lane delays => Sys2Proof.Machine.execHopDelayMeasured t lane delays s
  | .laneDrop t lane cause => Sys2Proof.Machine.execLaneDrop t lane cause s
  | .laneSignalLoss t lane => Sys2Proof.Machine.execLaneSignalLoss t lane s
  | .quadPllLoss t quad => Sys2Proof.Machine.execQuadPllLoss t quad s
  | .quadPllRelock t quad => Sys2Proof.Machine.execQuadPllRelock t quad s
  | .bondLaneRejoin t pair => Sys2Proof.Machine.execBondLaneRejoin t pair s
  | .bondMarkerTx t pair => Sys2Proof.Machine.execBondMarkerTx t pair s
  | .electricalIdleEntry t lane => Sys2Proof.Machine.execElectricalIdleEntry t lane s
  | .electricalIdleExit t lane => Sys2Proof.Machine.execElectricalIdleExit t lane s
  | .controlBlockReceived t lane block => Sys2Proof.Machine.execControlBlockReceived t lane block s
  | .laneFrameTransmit t lane blocks => Sys2Proof.Machine.execLaneFrameTransmit t lane blocks s
  | .laneWakeDone t lane => Sys2Proof.Machine.execLaneWakeDone t lane s
  | .prbsLockLoss t lane => Sys2Proof.Machine.execPrbsLockLoss t lane s
  | .telemetryCycleBoundary t => Sys2Proof.Machine.execTelemetryCycleBoundary t s
  | .nodeSetTx t cell => Sys2Proof.Machine.execNodeSetTx t cell s
  | .nodeSetAckTimeout t cell => Sys2Proof.Machine.execNodeSetAckTimeout t cell s
  | .nodeAckReceived t lane frame => Sys2Proof.Machine.execNodeAckReceived t lane frame s
  | .telemetryReceived t lane frame => Sys2Proof.Machine.execTelemetryReceived t lane frame s
  | .faultFrameReceived t lane frame => Sys2Proof.Machine.execFaultFrameReceived t lane frame s
  | .nodeCommandReceived t node port frame => Sys2Proof.Machine.execNodeCommandReceived t node port frame s
  | .nodeEventExecute t node => Sys2Proof.Machine.execNodeEventExecute t node s
  | .nodeSyncReceived t node port frame => Sys2Proof.Machine.execNodeSyncReceived t node port frame s
  | .nodeSyncTimeout t node => Sys2Proof.Machine.execNodeSyncTimeout t node s
  | .nodeSetReceived t node port frame => Sys2Proof.Machine.execNodeSetReceived t node port frame s
  | .nodeTelemetrySlot t node => Sys2Proof.Machine.execNodeTelemetrySlot t node s
  | .nodeFaultDetect t node fault => Sys2Proof.Machine.execNodeFaultDetect t node fault s
  | .nodeWatchExpiry t node => Sys2Proof.Machine.execNodeWatchExpiry t node s
  | .nodeEchoRequest t node port block => Sys2Proof.Machine.execNodeEchoRequest t node port block s
  | .nodeBlockForward t node port block => Sys2Proof.Machine.execNodeBlockForward t node port block s
  | .capHeartbeatPulse t => Sys2Proof.Machine.execCapHeartbeatPulse t s
  | .heartbeatStepWatch t => Sys2Proof.Machine.execHeartbeatStepWatch t s
  | .capInPulse t width => Sys2Proof.Machine.execCapInPulse t width s
  | .leaseExpiry t => Sys2Proof.Machine.execLeaseExpiry t s
  | .capTake t => Sys2Proof.Machine.execCapTake t s
  | .initialCapTake t => Sys2Proof.Machine.execInitialCapTake t s
  | .releaseTakeWaitEnd t => Sys2Proof.Machine.execReleaseTakeWaitEnd t s
  | .mirrorUpdateReceived t update => Sys2Proof.Machine.execMirrorUpdateReceived t update s
  | .shadowCompare t => Sys2Proof.Machine.execShadowCompare t s
  | .relayedCommandReceived t frame => Sys2Proof.Machine.execRelayedCommandReceived t frame s
  | .forwardedStateOpcode t opcode payload => Sys2Proof.Machine.execForwardedStateOpcode t opcode payload s
  | .healthReportTx t => Sys2Proof.Machine.execHealthReportTx t s
  | .healthReportReceived t report => Sys2Proof.Machine.execHealthReportReceived t report s
  | .planRefreshDue t cell => Sys2Proof.Machine.execPlanRefreshDue t cell s
  | .pondCaptureFrame t => Sys2Proof.Machine.execPondCaptureFrame t s
  | .pondTriggerInput t source => Sys2Proof.Machine.execPondTriggerInput t source s
  | .xtrigAssert t => Sys2Proof.Machine.execXtrigAssert t s
  | .trigInEdge t input => Sys2Proof.Machine.execTrigInEdge t input s
  | .xtrigDriveEnd t => Sys2Proof.Machine.execXtrigDriveEnd t s
  | .pondRecordClose t => Sys2Proof.Machine.execPondRecordClose t s
  | .pondRearmEnd t => Sys2Proof.Machine.execPondRearmEnd t s
  | .pondStreamAcked t recNo => Sys2Proof.Machine.execPondStreamAcked t recNo s
  | .pondReadHoldEnd t recNo => Sys2Proof.Machine.execPondReadHoldEnd t recNo s
  | .selftestCheckRun t check pass => Sys2Proof.Machine.execSelftestCheckRun t check pass s
  | .ballReadback t ball level => Sys2Proof.Machine.execBallReadback t ball level s
  | .fuseBlowDone t => Sys2Proof.Machine.execFuseBlowDone t s
  | .cfgSaveDone t => Sys2Proof.Machine.execCfgSaveDone t s
  | .debugHaltEnd t engine => Sys2Proof.Machine.execDebugHaltEnd t engine s
  | .extest t values => Sys2Proof.Machine.execExtest t values s
  | .rxSignalDetect t lane => Sys2Proof.Machine.execRxSignalDetect t lane s
  | .exitBurstReceived t lane => Sys2Proof.Machine.execExitBurstReceived t lane s
  | .ovlWinElapsed t leg => Sys2Proof.Machine.execOvlWinElapsed t leg s
  | .injectedItemRelease t slot => Sys2Proof.Machine.execInjectedItemRelease t slot s
  | .nodePowerUp t node => Sys2Proof.Machine.execNodePowerUp t node s

end Sys2Proof.Machine
end

