-- ==== Sys2Proof/Machine/Pins.lean ====
section
/-! DEFINITION. The levels of the balls that the device drives (22_balls.md R467 to R469, 19_supplies_reset.md R424, R431, R432), and what
the test port reads (20_security.md R451). -/

namespace Sys2Proof.Machine

open Sys2Proof

/-- What stands at a ball that the device may drive. -/
inductive Drive where
  /-- Not driven: VIO33 below 0.8 V. -/
  | off
  /-- An input, an open drain that is released, or a transmitter at common mode. -/
  | released
  | low
  | high
  /-- Blocks or frames leave. -/
  | coded
  deriving DecidableEq, Repr

/-- The balls that the device may drive (22_balls.md Table 22.12). HOST_IO and TDO are driven within a transaction only,
which is one row here. -/
inductive Ball where
  | legGh (n : Nat)
  | legGl (n : Nat)
  | chop (n : Nat)
  | capOut
  | resetOutN
  | faultOutN
  | trigOut (n : Nat)
  | ppsOut
  | intN
  | xtrig
  | pio (n : Nat)
  | refout (n : Nat)
  | laneTx (n : Nat)
  | portTx (n : Nat)
  deriving DecidableEq, Repr

/-- A ball that is driven high or low. -/
def drive (h : Bool) : Drive := if h then .high else .low

/-- RESET_OUT_N: low from the start of a reset until READY of the status byte is set (19_supplies_reset.md R431, R432). -/
def resetOutHigh (s : State) : Bool := s.win.ready && !s.pwr.inReset

/-- What the device's own functions put on a ball while VIO33 is there (Table 22.12). -/
def ownLevel (b : Ball) (s : State) : Drive :=
  match b with
  | .legGh n => drive (leg s n).gh
  | .legGl n => drive (leg s n).gl
  | .chop n => drive (chop s n).on
  | .capOut => drive (decide (s.now < s.twin.pulseTo) && !s.pwr.inReset)
  | .resetOutN => drive (resetOutHigh s)
  | .faultOutN => drive (!s.gnt.faultOut && !s.pwr.inReset)
  | .trigOut n => drive (match Tbl.find n s.balls.trigOut with | some e => decide (s.now < e) | none => false)
  | .ppsOut => drive s.time.ppsHigh
  | .intN => if s.win.intCause &&& s.win.intMask = 0 then .released else .low
  | .xtrig => if s.pond.xDriven then .low else .released
  | .pio n => if s.pwr.inReset ∨ ¬ (pioUses s).contains n then .released else drive (pioLevel s n)
  | .refout n => drive (s.clk.refout.getD n {}).level
  | .laneTx n => if (lane s n).role = 0 then .released else .coded
  | .portTx n => if (port s n).mode = 0 then .released else .coded

/-- The cell of a ball in the boundary-scan register, where it has one (`extestCell`). -/
def Ball.cell : Ball → Option Nat
  | .legGh n => some (2 * n)
  | .legGl n => some (2 * n + 1)
  | .chop n => some (96 + n)
  | .capOut => some 98
  | .faultOutN => some 99
  | .resetOutN => some 100
  | .trigOut n => some (101 + n)
  | .ppsOut => some 103
  | .intN => some 104
  | .xtrig => some 105
  | .pio n => some (106 + n)
  | .refout n => some (138 + n)
  | .laneTx _ => none
  | .portTx _ => none

/-- What stands at a ball: nothing is driven while VIO33 is below 0.8 V (19_supplies_reset.md R424); under EXTEST the ball's
cell, the gates through the interlock; else what the device's functions put on it (22_balls.md R467). -/
def ballLevel (b : Ball) (s : State) : Drive :=
  if s.pwr.ioOff then .off
  else match s.balls.extest, b.cell with
  | some v, some i => drive (v.getD i false)
  | _, _ => ownLevel b s

/-- SAMPLE of the test port captures the cells: the levels of the balls (20_security.md R451). -/
def jtagSample (s : State) : List Bool :=
  let l : List Ball := ((List.range 48).flatMap fun n => [Ball.legGh n, .legGl n]) ++ [.chop 0, .chop 1, .capOut, .faultOutN, .resetOutN,
    .trigOut 0, .trigOut 1, .ppsOut, .intN, .xtrig] ++ (List.range 32).map .pio ++ (List.range 4).map .refout
  l.map fun b => ballLevel b s == .high

/-- What a read of the test port's data register gives: HW_ID under IDCODE, the cells under SAMPLE, one bit that delays by
one clock under BYPASS and under any instruction that is not unlocked (20_security.md R451). What OBSERVE and HALT shift out
the spec does not say. -/
def jtagData (i : Jtag) (s : State) : Option (List Bool) :=
  match jtagRuns i s with
  | .idcode => some ((List.range 32).map fun k => hwId.testBit k)
  | .sample => some (jtagSample s)
  | .extest => some (jtagSample s)
  | .bypass => some [false]
  | _ => none

end Sys2Proof.Machine
end

