-- ==== Sys2Proof/Safety.lean ====
section
/-! DEFINITION. What a safe state of the part is, in the terms that claims use: the interlock of every leg
(06_legs_pwm.md R158), the grid mode that only RUN has (01_architecture.md Table 1.4), FAULT_OUT_N
(22_balls.md R468) and the queue of waiting commands. -/

namespace Sys2Proof.Safety

open Sys2Proof Sys2Proof.Machine

/-- The two gates of a leg are never asserted together (R158). -/
def gatesApart (s : State) : Prop := ∀ e ∈ s.leg, ¬ (e.2.gh = true ∧ e.2.gl = true)

/-- A grid mode exists in RUN only (Table 1.4). -/
def modeOnlyInRun (s : State) : Prop := s.sys.state ≠ .run → s.sys.mode = .none

/-- FAULT_OUT_N is asserted in every state but ARMED and RUN (R468). -/
def faultOutRight (s : State) : Prop := s.gnt.faultOut = !(s.sys.state == .armed || s.sys.state == .run)

/-- Every command that waits is one that the outside can bring. -/
def queueWf (s : State) : Prop := s.pending.all Instr.wf = true

/-- What every step keeps. -/
structure Inv (s : State) : Prop where
  gates : gatesApart s
  mode : modeOnlyInRun s
  faultOut : faultOutRight s
  queue : queueWf s

/-! ### What the end of a command leaves alone -/

/-- The step's settings and figures. -/
def keptSys (x : Sys) : Sys := { x with state := .boot, mode := .none, trans := none }

/-- Wellspring's settings, those of the reference outputs, and the clock gates. -/
def keptClk (x : Clk) : Clk :=
  { list := x.list, auto := x.auto, revert := x.revert, xoMode := x.xoMode, xoKhz := x.xoKhz, tolPpm := x.tolPpm, peTh := x.peTh,
    fslew := x.fslew, refout := x.refout.map fun e => (e.1, { e.2 with level := false }), gateMask := x.gateMask, gatePend := x.gatePend }

/-- Images, fuses, debug and saves; the journal may have more to write. -/
def keptSec (x : Sec) : Sec := { x with journalQ := [] }

/-- The permits of the tests. -/
def keptTest (x : Test) : Test := { scope := x.scope, expires := x.expires, challenge := x.challenge }

/-- The grid-forming parameter sets, the channel map and the secondary control. -/
def keptGfm (x : Gfm) : Gfm :=
  { par := x.par, map := x.map, dfSec := x.dfSec, dfTarget := x.dfTarget, secAt := x.secAt, secStale := x.secStale, socMean := x.socMean }

/-- The grid parameter sets, the envelopes, the synchroniser's map and the black-start program. -/
def keptGrid (x : Grid) : Grid :=
  { par := x.par, env := x.env, sync := x.sync, bsGroup := x.bsGroup, bsProg := x.bsProg }

/-- The angle tables, their bindings and the settings of the injection generator and the correlator. -/
def keptAngle (x : Angle) : Angle :=
  { tab := x.tab, bind := x.bind, swaps := x.swaps, copying := x.copying, injCfg := x.injCfg, corr := x.corr,
    report := x.report }

/-- The parts of the state that the end of a command leaves as they are. -/
def kept (s : State) : State :=
  { now := s.now, sys := keptSys s.sys, clk := keptClk s.clk, pwr := s.pwr, sec := keptSec s.sec, mram := s.mram, test := keptTest s.test,
    time := s.time, node := s.node, gfm := keptGfm s.gfm, grid := keptGrid s.grid, angle := keptAngle s.angle, conv := s.conv,
    pair := s.pair, filt := s.filt }

/-- The power stage and what controls it: all of the state but the packet layer, the links and queues toward others, Pond,
the tests' record of what they met, the counters, and the model's own bookkeeping. -/
def device (s : State) : State :=
  { now := s.now, sys := s.sys, clk := s.clk, pwr := s.pwr, sec := keptSec s.sec, mram := s.mram, gnt := s.gnt, time := s.time,
    strand := s.strand, cell := s.cell, node := s.node, gfm := s.gfm, grid := s.grid, chan := s.chan, arm := s.arm,
    angle := s.angle, leg := s.leg, conv := s.conv, pair := s.pair, filt := s.filt, twin := s.twin, balls := s.balls }

/-- No reaction waits, every READY source of Wellspring has its path, and the twin's READY stands as its conditions do: the end
of a command has nothing to react to. -/
def quiet (s : State) : Bool := s.occ.isEmpty && s.clk.ready.keys.all (srcPath s) && readyNow s == s.twin.ready

/-- What an originator's own packets have come to: its sequence reference, its batch abort, its chain, its version and its
event mask. Its outbound queue is left out. -/
def heard (o : Orig) : Orig := { o with nextOut := 0, outq := [], waitq := [], evLost := 0, gapSaid := false }

/-- The inbound side of the packet layer: the packets in flight, and what every originator's packets have come to. -/
def inbound (s : State) : List Flight × (Nat → Orig) := (s.pkt.inFlight, fun id => heard (orig s id))

/-! ### When a request completes -/

/-- No check of a list refuses. -/
def passes (l : List (Bool × Status × Nat)) : Bool := l.all fun c => !c.1

/-- A request packet reaches its chapter: the device is not in reset, its turn has come (R378), it meets no failure inside
the device (17_opcodes.md R385), no abort and no other chain stands in its way (16_command_transport.md R368, R369), its
opcode is served to its originator in this device state, and it is the last packet of its request (17_opcodes.md R387 to
R389). -/
def reaches (op : Op) (r : Req) (s : State) : Bool :=
  let o := orig s r.org
  !s.pwr.inReset && turn op.code r (entered op.code r s) && !s.pkt.failing && (outside op || (o.aborting != some r.tag && o.deadChain != some (op.code, r.tag) && !otherChain o op r)) &&
    served o op && op.states.contains s.sys.state && r.last

/-- The state that the chapter sees: the packet is in flight (R377), and a batch abort of another tag has ended (R368). -/
def seen (code : Nat) (r : Req) (s : State) : State :=
  setOrig r.org { orig s r.org with aborting := none } (entered code r s)

/-- The payload of a chained request: what its earlier packets brought, then that of its last packet (R369). -/
def whole (r : Req) (s : State) : Bytes := chainPayload (orig s r.org) ++ r.payload

/-- A request that has been executed with this status, detail and data: its chain is closed, and it is answered. -/
def answered (code : Nat) (r : Req) (st : Status) (detail : Nat) (data : Bytes) (s : State) : State :=
  answer (owedTo r code) st detail data (setOrig r.org { orig s r.org with chain := none } s)

/-- A request whose reply is chained. -/
def answeredChain (code : Nat) (r : Req) (data : Bytes) (s : State) : State :=
  answerChain (owedTo r code) data (setOrig r.org { orig s r.org with chain := none } s)

/-- A request that has been executed and whose reply is deferred: its packet has started (R367, R378). -/
def deferred (code : Nat) (r : Req) (s : State) : State :=
  let t := beginFlight r.org r.seq code s
  setOrig r.org { orig t r.org with chain := none } t

end Sys2Proof.Safety
end

