-- ==== Sys2Proof/Certificates/Slice0/Obligations.lean ====
section
/-! DEFINITION. The statements for the provers: what the commands of every family do and when they complete, what every
step keeps, and the rules of the spec that speak of the whole part. -/

namespace Sys2Proof.Can

open Sys2Proof Sys2Proof.Machine Sys2Proof.Safety

/-! A command completes, with the effect of its own that the rules give it, under these conditions on the state and the
operands alone. The checks are those of the command's rules, in their order. -/

/-- OP_SYS_HELLO. -/
def opSysHello (r : Req) (s0 : State) : Bool :=
  let p := r.payload
  reaches { code := 1, states := stBIARTS } r s0 &&
    passes [lenIs p 12, rsv p 1 3, (u8 p 0 / 16 != 2 && u8 p 0 / 16 != 3, .version, 0)]

/-- OP_SYS_RESYNC. -/
def opSysResync (r : Req) (s0 : State) : Bool :=
  reaches { code := 2, states := stBIARTS } r s0 && passes [lenIs r.payload 4, rsv r.payload 0 4]

/-- OP_SYS_REPLAY. -/
def opSysReplay (r : Req) (s0 : State) : Bool :=
  let p := r.payload
  let s := seen 3 r s0
  reaches { code := 3, states := stBIARTS } r s0 && (
    let o := orig s r.org
    let last := (o.nextOut + 2 ^ 32 - 1) % 2 ^ 32
    let from_ := u32 p 0
    passes [lenIs p 8, rsv p 6 2, outOf (u16 p 4) 1 256 4, (decide (0 < sdiff from_ last), .range, 0)])

/-- CHAIN_CONTINUATION_TIMEOUT. -/
def chainContinuationTimeout (t : Nat) (org : Nat) (pre : State) : Bool :=
  !pre.pwr.inReset && (
    let s := advance t pre
    let o := orig s org
    (match o.chain with
     | some c =>
        decide ((due s (c.since + msT 1000) ∧ ¬ continues org c s))
     | _ => false))

/-- OP_SYS_GET_INFO. -/
def opSysGetInfo (r : Req) (s0 : State) : Bool :=
  let p := r.payload
  reaches { code := 0x0005, states := stBIARTS } r s0 &&
    passes [lenIs p 4, rsv p 0 4]

/-- OP_SYS_SET_STEP. -/
def opSysSetStep (r : Req) (s0 : State) : Bool :=
  let p := r.payload
  let s := seen 0x0006 r s0
  reaches { code := 0x0006, states := stIA } r s0 && (
    let a := u32 p 0
    let b := newPub s a (u32 p 4)
    passes [lenIs p 8, (a % 80 != 0, .badParam, 0), outOf a 8000 160000 0, (u32 p 4 % 80 != 0, .badParam, 4),
         (decide (b * 100 < a * 25) || decide (a * 95 < b * 100), .range, 4)])

/-- OP_SYS_ARM. -/
def opSysArm (r : Req) (s0 : State) : Bool :=
  let p := r.payload
  let s := seen 0x0007 r s0
  reaches { code := 0x0007, states := stI } r s0 &&
    passes [lenIs p 4, rsv p 0 4, (follows s, .refused, 1), (transBusy s, .busy, 0),
            (!(tbLockedOrHeld s && calibrationValid s), .notReady, 0)]

/-- OP_SYS_RUN. -/
def opSysRun (r : Req) (s0 : State) : Bool :=
  let p := r.payload
  let s := seen 0x0008 r s0
  reaches { code := 0x0008, states := stA } r s0 &&
    passes [lenIs p 4, (!runModeOk (u8 p 0), .badParam, 0), rsv p 1 3, (follows s, .refused, 1), (transBusy s, .busy, 0),
            (runRefusal (modeOf (u8 p 0)) s != 0, .refused, runRefusal (modeOf (u8 p 0)) s)]

/-- OP_SYS_STOP. -/
def opSysStop (r : Req) (s0 : State) : Bool :=
  let p := r.payload
  let s := seen 0x0009 r s0
  reaches { code := 0x0009, states := stR } r s0 &&
    passes [lenIs p 4, outOf (u32 p 0) 0 1000 0, (follows s, .refused, 1), (transBusy s, .busy, 0)]

/-- OP_SYS_DISARM. -/
def opSysDisarm (r : Req) (s0 : State) : Bool :=
  let p := r.payload
  let s := seen 0x000A r s0
  reaches { code := 0x000A, states := stA } r s0 &&
    passes [lenIs p 4, rsv p 0 4, (follows s, .refused, 1), (transBusy s, .busy, 0)]

/-- OP_SYS_SERVICE. -/
def opSysService (r : Req) (s0 : State) : Bool :=
  let p := r.payload
  let s := seen 0x000B r s0
  reaches { code := 0x000B, states := stI } r s0 &&
    passes [lenIs p 4, rsv p 0 4] &&
    passes [(transBusy s, .busy, 0)]

/-- OP_SYS_IDLE. -/
def opSysIdle (r : Req) (s0 : State) : Bool :=
  let p := r.payload
  let s := seen 0x000C r s0
  reaches { code := 0x000C, states := stS } r s0 &&
    passes [lenIs p 4, rsv p 0 4] &&
    passes [(transBusy s, .busy, 0)]

/-- OP_GNT_CLEAR. -/
def opGntClear (r : Req) (s0 : State) : Bool :=
  let p := r.payload
  let s := seen 0x150A r s0
  reaches { code := 0x150A, states := stT } r s0 &&
    passes [lenIs p 4, rsv p 0 4, (follows s, .refused, 1), (transBusy s, .busy, 0), (faultAsserted s, .refused, 5),
            (mittenAsserted s, .refused, 4)]

/-- RUN_ENTRY_BOUNDARY. -/
def runEntryBoundary (t : Nat) (pre : State) : Bool :=
  !pre.pwr.inReset && (
    let s := advance t pre
    (match s.sys.trans with
     | some (.toRun _ _ _) =>
        decide (¬ (s.sys.state ≠ .armed ∨ ¬ tbRuns s ∨ s.now % s.sys.tStep ≠ 0 ∨ s.sys.halted % 16 ≠ 0))
     | _ => false))

/-- STOP_RAMP_END. -/
def stopRampEnd (t : Nat) (pre : State) : Bool :=
  !pre.pwr.inReset && (
    let s := advance t pre
    (match s.sys.trans with
     | some (.stopRamp start ms) =>
        decide ((due s (start + msT ms)))
     | _ => false))

/-- DEBUG_HALT. -/
def debugHalt (t : Nat) (engine : Nat) (pre : State) : Bool :=
  !pre.pwr.inReset && (
    let s := advance t pre
    decide (¬ (s.sec.debug < 2 ∨ 15 < engine ∨ s.sys.halted.testBit engine)))

/-- DEBUG_HALT_END. -/
def debugHaltEnd (t : Nat) (engine : Nat) (pre : State) : Bool :=
  !pre.pwr.inReset && (
    let s := advance t pre
    decide ((s.sys.halted.testBit engine)))

/-- OUTER_STEP_BOUNDARY. -/
def outerStepBoundary (t : Nat) (pre : State) : Bool :=
  !pre.pwr.inReset && (
    let s := advance t pre
    let b := s.now
    decide (¬ (¬ tbRuns s ∨ s.sys.state = .boot ∨ b % s.sys.tStep ≠ 0 ∨ s.sys.halted % 16 ≠ 0 ∨ s.sys.stepStart = some b ∨ (s.gfm.boundary = b ∧ 0 < b))))

/-- PUBLISH_TICK. -/
def publishTick (t : Nat) (pre : State) : Bool :=
  !pre.pwr.inReset && (
    let s := advance t pre
    (match s.sys.pubFor with
     | some b =>
        decide (¬ (¬ tbRuns s ∨ s.now < b + s.sys.tPub))
     | _ => false))

/-- OP_SYS_SET_SAG. -/
def opSysSetSag (r : Req) (s0 : State) : Bool :=
  let p := r.payload
  reaches { code := 0x000D, states := stIAS } r s0 &&
    passes [lenIs p 4, (decide (2 < u8 p 0), .badParam, 0), outOf (u8 p 1) 0 6 1, rsv p 2 2]

/-- SUPPLY_WARNING_START. -/
def supplyWarningStart (t : Nat) (supply : Nat) (pre : State) : Bool :=
  let s := advance t pre
  decide (¬ (3 < supply ∨ s.pwr.warn.contains supply))

/-- RESET_RELEASE. -/
def resetRelease (_twinId : Bool) (_oscSet : Nat) (pre : State) : Bool :=
  let s := pre
  decide (¬ (¬ s.pwr.inReset))

/-- BOOT_SLOT_SELECTION. -/
def bootSlotSelection (pre : State) : Bool :=
  let s := pre
  decide (¬ (s.pwr.inReset ∨ s.sys.state ≠ .boot ∨ s.win.ready ∨ s.sec.running ≠ 0 ∨ s.sec.verifying.isSome))

/-- IDLE_ENTRY_FROM_BOOT. -/
def idleEntryFromBoot (t : Nat) (pre : State) : Bool :=
  !pre.pwr.inReset && (
    let s := advance t pre
    decide (¬ (s.sys.state ≠ .boot ∨ s.sec.running = 0 ∨ s.sec.verifying.isSome)))

/-- OP_SEC_GET_ID. -/
def opSecGetId (r : Req) (s0 : State) : Bool :=
  let p := r.payload
  reaches { code := 0x0101, states := stBIARTS } r s0 &&
    passes [lenIs p 4, rsv p 0 4]

/-- OP_SEC_QUOTE. -/
def opSecQuote (r : Req) (s0 : State) : Bool :=
  let p := r.payload
  reaches { code := 0x0102, states := stBIARTS } r s0 &&
    passes [lenIs p 36, (zeroAt p 0 32, .badParam, 0), rsvBits p 32 1, rsv p 33 3]

/-- OP_SEC_IMAGE_LOAD. -/
def opSecImageLoad (r : Req) (s0 : State) : Bool :=
  let p := whole r s0
  let s := seen 0x0103 r s0
  reaches { code := 0x0103, states := stBIARTS, chained := true } r s0 && !loadWaits r s0 &&
    passes [(decide (p.length < 12), .badLength, 0), (decide (1 < u8 p 0), .badParam, 0), rsv p 1 3,
            outOf (u32 p 4) 4608 0x200000 4, (!loadable s (u8 p 0), .refused, 0), (p.length != u32 p 4 + 12, .badLength, 0)]

/-- OP_SEC_IMAGE_VERIFY. -/
def opSecImageVerify (r : Req) (s0 : State) : Bool :=
  let p := r.payload
  reaches { code := 0x0104, states := stBIARTS } r s0 &&
    passes [lenIs p 4, (decide (1 < u8 p 0), .badParam, 0), rsv p 1 3]

/-- OP_SEC_SLOT_SELECT_TRY_ONCE. -/
def opSecSlotSelectTryOnce (r : Req) (s0 : State) : Bool :=
  let p := r.payload
  let s := seen 0x0105 r s0
  reaches { code := 0x0105, states := stBIARTS } r s0 &&
    passes [lenIs p 4, (decide (1 < u8 p 0), .badParam, 0), (u8 p 1 != 0, .badParam, 1), rsv p 2 2, ((slotOf s (u8 p 0)).vr != 1, .notReady, 0)]

/-- OP_SEC_SLOT_SELECT_PERMANENT. -/
def opSecSlotSelectPermanent (r : Req) (s0 : State) : Bool :=
  let p := r.payload
  let s := seen 0x0105 r s0
  reaches { code := 0x0105, states := stBIARTS } r s0 &&
    passes [lenIs p 4, (decide (1 < u8 p 0), .badParam, 0), (u8 p 1 != 1, .badParam, 1), rsv p 2 2, ((slotOf s (u8 p 0)).vr != 1, .notReady, 0)] && (
      let k := u8 p 0
      let rb := imgRollback (slotImage s k)
      passes [(s.sys.state == .boot || s.sec.running != k + 1, .badParam, 0), (decide (64 < rb), .refused, 0)])

/-- OP_SEC_REBOOT. -/
def opSecReboot (r : Req) (s0 : State) : Bool :=
  reaches { code := 0x0106, states := stBIS } r s0 && passes [lenIs r.payload 4, rsv r.payload 0 4]

/-- OP_SEC_OWNER_FUSE. -/
def opSecOwnerFuse (r : Req) (s0 : State) : Bool :=
  let p := r.payload
  reaches { code := 0x0107, states := stBIS } r s0 && passes [lenIs p 132, rsvBits p 64 1, rsv p 65 3]

/-- OP_SEC_DEBUG_CHALLENGE. -/
def opSecDebugChallenge (r : Req) (s0 : State) : Bool :=
  let p := r.payload
  let s := seen 0x0108 r s0
  reaches { code := 0x0108, states := stBIS } r s0 &&
    passes [lenIs p 4, outOf (u8 p 0) 1 3 0, (u8 p 1 != 0, .badParam, 1), rsv p 2 2, (s.sec.dbgLocked, .locked, 0)]

/-- OP_SEC_DEBUG_LOCK. -/
def opSecDebugLock (r : Req) (s0 : State) : Bool :=
  let p := r.payload
  let s := seen 0x0108 r s0
  reaches { code := 0x0108, states := stBIS } r s0 &&
    passes [lenIs p 4, outOf (u8 p 0) 1 3 0, (u8 p 1 != 1, .badParam, 1), rsv p 2 2, (s.sec.dbgLocked, .locked, 0)]

/-- OP_SEC_DEBUG_UNLOCK. -/
def opSecDebugUnlock (r : Req) (s0 : State) : Bool :=
  let p := r.payload
  let s := seen 0x0109 r s0
  reaches { code := 0x0109, states := stBIS } r s0 &&
    passes [lenIs p 132, rsv p 1 3, (s.sec.dbgLocked, .locked, 0)]

/-- OP_SEC_CFG_SAVE. -/
def opSecCfgSave (r : Req) (s0 : State) : Bool :=
  let p := r.payload
  let s := seen 0x010A r s0
  reaches { code := 0x010A, states := stIAS } r s0 &&
    passes [lenIs p 4, rsv p 0 4] &&
    passes [(s.sec.saving.isSome, .busy, 0)]

/-- OP_SEC_CFG_LOAD. -/
def opSecCfgLoad (r : Req) (s0 : State) : Bool :=
  let s := seen 0x010B r s0
  reaches { code := 0x010B, states := stI } r s0 && passes [lenIs r.payload 4, rsv r.payload 0 4] &&
    (match s.mram.cfg.find? fun c => c.ok with
     | some c => c.imageVer / 2 ^ 24 == runningVer s / 2 ^ 24 && !snapGated c.snap s
     | none => false)

/-- OP_SEC_JOURNAL_READ. -/
def opSecJournalRead (r : Req) (s0 : State) : Bool :=
  let p := r.payload
  reaches { code := 0x010C, states := stBIARTS } r s0 &&
    passes [lenIs p 12, outOf (u16 p 8) 1 1024 8, rsv p 10 2]

/-- SLOT_VERIFICATION_DONE. -/
def slotVerificationDone (t : Nat) (pre : State) : Bool :=
  !pre.pwr.inReset && (
    let s := advance t pre
    (match s.sec.verifying with
     | some (_, _) =>
        true
     | _ => false))

/-- JOURNAL_ENTRY_WRITE. -/
def journalEntryWrite (t : Nat) (pre : State) : Bool :=
  !pre.pwr.inReset && (
    let s := advance t pre
    (match s.sec.journalQ with
     | (_, _) :: _ =>
        true
     | _ => false))

/-- FUSE_BLOW_DONE. -/
def fuseBlowDone (t : Nat) (pre : State) : Bool :=
  !pre.pwr.inReset && (
    let s := advance t pre
    (match s.sec.fusing with
     | some (_, _) =>
        true
     | _ => false))

/-- CFG_SAVE_DONE. -/
def cfgSaveDone (t : Nat) (pre : State) : Bool :=
  !pre.pwr.inReset && (
    let s := advance t pre
    (match s.sec.saving with
     | some (_, _) =>
        true
     | _ => false))

/-- EXTEST. -/
def extest (t : Nat) (_values : List Bool) (pre : State) : Bool :=
  !pre.pwr.inReset && (
    let s := advance t pre
    decide ((jtagRuns .extest s = .extest)))

/-- OP_TIME_SET_DOMAIN. -/
def opTimeSetDomain (r : Req) (s0 : State) : Bool :=
  let p := r.payload
  let s := seen 0x0201 r s0
  reaches { code := 0x0201, states := stIARTS } r s0 && (
    let d := u8 p 0
    let c := domCfgOf p
    let rt := s.sys.state == .run || s.sys.state == .tripped
    passes [(rt && decide (1 ≤ p.length) && d == s.time.active, .badState, 0), lenIs p 32, outOf d 0 1 0, rsvBits p 1 4,
         (decide (2 < c.profile), .badParam, 2), outOf c.domainNo 0 127 3, (decide (1 < c.transport), .badParam, 4), rsvBits p 5 4,
         outOfI c.logSync (-4) 1 8, outOfI c.logAnnounce (-3) 3 9, outOfI c.logDelay (-4) 4 10, outOf c.announceTo 2 10 11,
         outOf c.bw 1 1000 12, rsv p 14 2, outOf c.lockTh 10 100000 16, outOf c.stepTh 1000 1000000 20, outOf c.slew 1 100 24,
         outOfI c.asym (-10000) 10000 26, outOf c.clockClass 6 255 28, rsv p 29 3, (c.profile == 2 && c.transport != 0, .badParam, 4),
         (c.profile == 2 && decide (3 < c.domainNo), .badParam, 3), (splitsPair s c.ports, .badParam, 5)])

/-- OP_TIME_GET_DOMAIN. -/
def opTimeGetDomain (r : Req) (s0 : State) : Bool :=
  let p := r.payload
  reaches { code := 0x0202, states := stIARTS } r s0 &&
    passes [lenIs p 4, rsv p 1 3, outOf (u8 p 0) 0 1 0]

/-- OP_TIME_GET. -/
def opTimeGet (r : Req) (s0 : State) : Bool :=
  let p := r.payload
  reaches { code := 0x0203, states := stIARTS } r s0 &&
    passes [lenIs p 4, rsv p 0 4]

/-- OP_TIME_SET_ACTIVE. -/
def opTimeSetActive (r : Req) (s0 : State) : Bool :=
  let p := r.payload
  let s := seen 0x0204 r s0
  let x := domain s (u8 p 0)
  reaches { code := 0x0204, states := stIARTS } r s0 &&
    passes [lenIs p 4, rsv p 1 3, outOf (u8 p 0) 0 1 0, (x.state != 3, .notReady, 0),
            (decide ((x.cfg.stepTh : Rat) ≤ |domT x s.now - ntAt s s.now|), .refused, 0)]

/-- OP_TIME_STEP. -/
def opTimeStep (r : Req) (s0 : State) : Bool :=
  let p := r.payload
  let s := seen 0x0205 r s0
  reaches { code := 0x0205, states := stIATS } r s0 && (
    let x := domain s (u8 p 0)
    passes [lenIs p 4, outOf (u8 p 0) 0 1 0, outOf (u8 p 1) 0 47 1, rsv p 2 2,
         (!(x.state == 3 || (x.o.isSome && (x.state == 4 || x.jumpSaid))), .notReady, 0), (s.time.stepPend.isSome, .busy, 0)])

/-- TIME_STEP_EXECUTED. -/
def timeStepExecuted (t : Nat) (pre : State) : Bool :=
  !pre.pwr.inReset && (
    let s := advance t pre
    (match s.time.stepPend with
     | some (_, l) =>
        decide (¬ (¬ tbRuns s ∨ legU (leg s l) s.now ≠ 0))
     | _ => false))

/-- OP_TIME_SET_PPS. -/
def opTimeSetPps (r : Req) (s0 : State) : Bool :=
  let p := r.payload
  reaches { code := 0x0206, states := stIARTS } r s0 &&
    passes [lenIs p 4, outOf (u16 p 0) 1 500 0, rsv p 2 2]

/-- PPS_OUT_SECOND. -/
def ppsOutSecond (t : Nat) (pre : State) : Bool :=
  !pre.pwr.inReset && (
    let s := advance t pre
    let sec (x : Rat) : Int := (ntAt s x / 1000000000).floor
    decide ((tbRuns s ∧ (domain s s.time.active).valid ∧ 0 < s.now ∧ sec (s.now - 1) < sec s.now)))

/-- PPS_OUT_PULSE_END. -/
def ppsOutPulseEnd (t : Nat) (pre : State) : Bool :=
  !pre.pwr.inReset && (
    let s := advance t pre
    decide ((s.time.ppsHigh ∧ due s s.time.ppsFall)))

/-- PPS_IN_EDGE. -/
def ppsInEdge (t : Nat) (pre : State) : Bool :=
  !pre.pwr.inReset && (
    let s := advance t pre
    decide ((tbRuns s)))

/-- PTP_ANNOUNCE_TIMEOUT. -/
def ptpAnnounceTimeout (t : Nat) (dom : Nat) (pre : State) : Bool :=
  !pre.pwr.inReset && (
    let s := advance t pre
    let x := domain s dom
    decide (¬ (1 < dom ∨ ¬ x.cfg.enable ∨ x.state = 5 ∨ ¬ due s (x.lastHeard + x.cfg.announceTo * logTicks x.cfg.logAnnounce))))

/-- PTP_MASTER_MESSAGE_TX. -/
def ptpMasterMessageTx (t : Nat) (dom : Nat) (kind : Nat) (pre : State) : Bool :=
  !pre.pwr.inReset && (
    let s := advance t pre
    let x := domain s dom
    decide (¬ (1 < dom ∨ ¬ x.cfg.enable ∨ ¬ tbRuns s ∨ ¬ txDue x s.now kind)))

/-- TIME_SLEW_DONE. -/
def timeSlewDone (t : Nat) (pre : State) : Bool :=
  !pre.pwr.inReset && (
    let s := advance t pre
    decide ((s.time.slewing ∧ residual s s.now = 0)))

/-- PTP_MESSAGE_RECEIVED. -/
def ptpMessageReceived (t : Nat) (port_ : Nat) (_head : MsgHead) (_msg : PtpMsg) (pre : State) : Bool :=
  !pre.pwr.inReset && (
    let s := advance t pre
    decide (¬ (3 < port_ ∨ ¬ (port s port_).link)))

/-- OP_CLK_SELECT. -/
def opClkSelect (r : Req) (s0 : State) : Bool :=
  let p := r.payload
  let s := seen 0x0301 r s0
  reaches { code := 0x0301, states := stIAS } r s0 && (
    let l := (List.range 4).map (u8 p)
    let x := l.headD 0
    passes [lenIs p 8, ((listBad l).isSome, .badParam, (listBad l).getD 0), rsvBits p 4 2, rsv p 5 3,
         (tbRuns s && !srcReady s x, .notReady, 0)])

/-- OP_CLK_SET_PLL. -/
def opClkSetPll (r : Req) (s0 : State) : Bool :=
  let p := r.payload
  reaches { code := 0x0302, states := stIS } r s0 && (
    let khz := u16 p 2
    let bad := if u8 p 0 = 0 then khz != 25000 else decide (khz < 10000) || decide (50000 < khz) || khz % 625 != 0
    passes [lenIs p 16, (decide (1 < u8 p 0), .badParam, 0), rsv p 1 1, (bad, .range, 2), outOf (u16 p 4) 10 250 4,
         outOf (u16 p 6) 1 1000 6, outOf (u16 p 8) 1 1000 8, rsv p 10 6])

/-- OP_CLK_SET_REFOUT. -/
def opClkSetRefout (r : Req) (s0 : State) : Bool :=
  let p := r.payload
  let s := seen 0x0303 r s0
  reaches { code := 0x0303, states := stIAS } r s0 && (
    let n := u8 p 0
    let src := u8 p 1
    let known := src == 0 || srcKnown src
    passes [lenIs p 8, outOf n 0 3 0, (!known, .badParam, 1), (decide (3 < u8 p 2), .badParam, 2), rsv p 3 1,
         outOf (u16 p 4) 1 0xFFFF 4, rsv p 6 2, (refTooFast s src (u8 p 2) (u16 p 4), .range, 4),
         (src != 0 && (gateReq s).testBit (8 + n), .notReady, 0)] &&
    decide (¬ s.clk.gateMask.testBit (8 + n)))

/-- OP_CLK_GATE. -/
def opClkGate (r : Req) (s0 : State) : Bool :=
  let p := r.payload
  let s := seen 0x0304 r s0
  reaches { code := 0x0304, states := stIAS } r s0 && (
    let m := u32 p 0
    passes [lenIs p 4, (m / 2 ^ 21 != 0, .badParam, 0),
         ((List.range 21).any fun b => m.testBit b && !(gateReq s).testBit b && blockUsed s b, .busy, 0)])

/-- CLOCK_GATE_EFFECTIVE. -/
def clockGateEffective (t : Nat) (pre : State) : Bool :=
  !pre.pwr.inReset && (
    let s := advance t pre
    (match s.clk.gatePend with
     | some _ =>
        true
     | _ => false))

/-- OP_CLK_GET_STATUS. -/
def opClkGetStatus (r : Req) (s0 : State) : Bool :=
  let p := r.payload
  reaches { code := 0x0305, states := stIARTS } r s0 &&
    passes [lenIs p 4, rsv p 0 4]

/-- REFOUT_EDGE. -/
def refoutEdge (t : Nat) (out : Nat) (pre : State) : Bool :=
  !pre.pwr.inReset && (
    let s := advance t pre
    (match Tbl.find out s.clk.refout with
     | some x =>
        decide (¬ (x.src = 0 ∨ (x.src = 1 ∧ ¬ tbRuns s) ∨ (x.src ≠ 1 ∧ ¬ refSource s x.src)))
     | _ => false))

/-- XO_SETTLE_DONE. -/
def xoSettleDone (pre : State) : Bool :=
  let s := pre
  decide (¬ (s.pwr.inReset ∨ ¬ s.clk.xoSettling ∨ ¬ due s (s.clk.xoFrom + settleTicks s)))

/-- SOURCE_READY. -/
def sourceReady (t : Nat) (src : Nat) (pre : State) : Bool :=
  let s := advance t pre
  decide (¬ (s.pwr.inReset ∨ ¬ srcKnown src ∨ srcReady s src ∨ ¬ srcPath s src ∨ (src / 16 = 1 ∧ ¬ tbRuns s)))

/-- SOURCE_LOSS. -/
def sourceLoss (t : Nat) (src : Nat) (cause : Nat) (pre : State) : Bool :=
  let s := advance t pre
  decide (¬ (s.pwr.inReset ∨ ¬ srcKnown src ∨ cause < 1 ∨ 3 < cause ∨ (cause = 3 ∧ src < 0x10)))

/-- TB_LOCK_DECLARED. -/
def tbLockDeclared (pre : State) : Bool :=
  let s := pre
  decide (¬ (s.clk.tb ≠ .acquiring))

/-- PHASE_TRIP. -/
def phaseTrip (t : Nat) (pre : State) : Bool :=
  !pre.pwr.inReset && (
    let s := advance t pre
    decide ((s.clk.tb = .locked ∨ s.clk.tb = .recovering)))

/-- HOLD_VALID_SET. -/
def holdValidSet (t : Nat) (pre : State) : Bool :=
  !pre.pwr.inReset && (
    let s := advance t pre
    decide ((s.clk.tb = .locked ∧ msT 60000 ≤ lockedTotal s)))

/-- RECOVERING_LOCKED. -/
def recoveringLocked (t : Nat) (pre : State) : Bool :=
  !pre.pwr.inReset && (
    let s := advance t pre
    decide ((s.clk.tb = .recovering ∧ s.clk.recSince + msT 100 ≤ s.now)))

/-- PHASE_TRIP_RECOVERY. -/
def phaseTripRecovery (t : Nat) (pre : State) : Bool :=
  !pre.pwr.inReset && (
    let s := advance t pre
    (match s.clk.tripAt with
     | some at_ =>
        (match Tbl.find s.clk.source s.clk.ready with
         | some since =>
            decide (((s.clk.tb = .holdover ∨ s.clk.tb = .coastLow) ∧ since ≤ at_ ∧ at_ + msT 10 ≤ s.now))
         | _ => false)
     | _ => false))

/-- WELLSPRING_REVERT. -/
def wellspringRevert (t : Nat) (pre : State) : Bool :=
  !pre.pwr.inReset && (
    let s := advance t pre
    let ahead := s.clk.list.takeWhile fun x => x != s.clk.source
    let long (x : Nat) : Bool := match Tbl.find x s.clk.ready with | some a => decide (a + msT 10000 ≤ s.now) | none => false
    (match (if tbRuns s ∧ s.clk.auto ∧ s.clk.revert then ahead.find? (fun x => x != 0 && long x) else none) with
     | some _ =>
        true
     | _ => false))

/-- LOOP_FAULT_STOP. -/
def loopFaultStop (t : Nat) (pre : State) : Bool :=
  !pre.pwr.inReset && (
    let s := advance t pre
    decide ((s.clk.tb = .locked ∨ s.clk.tb = .recovering)))

/-- OP_GFM_SET_PARAM. -/
def opGfmSetParam (r : Req) (s0 : State) : Bool :=
  let p := r.payload
  let s := seen 0x1001 r s0
  reaches { code := 0x1001, states := stIARTS } r s0 &&
    (match setParams false gfmTable s.gfm.par p s with
     | .ok _ =>
        true
     | _ => false)

/-- OP_GFM_COMMIT. -/
def opGfmCommit (r : Req) (s0 : State) : Bool :=
  let p := r.payload
  let s := seen 0x1002 r s0
  reaches { code := 0x1002, states := stIARTS } r s0 &&
    (lateStruct gfmTable s.gfm.par s).isNone &&
    passes [lenIs p 4, rsv p 0 4, (hoBlending s, .busy, 0), ((gfmRelation s.gfm.par).isSome, .range, (gfmRelation s.gfm.par).getD 0)]

/-- OP_GFM_DISCARD. -/
def opGfmDiscard (r : Req) (s0 : State) : Bool :=
  let p := r.payload
  reaches { code := 0x1003, states := stIARTS } r s0 &&
    passes [lenIs p 4, rsv p 0 4]

/-- OP_GFM_GET_PARAM. -/
def opGfmGetParam (r : Req) (s0 : State) : Bool :=
  let p := r.payload
  reaches { code := 0x1004, states := stIARTS } r s0 &&
    passes [lenIs p 4, rsv p 2 2, ((parOf gfmTable (u16 p 0)).isNone, .badParam, 0)]

/-- OP_GFM_GET_STATE. -/
def opGfmGetState (r : Req) (s0 : State) : Bool :=
  let p := r.payload
  reaches { code := 0x1005, states := stIARTS } r s0 &&
    passes [lenIs p 4, rsv p 0 4]

/-- OP_GFM_MAP_CHANNEL. -/
def opGfmMapChannel (r : Req) (s0 : State) : Bool :=
  let p := r.payload
  let s := seen 0x1006 r s0
  reaches { code := 0x1006, states := stIARTS } r s0 && (
    let ch := u8 p 0
    let m := chMap s ch
    let host := u8 p 1 == 4 && m.src == 4 && i32 p 4 == m.gain && u32 p 8 == m.phi
    let armAux := (chan s ch).cfg.outType == 5 && decide (6 ≤ (chan s ch).cfg.arm) && (u8 p 1 == 2 || u8 p 1 == 3)
    passes [(!structOk s && decide (16 ≤ p.length) && decide (ch < 64) && !host, .badState, 0), lenIs p 16, outOf ch 0 63 0,
         (decide (4 < u8 p 1), .badParam, 1), rsv p 2 2, outOfI (i32 p 4) (-(2 ^ 28)) (2 ^ 28) 4,
         (u8 p 1 != 4 && u32 p 12 != 0, .badParam, 12), (armAux, .badParam, 1)])

/-- OP_GFM_SET_SEC. -/
def opGfmSetSec (r : Req) (s0 : State) : Bool :=
  let p := r.payload
  let s := seen 0x1007 r s0
  reaches { code := 0x1007, states := stIARTS } r s0 && (
    let v := hzOf (i32 p 0)
    passes [lenIs p 4, (fromHost s r.org && decide (gpHz s 0x23 < |v|), .range, 0)])

/-- OBS_LOCK_GAINED. -/
def obsLockGained (t : Nat) (pre : State) : Bool :=
  !pre.pwr.inReset && (
    let s := advance t pre
    let o := s.gfm.obs
    (match o.goodSince with
     | some g => o.on && !o.lock && due s (g + msT 100)
     | _ => false))

/-- EV_GFM_BLEND_DONE. -/
def evGfmBlendDone (t : Nat) (pre : State) : Bool :=
  !pre.pwr.inReset && (
    let s := advance t pre
    decide ((s.gfm.par.blendDue)))

/-- EV_GFM_SEC_STALE. -/
def evGfmSecStale (t : Nat) (pre : State) : Bool :=
  !pre.pwr.inReset && (
    let s := advance t pre
    decide ((gp s 0x21 ≠ 0 ∧ ¬ s.gfm.secStale ∧ due s (s.gfm.secAt + (gp s 0x24 * 1600).floor.toNat))))

/-- OP_GRID_SET_PARAM. -/
def opGridSetParam (r : Req) (s0 : State) : Bool :=
  let p := r.payload
  let s := seen 0x1101 r s0
  reaches { code := 0x1101, states := stIARTS } r s0 &&
    (match setParams true gridTable s.grid.par p s with
     | .ok _ =>
        true
     | _ => false)

/-- OP_GRID_COMMIT. -/
def opGridCommit (r : Req) (s0 : State) : Bool :=
  let p := r.payload
  let s := seen 0x1102 r s0
  reaches { code := 0x1102, states := stIARTS } r s0 &&
    (lateStruct gridTable s.grid.par s).isNone &&
    passes [lenIs p 4, rsv p 0 4, (hoBlending s, .busy, 0),
         ((gridRelation s.grid.par).isSome, .range, (gridRelation s.grid.par).getD 0)]

/-- OP_GRID_DISCARD. -/
def opGridDiscard (r : Req) (s0 : State) : Bool :=
  let p := r.payload
  reaches { code := 0x1103, states := stIARTS } r s0 &&
    passes [lenIs p 4, rsv p 0 4]

/-- OP_GRID_GET_PARAM. -/
def opGridGetParam (r : Req) (s0 : State) : Bool :=
  let p := r.payload
  reaches { code := 0x1104, states := stIARTS } r s0 &&
    passes [lenIs p 4, rsv p 2 2, ((parOf gridTable (u16 p 0)).isNone, .badParam, 0)]

/-- OP_GRID_SET_ENV. -/
def opGridSetEnv (r : Req) (s0 : State) : Bool :=
  let p := r.payload
  let s := seen 0x1105 r s0
  reaches { code := 0x1105, states := stIA } r s0 && (
    let n := u8 p 1
    let e := u8 p 0
    let level := firstBad n (envLevelBad s p)
    let order := firstBad n (envOrderBad p)
    passes [lenIs p (4 + 8 * n), (decide (3 < e), .badParam, 0), outOf n 0 16 1, rsv p 2 2, (level.isSome, .range, level.getD 0),
         (order.isSome, .badParam, order.getD 0)])

/-- OP_GRID_CL_RELEASE. -/
def opGridClRelease (r : Req) (s0 : State) : Bool :=
  let p := r.payload
  reaches { code := 0x1106, states := stR } r s0 &&
    passes [lenIs p 4, rsv p 0 4]

/-- OP_GRID_MAP_SYNC. -/
def opGridMapSync (r : Req) (s0 : State) : Bool :=
  let p := r.payload
  reaches { code := 0x1107, states := stIA } r s0 &&
    passes [lenIs p 4, outOf (u8 p 0) 0 19 0, outOf (u8 p 1) 0 19 1, outOf (u8 p 2) 0 19 2, rsv p 3 1]

/-- OP_GRID_SYNC_START. -/
def opGridSyncStart (r : Req) (s0 : State) : Bool :=
  let p := r.payload
  let s := seen 0x1108 r s0
  reaches { code := 0x1108, states := stR } r s0 &&
    passes [(syncBarred s, .badState, 0), lenIs p 4, (u8 p 0 != 1, .badParam, 0), rsv p 1 3]

/-- OP_GRID_SYNC_STOP. -/
def opGridSyncStop (r : Req) (s0 : State) : Bool :=
  let p := r.payload
  reaches { code := 0x1108, states := stR } r s0 &&
    passes [lenIs p 4, (u8 p 0 != 0, .badParam, 0), rsv p 1 3]

/-- OP_GRID_ISL_CLEAR. -/
def opGridIslClear (r : Req) (s0 : State) : Bool :=
  let p := r.payload
  let s := seen 0x1109 r s0
  reaches { code := 0x1109, states := stIARTS } r s0 &&
    passes [lenIs p 4, rsv p 0 4, ((ep s 0x14).floor.toNat % 4 != 0, .refused, 0)]

/-- OP_GRID_SET_MODE. -/
def opGridSetMode (r : Req) (s0 : State) : Bool :=
  let p := r.payload
  let s := seen 0x110A r s0
  reaches { code := 0x110A, states := stR } r s0 &&
    passes [(decide (1 ≤ p.length) && modeCodeOk (u8 p 0) && (hoPair s (u8 p 0)).isNone, .badState, 0), lenIs p 4,
         (!modeCodeOk (u8 p 0), .badParam, 0), rsv p 1 3] &&
    (match requestMode (u8 p 0) (some (owedTo r 0x110A)) s with
     | .ok _ =>
        true
     | _ => false)

/-- OP_GRID_BS_GROUP. -/
def opGridBsGroup (r : Req) (s0 : State) : Bool :=
  let p := r.payload
  let s := seen 0x110B r s0
  reaches { code := 0x110B, states := stIA, v2 := false } r s0 && (
    let n := u16 p 2
    let id (k : Nat) : Nat := u16 p (4 + 2 * k)
    let bad := firstBad n fun k => decide (4096 ≤ id k) || (partner s (id k)).type != 3
    let ids := (List.range n).map id
    passes [lenIs p (4 + 2 * n), outOf (u8 p 0) 0 7 0, rsv p 1 1, outOf n 1 256 2, (bad.isSome, .badParam, bad.getD 0),
         (decide (256 < (bsPeers s (u8 p 0) ids).length), .range, 2)])

/-- OP_GRID_BS_LOAD. -/
def opGridBsLoad (r : Req) (s0 : State) : Bool :=
  let p := r.payload
  let s := seen 0x110C r s0
  reaches { code := 0x110C, states := stIA, v2 := false } r s0 && (
    let n := u8 p 0
    let bad := firstBad n fun k => (bsStepBad s (bsStepAt p k)).isSome
    passes [lenIs p (4 + 16 * n), outOf n 1 32 0, rsv p 1 3,
         (bad.isSome, (bsStepBad s (bsStepAt p (bad.getD 0))).getD .badParam, bad.getD 0)])

/-- OP_GRID_BS_CONTINUE_PROCEED. -/
def opGridBsContinueProceed (r : Req) (s0 : State) : Bool :=
  let p := r.payload
  let s := seen 0x110D r s0
  reaches { code := 0x110D, states := stR, v2 := false } r s0 &&
    passes [lenIs p 4, (u8 p 0 != 0, .badParam, 0), rsv p 1 3, (!atWaitHost s, .refused, 0)] && s.grid.bs.isSome

/-- OP_GRID_BS_CONTINUE_RETRY. -/
def opGridBsContinueRetry (r : Req) (s0 : State) : Bool :=
  let p := r.payload
  let s := seen 0x110D r s0
  reaches { code := 0x110D, states := stR, v2 := false } r s0 &&
    passes [lenIs p 4, (u8 p 0 != 1, .badParam, 0), rsv p 1 3, (!bsHalted s, .refused, 0)] && s.grid.bs.isSome

/-- OP_GRID_BS_CONTINUE_SKIP. -/
def opGridBsContinueSkip (r : Req) (s0 : State) : Bool :=
  let p := r.payload
  let s := seen 0x110D r s0
  reaches { code := 0x110D, states := stR, v2 := false } r s0 &&
    passes [lenIs p 4, (u8 p 0 != 2, .badParam, 0), rsv p 1 3, (!bsHalted s, .refused, 0)] && s.grid.bs.isSome

/-- OP_GRID_BS_ABORT. -/
def opGridBsAbort (r : Req) (s0 : State) : Bool :=
  let p := r.payload
  let s := seen 0x110E r s0
  reaches { code := 0x110E, states := stR, v2 := false } r s0 &&
    passes [lenIs p 4, rsv p 0 4, (s.grid.bs.isNone, .refused, 0)]

/-- OP_GRID_GET_STATE. -/
def opGridGetState (r : Req) (s0 : State) : Bool :=
  let p := r.payload
  reaches { code := 0x110F, states := stIARTS } r s0 &&
    passes [lenIs p 4, rsv p 0 4]

/-- GF_CL_EXIT. -/
def gfClExit (t : Nat) (pre : State) : Bool :=
  !pre.pwr.inReset && (
    let s := advance t pre
    (match s.gfm.run.exitSince with
     | some e =>
        decide ((s.sys.mode = .gfCl ∧ s.gfm.run.ho.isNone ∧ ¬ s.grid.clHold ∧ epPu s 0x05 ≤ s.gfm.vLineMin ∧ due s (e + epTicks s 0x07)))
     | _ => false))

/-- EV_GRID_CL_LONG. -/
def evGridClLong (t : Nat) (pre : State) : Bool :=
  !pre.pwr.inReset && (
    let s := advance t pre
    let r := s.gfm.run
    let from_ := if s.sys.mode = .gfCl then some r.clSince else if s.sys.mode = .bs then r.limSince else none
    (match from_ with
     | some x =>
        decide ((¬ r.clLong ∧ due s (x + epTicks s 0x08)))
     | _ => false))

/-- ENVELOPE_POINT_EXCEEDED. -/
def envelopePointExceeded (t : Nat) (env : Nat) (point : Nat) (pre : State) : Bool :=
  !pre.pwr.inReset && (
    let s := advance t pre
    let x := envTimer s env point
    (match (s.grid.env.getD env []).drop point with
     | (dur, _) :: _ =>
        decide ((env < 4 ∧ observed s ∧ usT dur < x.t ∧ ¬ x.said))
     | _ => false))

/-- ENVELOPE_TIMER_RESET. -/
def envelopeTimerReset (t : Nat) (env : Nat) (point : Nat) (pre : State) : Bool :=
  !pre.pwr.inReset && (
    let s := advance t pre
    let x := envTimer s env point
    (match x.okSince with
     | some o =>
        decide ((due s (o + epTicks s 0x13)))
     | _ => false))

/-- HANDOVER_BLEND_DONE. -/
def handoverBlendDone (t : Nat) (pre : State) : Bool :=
  !pre.pwr.inReset && (
    let s := advance t pre
    (match s.gfm.run.ho with
     | some h =>
        decide ((h.blending ∧ 1 ≤ h.lambda))
     | _ => false))

/-- HANDOVER_PENDING_TIMEOUT. -/
def handoverPendingTimeout (t : Nat) (pre : State) : Bool :=
  !pre.pwr.inReset && (
    let s := advance t pre
    (match s.gfm.run.ho with
     | some h =>
        decide ((¬ h.blending ∧ ¬ h.passed ∧ due s (h.since + epTicks s 0x0E)))
     | _ => false))

/-- EV_GRID_GFL_LOST. -/
def evGridGflLost (t : Nat) (pre : State) : Bool :=
  !pre.pwr.inReset && (
    let s := advance t pre
    let r := s.gfm.run
    let o := s.gfm.obs
    let since := max r.modeSince (o.lostSince.getD r.modeSince)
    decide ((s.sys.mode = .gfl ∧ ¬ o.lock ∧ ¬ r.gflLostSaid ∧ due s (since + epTicks s 0x1B))))

/-- EV_GRID_SYNC_OK. -/
def evGridSyncOk (t : Nat) (pre : State) : Bool :=
  !pre.pwr.inReset && (
    let s := advance t pre
    (match s.gfm.run.syncSince with
     | some x =>
        decide ((s.gfm.run.syncRun ∧ ¬ s.gfm.run.syncOkSaid ∧ due s (x + epTicks s 0x19)))
     | _ => false))

/-- SYNC_BREAKER_CLOSED. -/
def syncBreakerClosed (t : Nat) (pre : State) : Bool :=
  !pre.pwr.inReset && (
    let s := advance t pre
    (match s.gfm.run.closeSince with
     | some x => s.gfm.run.syncRun && due s (x + msT 100)
     | _ => false))

/-- The black-start program goes on: it is in RUN, not halted, and not paused by a CURRENT_LIMIT_MODE hold in BS
(03_grid_events.md R85, R88, R89). -/
def bsGoes (s : State) : Bool :=
  (match s.grid.bs with
   | some b => !b.halted && !bsPaused s && s.sys.state == .run
   | _ => false)

/-- BS_STEP_START. -/
def bsStepStart (t : Nat) (pre : State) : Bool :=
  let s := advance t pre
  !pre.pwr.inReset && bsGoes s && (match s.grid.bs with | some b => !b.begun | _ => false)

/-- BS_STEP_COMPLETE. -/
def bsStepComplete (t : Nat) (pre : State) : Bool :=
  let s := advance t pre
  !pre.pwr.inReset && bsGoes s &&
    (match s.grid.bs with
     | some b =>
        b.begun && (
          let x := bsStepOf s b
          let group := !bsGrouped x || b.result.isSome
          (match b.result with
           | some (st, l) => st != Status.aborted.code && decide (x.minMembers ≤ l.length)
           | none => true) &&
          (match x.action with
           | 2 => (match b.vSince with | some v => due s (v + usT x.arg1) | none => false)
           | 3 => (match b.pulseTo with | some e => due s e | none => false)
           | 6 => b.proceed
           | 7 => b.acted && group && s.sys.mode == .gf && s.gfm.run.ho.isNone
           | _ => b.acted && group))
     | _ => false)

/-- BS_STEP_TIMEOUT. -/
def bsStepTimeout (t : Nat) (pre : State) : Bool :=
  let s := advance t pre
  !pre.pwr.inReset &&
    (match s.grid.bs with
     | some b => b.begun && !b.halted && due s (b.started + usT (bsStepOf s b).timeout)
     | _ => false)

/-- BS_CLOSE_PULSE_END. -/
def bsClosePulseEnd (t : Nat) (pre : State) : Bool :=
  let s := advance t pre
  !pre.pwr.inReset && bsGoes s &&
    (match s.grid.bs with
     | some b =>
        b.begun && (bsStepOf s b).action == 3 && b.result.isNone &&
        (match b.pulseTo with | some e => due s e | none => false)
     | _ => false)

/-- BS_WAIT_V_HELD. -/
def bsWaitVHeld (t : Nat) (pre : State) : Bool :=
  let s := advance t pre
  !pre.pwr.inReset && bsGoes s &&
    (match s.grid.bs with
     | some b =>
        b.begun && (bsStepOf s b).action == 2 && b.result.isNone &&
        (match b.vSince with | some v => due s (v + usT (bsStepOf s b).arg1) | none => false)
     | _ => false)

/-- OP_BRIM_SET_CHANNEL. -/
def opBrimSetChannel (r : Req) (s0 : State) : Bool :=
  let p := r.payload
  let s := seen 0x1201 r s0
  reaches { code := 0x1201, states := stIARTS } r s0 && (
    let c := chanCfgOf p
    let ch := u8 p 0
    let cur := (chan s ch).cfgPend.getD (chan s ch).cfg
    let sBad := !structOk s && decide (56 ≤ p.length) && decide (ch < 64) && c.structure != cur.structure
    passes ((sBad, .badState, 0) :: chanCfgChecks s p))

/-- OP_BRIM_SET_ARM. -/
def opBrimSetArm (r : Req) (s0 : State) : Bool :=
  let p := r.payload
  let s := seen 0x1202 r s0
  reaches { code := 0x1202, states := stIA } r s0 && (
    let n := u16 p 2
    let a := u8 p 0
    passes [(p.length != 24 + 2 * n, .badLength, 0), outOf a 0 7 0, (decide (1 < u8 p 1), .badParam, 1), outOf n 1 320 2,
         outOf (u32 p 4) 10 5000 4, outOf (u32 p 8) 0 (cPu (1 / 10)).toNat 8, outOf (u32 p 12) (2 ^ 27) (cPu (3 / 2)).toNat 12,
         outOf (u32 p 16) (2 ^ 26) (2 ^ 27) 16, outOfI (i16 p 20) 0 1500 20, outOf (u8 p 22) 1 16 22, rsv p 23 1] &&
    ((List.range n).find? (cellBad s p a)).isNone && (
      let ids := (List.range n).map fun k => u16 p (24 + 2 * k)
      passes [(decide (2048 < (otherCells s a).length + n), .noResource, 0), (tooMany12 s ids (otherCells s a), .noResource, 0)]))

/-- OP_BRIM_GET_STATUS. -/
def opBrimGetStatus (r : Req) (s0 : State) : Bool :=
  let p := r.payload
  reaches { code := 0x1203, states := stIARTS } r s0 &&
    passes [lenIs p 4, rsv p 1 3, outOf (u8 p 0) 0 63 0]

/-- BRIM_DECISION. -/
def brimDecision (t : Nat) (ch : Nat) (_upset : Nat) (_slips : Bool) (pre : State) : Bool :=
  !pre.pwr.inReset && (
    let s := advance t pre
    let x := chan s ch
    (match x.inq with
     | (_, _) :: _ =>
        true
     | _ => false))

/-- ANPC_CHAIN_SECOND_CHANGE. -/
def anpcChainSecondChange (t : Nat) (ch : Nat) (pre : State) : Bool :=
  !pre.pwr.inReset && (
    let s := advance t pre
    (match (chan s ch).pend with
     | some p =>
        decide ((p.second ∧ reached s p.at_))
     | _ => false))

/-- OP_ANGLE_SET_TABLE. -/
def opAngleSetTable (r : Req) (s0 : State) : Bool :=
  let p := r.payload
  reaches { code := 0x1301, states := stIARTS } r s0 && (
    let n := u8 p 0
    passes [lenIs p 8, outOf n 0 7 0, outOf (u8 p 1) 0 2 1, outOf (u8 p 2) 1 64 2, rsv p 3 1])

/-- OP_ANGLE_WRITE. -/
def opAngleWrite (r : Req) (s0 : State) : Bool :=
  let p := r.payload
  let s := seen 0x1302 r s0
  reaches { code := 0x1302, states := stIARTS } r s0 && (
    let n := u8 p 0
    let start := u16 p 2
    let k := u16 p 4
    passes [(p.length != 8 + 4 * k, .badLength, 0), outOf n 0 7 0, rsv p 1 1, outOf start 0 1023 2, outOf k 1 1018 4, rsv p 6 2,
         (decide (1024 < start + k), .range, 2), (tabBusy s n, .busy, 0)])

/-- OP_ANGLE_READ. -/
def opAngleRead (r : Req) (s0 : State) : Bool :=
  let p := r.payload
  reaches { code := 0x1303, states := stIARTS } r s0 && (
    let start := u16 p 2
    let k := u16 p 4
    passes [lenIs p 8, outOf (u8 p 0) 0 7 0, (decide (1 < u8 p 1), .badParam, 1), outOf start 0 1023 2, outOf k 1 1018 4, rsv p 6 2,
         (decide (1024 < start + k), .range, 2)])

/-- OP_ANGLE_SWAP. -/
def opAngleSwap (r : Req) (s0 : State) : Bool :=
  let p := r.payload
  let s := seen 0x1304 r s0
  reaches { code := 0x1304, states := stIARTS } r s0 && (
    let m := u8 p 0
    let bad := (bitsOf 8 m).find? fun n => u32 p (4 + 4 * n) != crc32c (bankBytes (angTab s n).sh)
    passes [lenIs p 36, (bad.isSome, .check, bad.getD 0), (m == 0, .badParam, 0), ((bitsOf 8 m).any (tabBusy s), .busy, 0)])

/-- ANGLE_COPY_BACK_DONE. -/
def angleCopyBackDone (t : Nat) (pre : State) : Bool :=
  !pre.pwr.inReset && !(advance t pre).angle.copying.isEmpty

/-- OP_ANGLE_BIND. -/
def opAngleBind (r : Req) (s0 : State) : Bool :=
  let p := r.payload
  let s := seen 0x1305 r s0
  reaches { code := 0x1305, states := stIARTS } r s0 && (
    let rt := s.sys.state == .run || s.sys.state == .tripped
    let old := s.angle.bind.any (sameBind p)
    let full := (s.angle.bind.filter fun b => b.kind == u8 p 1 && b.target == u8 p 2).length
    passes ([(rt && namesBind p && !old, Status.badState, 0)] ++ bindChecks p ++
         [(u8 p 1 == 0, .badParam, 1), (!old && decide (2 ≤ full), .noResource, 0)]))

/-- OP_ANGLE_BIND_REMOVE. -/
def opAngleBindRemove (r : Req) (s0 : State) : Bool :=
  let p := r.payload
  let s := seen 0x1305 r s0
  reaches { code := 0x1305, states := stIARTS } r s0 && (
    let rt := s.sys.state == .run || s.sys.state == .tripped
    let mine (b : AngBind) : Bool := b.table == u8 p 0 && b.target == u8 p 2
    passes ([(rt && decide (2 ≤ p.length), Status.badState, 0)] ++ bindChecks p ++ [(u8 p 1 != 0, .badParam, 1), (!s.angle.bind.any mine, .badParam, 0)]))

/-- OP_ANGLE_INJ_SET. -/
def opAngleInjSet (r : Req) (s0 : State) : Bool :=
  let p := r.payload
  let s := seen 0x1306 r s0
  reaches { code := 0x1306, states := stIAR } r s0 &&
    passes (injChecks s p)

/-- OP_ANGLE_INJ_START. -/
def opAngleInjStart (r : Req) (s0 : State) : Bool :=
  let p := r.payload
  let s := seen 0x1307 r s0
  reaches { code := 0x1307, states := stR } r s0 &&
    passes [((s.sys.mode != .gf && s.sys.mode != .gfl) || s.gfm.run.ho.isSome || !holds s, .badState, 0), lenIs p 4, rsv p 0 4,
         (s.angle.injCfg.isNone, .notReady, 0), (s.angle.inj.isSome, .busy, 0)]

/-- INJECTION_FADE_IN_DONE. -/
def injectionFadeInDone (t : Nat) (pre : State) : Bool :=
  !pre.pwr.inReset && (
    let s := advance t pre
    (match s.angle.inj with
     | some i =>
        decide ((i.phase = 1 ∧ reached s (i.at_ + injFade s)))
     | _ => false))

/-- CORRELATION_WINDOW_END. -/
def correlationWindowEnd (t : Nat) (pre : State) : Bool :=
  !pre.pwr.inReset && (
    let s := advance t pre
    (match s.angle.inj, s.angle.injCfg with
     | some i, some c => i.phase == 2 && reached s (i.at_ + injWindow c)
     | _, _ => false))

/-- INJECTION_FADE_OUT_DONE. -/
def injectionFadeOutDone (t : Nat) (pre : State) : Bool :=
  !pre.pwr.inReset && (
    let s := advance t pre
    (match s.angle.inj with
     | some i =>
        decide ((i.phase = 3 ∧ reached s (fadeEnd s i)))
     | _ => false))

/-- SCAN_REPORT_READY. -/
def scanReportReady (t : Nat) (pre : State) : Bool :=
  !pre.pwr.inReset && (
    let s := advance t pre
    (match s.angle.reporting with
     | some (_, _) =>
        true
     | _ => false))

/-- OP_ANGLE_INJ_STOP. -/
def opAngleInjStop (r : Req) (s0 : State) : Bool :=
  let p := r.payload
  let s := seen 0x1308 r s0
  reaches { code := 0x1308, states := stR } r s0 &&
    passes [lenIs p 4, rsv p 0 4] &&
    (match s.angle.inj with
     | some _ =>
        true
     | _ => false)

/-- OP_ANGLE_CORR_SET. -/
def opAngleCorrSet (r : Req) (s0 : State) : Bool :=
  let p := r.payload
  let s := seen 0x1309 r s0
  reaches { code := 0x1309, states := stIARTS } r s0 && (
    let one (k : Nat) : List (Bool × Status × Nat) :=
      [(decide (2 < u8 p (4 * k)), .badParam, 4 * k), (u8 p (4 * k) == 1 && decide (8 < u8 p (4 * k + 1)), .range, 4 * k + 1),
       (u8 p (4 * k) == 2 && decide (19 < u8 p (4 * k + 1)), .range, 4 * k + 1), rsv p (4 * k + 2) 2]
    passes ([lenIs p 32] ++ (List.range 8).flatMap one ++ [(s.angle.inj.isSome, .busy, 0)]))

/-- OP_ANGLE_SCAN_READ. -/
def opAngleScanRead (r : Req) (s0 : State) : Bool :=
  let p := r.payload
  let s := seen 0x130A r s0
  reaches { code := 0x130A, states := stIARTS } r s0 &&
    passes [lenIs p 4, rsv p 0 4] &&
    (match s.angle.report with
     | some _ =>
        true
     | _ => false)

/-- OP_LEG_SET_CONFIG. -/
def opLegSetConfig (r : Req) (s0 : State) : Bool :=
  let p := r.payload
  let s := seen 0x1401 r s0
  reaches { code := 0x1401, states := stIART } r s0 && (
    let n := u8 p 0
    let running := s.sys.state == .run || s.sys.state == .tripped
    passes ((running && decide (1 ≤ p.length) && decide (n < 48) && (leg s n).enabled, .badState, 0) :: legCfgChecks p s))

/-- OP_LEG_SYNC. -/
def opLegSync (r : Req) (s0 : State) : Bool :=
  let p := r.payload
  let s := seen 0x1402 r s0
  reaches { code := 0x1402, states := stIARTS } r s0 && (
    let running := s.sys.state == .run || s.sys.state == .tripped
    passes [(running && decide (8 ≤ p.length) && (legsOf p).any (fun n => (leg s n).enabled), .badState, 0), lenIs p 16,
         maskOk p, (decide (u64 p 8 < s.now + 160) || decide (s.now + 1600000000 < u64 p 8), .range, 8)])

/-- OP_LEG_STAGE. -/
def opLegStage (r : Req) (s0 : State) : Bool :=
  let p := r.payload
  reaches { code := 0x1403, states := stIARTS } r s0 && (
    let m := u8 p 1
    let bad (o : Nat) : Bool × Status × Nat := outOf (u32 p o) 0 (2 ^ 27) o
    passes [lenIs p 24, outOf (u8 p 0) 0 47 0, rsvBits p 1 2, (m == 0, .badParam, 1), rsv p 2 2,
         outOf (u32 p 4) 320 16000000 4, bad 8, bad 12, bad 16])

/-- OP_LEG_COMMIT. -/
def opLegCommit (r : Req) (s0 : State) : Bool :=
  let p := r.payload
  let s := seen 0x1404 r s0
  reaches { code := 0x1404, states := stIARTS } r s0 && (
    let ls := legsOf p
    passes [lenIs p 16, maskOk p, (ls.isEmpty, .badParam, 0xFFFF)] &&
    (ls.find? fun n => (commitBad (leg s n)).isSome).isNone &&
    passes [(decide (s.now + 1600000000 < u64 p 8), .range, 8)])

/-- OP_LEG_SET_CMP. -/
def opLegSetCmp (r : Req) (s0 : State) : Bool :=
  let p := r.payload
  reaches { code := 0x1405, states := stIARTS } r s0 && (
    let entry (k : Nat) : List (Bool × Status × Nat) :=
      [(!cmpArgOk (u8 p (8 + 8 * k)) (u8 p (9 + 8 * k)), .badParam, 8 + 8 * k), rsv p (10 + 8 * k) 2]
    passes ([lenIs p 36, outOf (u8 p 0) 0 47 0, rsv p 1 3] ++ (List.range 4).flatMap entry))

/-- OP_LEG_DISABLE. -/
def opLegDisable (r : Req) (s0 : State) : Bool :=
  let p := r.payload
  reaches { code := 0x1406, states := stIARTS } r s0 &&
    passes [lenIs p 8, maskOk p]

/-- OP_LEG_ENABLE. -/
def opLegEnable (r : Req) (s0 : State) : Bool :=
  let p := r.payload
  let s := seen 0x1407 r s0
  reaches { code := 0x1407, states := stR } r s0 && (
    let ls := legsOf p
    passes [lenIs p 8, maskOk p] &&
    (ls.find? (enableRefused s)).isNone &&
    (ls.find? (mapTorn s ls)).isNone)

/-- OP_LEG_GET_STATUS. -/
def opLegGetStatus (r : Req) (s0 : State) : Bool :=
  let p := r.payload
  reaches { code := 0x1408, states := stIARTS } r s0 &&
    passes [lenIs p 4, rsv p 1 3, outOf (u8 p 0) 0 47 0]

/-- LEG_ANCHOR_APPLIED. -/
def legAnchorApplied (t : Nat) (leg_ : Nat) (pre : State) : Bool :=
  !pre.pwr.inReset && (
    let s := advance t pre
    let x := leg s leg_
    (match x.nextSync with
     | some a =>
        decide ((reached s a))
     | _ => false))

/-- LEG_PERIOD_BOUNDARY. -/
def legPeriodBoundary (t : Nat) (leg_ : Nat) (pre : State) : Bool :=
  !pre.pwr.inReset && (
    let s := advance t pre
    let x := leg s leg_
    decide (¬ (¬ tbRuns s ∨ legU x s.now ≠ 0 ∨ x.start = some (s.now : Int))))

/-- LEG_APEX_UPDATE. -/
def legApexUpdate (t : Nat) (leg_ : Nat) (pre : State) : Bool :=
  !pre.pwr.inReset && (
    let s := advance t pre
    let x := leg s leg_
    decide (¬ (¬ tbRuns s ∨ ¬ x.cfg.tri ∨ x.cfg.update = 0 ∨ legU x s.now ≠ x.pair.period / 2)))

/-- LEG_OUTPUT_EDGE. -/
def legOutputEdge (t : Nat) (leg_ : Nat) (pre : State) : Bool :=
  !pre.pwr.inReset && (
    let s := advance t pre
    let x := leg s leg_
    decide (¬ (x.mitten ∨ brimMode s leg_)))

/-- DEAD_TIME_EXPIRY. -/
def deadTimeExpiry (t : Nat) (leg_ : Nat) (pre : State) : Bool :=
  !pre.pwr.inReset && (
    let s := advance t pre
    let x := leg s leg_
    (match x.assertAt with
     | some (_, f) =>
        decide ((reached s (f / 8)))
     | _ => false))

/-- REFRESH_GUARD. -/
def refreshGuard (t : Nat) (leg_ : Nat) (pre : State) : Bool :=
  !pre.pwr.inReset && (
    let s := advance t pre
    let x := leg s leg_
    (match x.offSince with
     | some o =>
        decide ((x.cfg.refreshEn ∧ x.enabled ∧ ¬ x.mitten ∧ ¬ x.gl ∧ x.refreshTo.isNone ∧ reached s (o + x.cfg.refreshMax)))
     | _ => false))

/-- REFRESH_LOW_END. -/
def refreshLowEnd (t : Nat) (leg_ : Nat) (pre : State) : Bool :=
  !pre.pwr.inReset && (
    let s := advance t pre
    let x := leg s leg_
    (match x.refreshTo with
     | some e =>
        decide ((reached s e))
     | _ => false))

/-- INTERLOCK_BLANK_END. -/
def interlockBlankEnd (t : Nat) (leg_ : Nat) (pre : State) : Bool :=
  !pre.pwr.inReset && (
    let s := advance t pre
    let x := leg s leg_
    (match x.blankTo with
     | some e =>
        decide ((reached s (e / 8) ∧ ¬ (x.reqH ∧ x.reqL)))
     | _ => false))

/-- LEG_COMPARE_FIRE. -/
def legCompareFire (t : Nat) (leg_ : Nat) (cmp : Nat) (pre : State) : Bool :=
  !pre.pwr.inReset && (
    let s := advance t pre
    let x := leg s leg_
    let c := x.cmp.getD cmp {}
    (match x.start with
     | some b =>
        let on := s.sys.state == .armed || s.sys.state == .run || s.sys.state == .tripped
        decide ((on && c.target != 0 && decide (c.value < x.pair.period) && !x.fired.testBit cmp && decide (b + c.value ≤ s.now) && decide ((s.now : Int) < b + x.pair.period)))
     | _ => false))

/-- TRIG_OUT_PULSE_END. -/
def trigOutPulseEnd (t : Nat) (out : Nat) (pre : State) : Bool :=
  !pre.pwr.inReset && (
    let s := advance t pre
    (match Tbl.find out s.balls.trigOut with
     | some e =>
        decide ((reached s e))
     | _ => false))

/-- MIT_DELAY_HOLD_END. -/
def mitDelayHoldEnd (t : Nat) (leg_ : Nat) (pre : State) : Bool :=
  let s := advance t pre
  let x := leg s leg_
  (match x.hold with
   | some (_, e) =>
      decide ((due s e))
   | _ => false)

/-- MITTEN_ASSERT_WAIT_END. -/
def mittenAssertWaitEnd (t : Nat) (leg_ : Nat) (pre : State) : Bool :=
  !pre.pwr.inReset && (
    let s := advance t pre
    let x := leg s leg_
    (match x.wait with
     | some (_, e) =>
        decide ((x.mitten ∧ reached s (e / 8)))
     | _ => false))

/-- OVL_WIN_ELAPSED. -/
def ovlWinElapsed (t : Nat) (leg_ : Nat) (pre : State) : Bool :=
  !pre.pwr.inReset && (
    let s := advance t pre
    let x := leg s leg_
    decide ((x.ovlOn ∧ reached s (overlapEnd x + usT x.cfg.ovlWin))))

/-- OP_GNT_SET_INPUTS. -/
def opGntSetInputs (r : Req) (s0 : State) : Bool :=
  let p := r.payload
  reaches { code := 0x1501, states := stIA } r s0 && (
    let m := u64 p 0
    passes [lenIs p 8, (m / 2 ^ 50 != 0, .badParam, 6)])

/-- OP_GNT_SET_BLANK. -/
def opGntSetBlank (r : Req) (s0 : State) : Bool :=
  let p := r.payload
  reaches { code := 0x1502, states := stIA } r s0 &&
    passes (lenIs p 32 :: (List.range 16).map fun k => outOf (u16 p (2 * k)) 0 6400 (2 * k))

/-- OP_GNT_GET_RECORDS. -/
def opGntGetRecords (r : Req) (s0 : State) : Bool :=
  let p := r.payload
  reaches { code := 0x1503, states := stIARTS } r s0 &&
    passes [lenIs p 12, outOf (u8 p 8) 1 80 8, rsv p 9 3]

/-- OP_GNT_UNPIN. -/
def opGntUnpin (r : Req) (s0 : State) : Bool :=
  let p := r.payload
  reaches { code := 0x1504, states := stIARTS } r s0 &&
    passes [lenIs p 4, rsv p 0 4]

/-- OP_GNT_LOAD_TABLE. -/
def opGntLoadTable (r : Req) (s0 : State) : Bool :=
  let p := r.payload
  let s := seen 0x1505 r s0
  reaches { code := 0x1505, states := stIAT } r s0 &&
    passes (loadTableChecks p 0) &&
    ((List.range 64).find? (tableEntryBad s p)).isNone

/-- OP_GNT_LOAD_TABLE_FACTORY. -/
def opGntLoadTableFactory (r : Req) (s0 : State) : Bool :=
  let p := r.payload
  reaches { code := 0x1505, states := stIAT } r s0 &&
    passes (loadTableChecks p 1)

/-- OP_GNT_CONFIRM. -/
def opGntConfirm (r : Req) (s0 : State) : Bool :=
  let p := r.payload
  let s := seen 0x1506 r s0
  reaches { code := 0x1506, states := stIAT } r s0 &&
    passes [lenIs p 4] &&
    (match s.gnt.staging with
     | some t =>
        decide (¬ (u32 p 0 ≠ crc32c (tableBytes t)))
     | _ => false)

/-- OP_GNT_GET_TABLE. -/
def opGntGetTable (r : Req) (s0 : State) : Bool :=
  let p := r.payload
  reaches { code := 0x1507, states := stIARTS } r s0 &&
    passes [lenIs p 4, rsv p 0 4]

/-- OP_GNT_RAISE. -/
def opGntRaise (r : Req) (s0 : State) : Bool :=
  let p := r.payload
  reaches { code := 0x150B, states := stIARTS } r s0 &&
    passes [lenIs p 4, rsv p 2 2]

/-- OP_GNT_GET_INPUT. -/
def opGntGetInput (r : Req) (s0 : State) : Bool :=
  let p := r.payload
  reaches { code := 0x150C, states := stIARTS } r s0 &&
    passes [lenIs p 4, rsv p 1 3, outOf (u8 p 0) 0 49 0]

/-- FAULT_INPUT_ASSERT. -/
def faultInputAssert (t : Nat) (i : Nat) (pre : State) : Bool :=
  let s := advance t pre
  let x := finput s i
  decide (¬ (50 ≤ i ∨ x.asserted))

/-- FAULT_INPUT_RECOGNISED. -/
def faultInputRecognised (t i : Nat) (pre : State) : Bool :=
  !pre.pwr.inReset && (
    let s := advance t pre
    let x := finput s i
    x.asserted && !x.recognised && s.gnt.enable.testBit i && due s (x.since + 8) &&
      (!x.inWindow || due s (x.outlived.getD x.blankTo)))

/-- BLANKING_WINDOW_END. -/
def blankingWindowEnd (t : Nat) (i : Nat) (pre : State) : Bool :=
  !pre.pwr.inReset && (
    let s := advance t pre
    decide ((due s (finput s i).blankTo)))

/-- FAULT_RECORD_CLOSE. -/
def faultRecordClose (t : Nat) (pre : State) : Bool :=
  !pre.pwr.inReset && (
    let s := advance t pre
    (match s.gnt.openRec with
     | some (_, at_) => due s at_
     | _ => false))

/-- MITTEN_N_ASSERT. -/
def mittenNAssert (t : Nat) (pre : State) : Bool :=
  let s := advance t pre
  decide (¬ (s.gnt.mitLow.isSome))

/-- MITTEN_N_QUALIFIED. -/
def mittenNQualified (t : Nat) (pre : State) : Bool :=
  !pre.pwr.inReset && (
    let s := advance t pre
    (match s.gnt.mitLow with
     | some since =>
        decide (¬ (s.gnt.mitQual ∨ ¬ due s (since + 8)))
     | _ => false))

/-- OP_GNT_SET_CHOP. -/
def opGntSetChop (r : Req) (s0 : State) : Bool :=
  let p := r.payload
  reaches { code := 0x1508, states := stIA } r s0 && (
    let k := u8 p 0
    let src := u16 p 4
    passes [lenIs p 40, outOf k 0 1 0, rsvBits p 1 1, (decide (15 < u8 p 2) && u8 p 2 != 0xFF, .range, 2), rsvBits p 3 4,
         (src / 256 != 0 || selReserved 0 (src / 16), .badParam, 4), rsv p 18 2, outOf (u32 p 20) 1 4000000 20,
         outOf (u32 p 24) 100 100000 24, outOf (u32 p 28) 1000 3600000 28, outOf (u32 p 32) 100 100000000 32, rsv p 36 4,
         (decide (i16 p 8 ≤ i16 p 10) || decide (i16 p 12 ≤ i16 p 8), .range, 8)])

/-- OP_GNT_CHOP_CTRL_RELEASE. -/
def opGntChopCtrlRelease (r : Req) (s0 : State) : Bool :=
  let p := r.payload
  reaches { code := 0x1509, states := stIARTS } r s0 &&
    passes (chopCtrlChecks p 0)

/-- OP_GNT_CHOP_CTRL_ENABLE. -/
def opGntChopCtrlEnable (r : Req) (s0 : State) : Bool :=
  let p := r.payload
  let s := seen 0x1509 r s0
  reaches { code := 0x1509, states := stIARTS } r s0 && (
    let i := 48 + u8 p 0
    passes (chopCtrlChecks p 1 ++ [((finput s i).asserted && s.gnt.enable.testBit i, .refused, 0)]))

/-- CHOPPER_SAMPLE. -/
def chopperSample (t : Nat) (k : Nat) (pre : State) : Bool :=
  !pre.pwr.inReset && (
    let s := advance t pre
    let c := chop s k
    (match c.inq with
     | (_, _) :: _ =>
        true
     | _ => false))

/-- CHOPPER_EDGE. -/
def chopperEdge (t : Nat) (k : Nat) (pre : State) : Bool :=
  !pre.pwr.inReset && (
    let s := advance t pre
    (match (chop s k).edge with
     | some (_, at_) =>
        decide (¬ (¬ due s at_))
     | _ => false))

/-- CHOPPER_ENERGY_UPDATE. -/
def chopperEnergyUpdate (t : Nat) (k : Nat) (pre : State) : Bool :=
  !pre.pwr.inReset && (
    let s := advance t pre
    let c := chop s k
    decide (¬ (¬ c.written ∨ ¬ tbRuns s ∨ t % 1600 ≠ 0)))

/-- OP_ACQ_SET_CONV. -/
def opAcqSetConv (r : Req) (s0 : State) : Bool :=
  let p := r.payload
  let s := seen 0x1601 r s0
  reaches { code := 0x1601, states := stIARTS } r s0 && (
    let n := u8 p 0
    let rt := s.sys.state == .run || s.sys.state == .tripped
    passes ((rt && decide (1 ≤ p.length) && decide (n < 16) && feedsOutput s n, .badState, 0) :: convChecks s p) &&
    decide (¬ s.clk.gateMask.testBit ((gateBit 0x1607 n).getD 0)))

/-- OP_ACQ_SET_PAIR. -/
def opAcqSetPair (r : Req) (s0 : State) : Bool :=
  let p := r.payload
  let s := seen 0x1602 r s0
  reaches { code := 0x1602, states := stIAS } r s0 && (
    let k := u8 p 0
    let m := u8 p 1
    let pm (j : Nat) : Nat := if j = k then m else pmNow s j
    passes [lenIs p 8, outOf k 0 7 0, (decide (3 < m), .badParam, 1), outOf (u16 p 2) 1 4096 2, outOf (u16 p 4) 16 4096 4,
         rsv p 6 2, ((m == 1 || m == 3) && !interleaveOk (cfNext s (2 * k)), .badParam, 1),
         (overBudget (cfNext s) pm s, .noResource, 0)] &&
    decide (¬ s.clk.gateMask.testBit (12 + k)))

/-- OP_ACQ_CALIBRATE. -/
def opAcqCalibrate (r : Req) (s0 : State) : Bool :=
  let p := r.payload
  let s := seen 0x1603 r s0
  reaches { code := 0x1603, states := stIS } r s0 && (
    let m := u32 p 0
    passes [lenIs p 4, (m / 2 ^ 20 != 0 || m == 0, .badParam, 0), (s.clk.tb != .locked && s.clk.tb != .holdover, .notReady, 0)])

/-- CALIBRATION_DONE. -/
def calibrationDone (t : Nat) (_results : List CalResult) (pre : State) : Bool :=
  !pre.pwr.inReset && (
    let s := advance t pre
    let ns := (List.range 20).filter fun n => (conv s n).calibrating
    decide (¬ (ns.isEmpty)))

/-- OP_ACQ_GET_CAL. -/
def opAcqGetCal (r : Req) (s0 : State) : Bool :=
  let p := r.payload
  reaches { code := 0x1604, states := stIARTS } r s0 &&
    passes [lenIs p 4, rsv p 0 4]

/-- OP_ACQ_SET_CAL. -/
def opAcqSetCal (r : Req) (s0 : State) : Bool :=
  let p := r.payload
  let k := u8 p 0
  reaches { code := 0x1605, states := stIS } r s0 &&
    passes [(p.length != 4 + 32 * k, .badLength, 0), outOf k 1 20 0, rsv p 1 3]

/-- OP_ACQ_SAVE_CAL. -/
def opAcqSaveCal (r : Req) (s0 : State) : Bool :=
  let p := r.payload
  let s := seen 0x1606 r s0
  reaches { code := 0x1606, states := stIAS } r s0 &&
    passes [lenIs p 4, rsv p 0 4] &&
    decide (¬ ((List.range 20).any fun n => (conv s n).calibrating))

/-- OP_ACQ_GET_STATUS. -/
def opAcqGetStatus (r : Req) (s0 : State) : Bool :=
  let p := r.payload
  let s := seen 0x1607 r s0
  reaches { code := 0x1607, states := stIARTS } r s0 &&
    passes [lenIs p 4, rsv p 1 3, outOf (u8 p 0) 0 19 0] && (
      let n := u8 p 0
      decide (¬ gated s 0x1607 n))

/-- TEMP_MONITOR_READ. -/
def tempMonitorRead (t : Nat) (_temps : List Nat) (pre : State) : Bool :=
  !pre.pwr.inReset && (
    let s := advance t pre
    decide (¬ (s.sys.state = .boot)))

/-- ACQ_CONVERSION. -/
def acqConversion (t : Nat) (n : Nat) (_pv : Int) (pre : State) : Bool :=
  !pre.pwr.inReset && (
    let s := advance t pre
    let x := conv s n
    decide (¬ (¬ tbRuns s ∨ 16 ≤ n ∨ x.calibrating ∨ (x.code.1 = t ∧ x.count ≠ 0))) &&
    (match convertsAt s n t with
     | some (_, _) =>
        true
     | _ => false))

/-- FAST_WORD_DELIVERED. -/
def fastWordDelivered (t : Nat) (n : Nat) (pre : State) : Bool :=
  !pre.pwr.inReset && (
    let s := advance t pre
    (match (conv s n).fly with
     | (_, _, _) :: _ =>
        true
     | _ => false))

/-- AUX_WORD_CLOSE. -/
def auxWordClose (t : Nat) (n : Nat) (_steps : List Int) (pre : State) : Bool :=
  !pre.pwr.inReset && (
    let s := advance t pre
    let x := conv s n
    let c := x.cfg
    decide (¬ (¬ tbRuns s ∨ n < 16 ∨ 20 ≤ n ∨ x.calibrating ∨ c.timing ≠ 1 ∨ t % (160 * c.div) ≠ 0 ∨ (x.code.1 = t ∧ x.count ≠ 0))))

/-- OP_FILT_SET_CHAIN. -/
def opFiltSetChain (r : Req) (s0 : State) : Bool :=
  let p := r.payload
  reaches { code := 0x1701, states := stIARTS } r s0 && (
    let n := u8 p 0
    let m := u8 p 1
    let fir (v lo hi o : Nat) : Bool × Status × Nat := outOf v (if m = 1 then lo else 0) (if m = 1 then hi else 0) o
    let hb := u8 p 9
    passes [lenIs p 16, outOf n 0 19 0, (decide (2 < m), .badParam, 1), (decide (15 < u8 p 2) || selReserved n (u8 p 2), .badParam, 2),
         fir (u8 p 3) 0 1 3, fir (u16 p 4) 1 512 4, fir (u16 p 6) 1 256 6,
         outOf (u8 p 8) (if m = 2 then 1 else 0) (if m = 2 then 6 else 0) 8,
         (m == 2 && (decide (hb < 7) || decide (63 < hb) || hb % 4 != 3), .badParam, 9), (m != 2 && hb != 0, .range, 9),
         rsv p 10 6])

/-- OP_FILT_LOAD_COEF. -/
def opFiltLoadCoef (r : Req) (s0 : State) : Bool :=
  let p := r.payload
  reaches { code := 0x1702, states := stIARTS } r s0 && (
    let n := u8 p 0
    let start := u16 p 2
    let k := u16 p 4
    passes [(p.length != 8 + 4 * k, .badLength, 0), outOf n 0 19 0, rsv p 1 1, outOf start 0 511 2, outOf k 1 512 4, rsv p 6 2,
         (decide (512 < start + k), .range, 2)])

/-- OP_FILT_APPLY. -/
def opFiltApply (r : Req) (s0 : State) : Bool :=
  let p := r.payload
  let s := seen 0x1703 r s0
  reaches { code := 0x1703, states := stIARTS } r s0 && (
    let n := u8 p 0
    let fade := u16 p 2
    passes [lenIs p 8, outOf n 0 19 0, rsv p 1 1, outOf fade 0 4096 2] && (
      let x := fchain s n
      (match x.stagedHdr with
       | some h =>
          let f := stagedSet x h
          let eligible := match x.act with | some a => fadeEligible a f | none => false
          let rt := s.sys.state == .run || s.sys.state == .tripped
          let s1 := setFchain n { x with pend := some (f, fade, rt) } s
          passes [(u32 p 4 != crc32c (h ++ f.coef.flatMap (leI 4)), .check, 0), (fade != 0 && !eligible, .badParam, 2),
               (overBudget (cfNext s1) (pmNow s1) s1, .noResource, 0), (x.fade.isSome, .busy, 0)]
       | _ => false)))

/-- OP_FILT_GET_STATUS. -/
def opFiltGetStatus (r : Req) (s0 : State) : Bool :=
  let p := r.payload
  reaches { code := 0x1704, states := stIARTS } r s0 &&
    passes [lenIs p 4, rsv p 1 3, outOf (u8 p 0) 0 19 0]

/-- FILTER_INPUT_WORD. -/
def filterInputWord (t : Nat) (n : Nat) (pre : State) : Bool :=
  !pre.pwr.inReset && (
    let s0 := advance t pre
    (match (fchain s0 n).inq with
     | (_, _) :: _ =>
        true
     | _ => false))

/-- FILTER_OUTPUT_DELIVERED. -/
def filterOutputDelivered (t : Nat) (n : Nat) (pre : State) : Bool :=
  !pre.pwr.inReset && (
    let s := advance t pre
    let x := fchain s n
    (match x.fly with
     | (_, _, _) :: _ =>
        true
     | _ => false))

/-- OP_POND_SET_CAPTURE. -/
def opPondSetCapture (r : Req) (s0 : State) : Bool :=
  let p := r.payload
  let s := seen 0x1801 r s0
  reaches { code := 0x1801, states := stIARTS } r s0 && (
    let n := u8 p 0
    let stream := (u8 p 1).testBit 2
    let id := u16 p 16
    let powers := [1, 2, 4, 8, 16, 32, 64, 128, 256]
    let chBad (k : Nat) : List (Bool × Status × Nat) :=
      [(!chanSourceOk (u8 p (20 + 4 * k)) (u8 p (21 + 4 * k)), .badParam, 20 + 4 * k),
       (u8 p (22 + 4 * k) != 16 && u8 p (22 + 4 * k) != 32, .badParam, 22 + 4 * k), rsv p (23 + 4 * k) 1]
    let type := (partner s (id % 4096)).type
    passes ([(p.length != 20 + 4 * n, Status.badLength, 0), (s.pond.armed, .busy, 0), outOf n 1 32 0, rsvBits p 1 3, outOf (u16 p 2) 1 65535 2,
          (!powers.contains (u16 p 4), .range, 4), (u16 p 6 / 2048 != 0, .badParam, 6), outOf (pondLen p) 2 8388608 8,
          outOf (pondPre p) 0 (pondLen p - 1) 12, (if stream then decide (4095 < id) else id != 0, .range, 16), rsv p 18 2,
          (decide (8388608 < (64 + pondLen p * frameBytes p) * pondSegs p), .range, 8)] ++ (List.range n).flatMap chBad ++
         [(stream && type != 4 && type != 5, .badParam, 16)]))

/-- OP_POND_ARM. -/
def opPondArm (r : Req) (s0 : State) : Bool :=
  let p := r.payload
  let s := seen 0x1802 r s0
  reaches { code := 0x1802, states := stIARTS } r s0 &&
    passes [lenIs p 4, rsv p 0 4] &&
    (match s.pond.cfg with
     | some _ =>
        decide (¬ (s.pond.armed))
     | _ => false)

/-- OP_POND_DISARM. -/
def opPondDisarm (r : Req) (s0 : State) : Bool :=
  let p := r.payload
  reaches { code := 0x1803, states := stIARTS } r s0 &&
    passes [lenIs p 4, rsv p 0 4]

/-- OP_POND_SET_TRIG. -/
def opPondSetTrig (r : Req) (s0 : State) : Bool :=
  let p := r.payload
  let s := seen 0x1804 r s0
  reaches { code := 0x1804, states := stIARTS } r s0 && (
    let n := u8 (pondCfg s) 0
    let one (j : Nat) : List (Bool × Status × Nat) :=
      [(decide (n ≤ u8 p (12 * j)), .badParam, 12 * j), (decide (2 < u8 p (12 * j + 1)), .badParam, 12 * j + 1), rsv p (12 * j + 2) 2]
    passes ([lenIs p 32, (s.pond.armed, .busy, 0)] ++ one 0 ++ one 1))

/-- OP_POND_TRIGGER. -/
def opPondTrigger (r : Req) (s0 : State) : Bool :=
  let p := r.payload
  reaches { code := 0x1805, states := stIARTS } r s0 &&
    passes [lenIs p 4, rsv p 0 4]

/-- OP_POND_READ. -/
def opPondRead (r : Req) (s0 : State) : Bool :=
  let p := r.payload
  let s := seen 0x1806 r s0
  reaches { code := 0x1806, states := stIARTS } r s0 &&
    passes [lenIs p 16, outOf (u32 p 12) 1 4000 12] &&
    (match heldRec s (u64 p 0) with
     | some x =>
        decide (¬ (x.size < u32 p 8 + u32 p 12))
     | _ => false)

/-- OP_POND_FREE. -/
def opPondFree (r : Req) (s0 : State) : Bool :=
  let p := r.payload
  let s := seen 0x1807 r s0
  reaches { code := 0x1807, states := stIARTS } r s0 &&
    passes [lenIs p 8, ((heldRec s (u64 p 0)).isNone, .notReady, 0)]

/-- OP_POND_LIST. -/
def opPondList (r : Req) (s0 : State) : Bool :=
  let p := r.payload
  reaches { code := 0x1808, states := stIARTS } r s0 &&
    passes [lenIs p 4, rsv p 0 4]

/-- OP_POND_GET_STATUS. -/
def opPondGetStatus (r : Req) (s0 : State) : Bool :=
  let p := r.payload
  reaches { code := 0x1809, states := stIARTS } r s0 &&
    passes [lenIs p 4, rsv p 0 4]

/-- POND_CAPTURE_FRAME. -/
def pondCaptureFrame (t : Nat) (pre : State) : Bool :=
  !pre.pwr.inReset && (
    let s0 := advance t pre
    (match s0.pond.cfg with
     | some c =>
        let k := t - 1600
        decide (¬ (t < 1600 ∨ ¬ tbRuns s0 ∨ k % pondPeriod c ≠ 0 ∨ k < s0.pond.from_ ∨ k ≤ s0.pond.decided ∧ k ≠ s0.pond.from_ ∨ (s0.pond.phase ≠ 1 ∧ s0.pond.phase ≠ 2)))
     | _ => false))

/-- TRIG_IN_EDGE. -/
def trigInEdge (_t : Nat) (i : Nat) (pre : State) : Bool :=
  !pre.pwr.inReset && (
    decide ((i < 4)))

/-- XTRIG_DRIVE_END. -/
def xtrigDriveEnd (t : Nat) (pre : State) : Bool :=
  !pre.pwr.inReset && (
    let s := advance t pre
    decide ((reached s s.pond.xDrive)))

/-- POND_RECORD_CLOSE. -/
def pondRecordClose (t : Nat) (pre : State) : Bool :=
  !pre.pwr.inReset && (
    let s := advance t pre
    (match s.pond.cur with
     | some r =>
        decide ((pondFull s r))
     | _ => false))

/-- POND_REARM_END. -/
def pondRearmEnd (t : Nat) (pre : State) : Bool :=
  !pre.pwr.inReset && (
    let s := advance t pre
    decide ((s.pond.phase = 3 ∧ tbRuns s)))

/-- POND_STREAM_ACKED. -/
def pondStreamAcked (t : Nat) (n : Nat) (pre : State) : Bool :=
  !pre.pwr.inReset && (
    let s := advance t pre
    (match heldRec s n with
     | some r =>
        decide ((r.streaming ∧ r.size ≤ r.sentTo ∧ ¬ streamPending s r))
     | _ => false))

/-- POND_READ_HOLD_END. -/
def pondReadHoldEnd (t : Nat) (n : Nat) (pre : State) : Bool :=
  !pre.pwr.inReset && (
    let s := advance t pre
    (match heldRec s n with
     | some r =>
        decide ((due s r.readTo))
     | _ => false))

/-- OP_LANE_SET_QUAD. -/
def opLaneSetQuad (r : Req) (s0 : State) : Bool :=
  let p := r.payload
  let s := seen 0x2001 r s0
  reaches { code := 0x2001, states := stIAS } r s0 && (
    let q := u8 p 0
    passes [lenIs p 4, outOf q 0 3 0, (decide (1 < u8 p 1), .badParam, 1), rsv p 2 2] &&
    decide (¬ s.clk.gateMask.testBit q))

/-- OP_LANE_SET_CONFIG. -/
def opLaneSetConfig (r : Req) (s0 : State) : Bool :=
  let p := r.payload
  let s := seen 0x2002 r s0
  reaches { code := 0x2002, states := stIAS } r s0 && (
    let n := u8 p 0
    let role := u8 p 1
    let ctrl := u16 p 2
    passes [lenIs p 12, outOf n 0 15 0, outOf role 0 5 1, (role == 5 && decide (n < 14), .badParam, 1),
         (ctrl / 16 != 0 || (ctrl.testBit 3 && privileged role), .badParam, 2), outOf (u8 p 4) 0 15 4, outOf (u8 p 5) 0 7 5,
         outOf (u8 p 6) 0 15 6, (u8 p 7 != 0xFF && decide (15 < u8 p 7), .range, 7),
         (!idleAfterOk role (u16 p 8), .range, 8), rsv p 10 2,
         (role != 0 && (gateReq s).testBit (n / 4), .notReady, 0)] &&
    decide (¬ s.clk.gateMask.testBit (n / 4)))

/-- OP_LANE_TRAIN. -/
def opLaneTrain (r : Req) (s0 : State) : Bool :=
  let p := r.payload
  let s := seen 0x2003 r s0
  reaches { code := 0x2003, states := stIARTS } r s0 && (
    let l := bitsOf 16 (u16 p 0)
    passes [(decide (2 ≤ p.length) && trainForbidden s l, .badState, 0), lenIs p 4, rsv p 2 2, (trainMaskBad s l, .badParam, 0)])

/-- OP_LANE_SLIP. -/
def opLaneSlip (r : Req) (s0 : State) : Bool :=
  let p := r.payload
  let s := seen 0x2004 r s0
  reaches { code := 0x2004, states := stS } r s0 && (
    let n := u8 p 0
    passes [lenIs p 4, outOf n 0 15 0, (u8 p 1 != 0xFF && decide (65 < u8 p 1), .range, 1), rsv p 2 2,
         ((lane s n).up, .busy, 0)])

/-- OP_LANE_POWER_SLEEP. -/
def opLanePowerSleep (r : Req) (s0 : State) : Bool :=
  let p := r.payload
  let s := seen 0x2005 r s0
  reaches { code := 0x2005, states := stIARTS } r s0 && (
    let n := u8 p 0
    passes [((s.sys.state == .run || s.sys.state == .tripped) && decide (n < 16) && (u8 p 1).testBit 0 && u8 p 2 == 1 &&
            carriesCells s n, .badState, 0)] &&
    passes [lenIs p 4, outOf (u8 p 0) 0 15 0, rsvBits p 1 2, (u8 p 2 != 1, .badParam, 2), rsv p 3 1] &&
    passes [(privileged (lane s n).role, .badParam, 0)] &&
    decide (¬ s.clk.gateMask.testBit (n / 4)))

/-- OP_LANE_POWER_WAKE. -/
def opLanePowerWake (r : Req) (s0 : State) : Bool :=
  let p := r.payload
  let s := seen 0x2005 r s0
  reaches { code := 0x2005, states := stIARTS } r s0 && (
    let n := u8 p 0
    passes [lenIs p 4, outOf (u8 p 0) 0 15 0, rsvBits p 1 2, (u8 p 2 != 0, .badParam, 2), rsv p 3 1] &&
    decide (¬ s.clk.gateMask.testBit (n / 4)))

/-- OP_LANE_PRBS. -/
def opLanePrbs (r : Req) (s0 : State) : Bool :=
  let p := r.payload
  let s := seen 0x2006 r s0
  reaches { code := 0x2006, states := stS } r s0 && (
    let n := u8 p 0
    passes [lenIs p 8, outOf n 0 15 0, outOf (u8 p 1) 0 4 1, outOf (u8 p 2) 0 4 2, outOf (u8 p 3) 0 1 3, outOf (u8 p 4) 0 2 4,
         outOf (u8 p 5) 3 12 5, rsv p 6 2] &&
    decide (¬ s.clk.gateMask.testBit (n / 4)))

/-- OP_LANE_GET_STATUS. -/
def opLaneGetStatus (r : Req) (s0 : State) : Bool :=
  let p := r.payload
  let s := seen 0x2007 r s0
  reaches { code := 0x2007, states := stIARTS } r s0 &&
    passes [lenIs p 4, rsv p 1 3, outOf (u8 p 0) 0 15 0] && (
      let n := u8 p 0
      decide (¬ gated s 0x2007 n))

/-- LANE_TRAIN_ATTEMPT_START. -/
def laneTrainAttemptStart (t : Nat) (n : Nat) (pre : State) : Bool :=
  !pre.pwr.inReset && (
    let s := advance t pre
    let x := lane s n
    decide (¬ (15 < n ∨ s.sys.state = .boot ∨ x.retryAt.isSome ∨ ¬ (x.up ∨ x.autoTrain) ∨ ¬ s.lane.qpllLock.testBit (n / 4))))

/-- LANE_TRAIN_STATE_ADVANCE. -/
def laneTrainStateAdvance (t : Nat) (n : Nat) (pre : State) : Bool :=
  !pre.pwr.inReset && (
    let s := advance t pre
    let x := lane s n
    decide (¬ (¬ x.training)))

/-- LANE_TRAIN_TIMEOUT. -/
def laneTrainTimeout (t : Nat) (n : Nat) (pre : State) : Bool :=
  !pre.pwr.inReset && (
    let s := advance t pre
    let x := lane s n
    decide ((x.training ∧ (due s (x.stateAt + usT (stateLimit x.st)) ∨ due s (x.attemptAt + usT 2000)))))

/-- LANE_RETRY_WAIT_END. -/
def laneRetryWaitEnd (t : Nat) (n : Nat) (pre : State) : Bool :=
  !pre.pwr.inReset && (
    let s := advance t pre
    (match (lane s n).retryAt with
     | some e =>
        decide ((due s e))
     | _ => false))

/-- TRAIN_BLOCK_RECEIVED. -/
def trainBlockReceived (t : Nat) (n : Nat) (_block : List Byte) (pre : State) : Bool :=
  !pre.pwr.inReset && (
    let s := advance t pre
    decide ((hears s n)))

/-- ALIGN_SEARCH_STEP. -/
def alignSearchStep (t : Nat) (n : Nat) (_bad : Nat) (pre : State) : Bool :=
  !pre.pwr.inReset && (
    let s := advance t pre
    let x := lane s n
    decide (¬ (¬ x.training ∨ x.st ≠ 2 ∨ 4 ≤ x.good)))

/-- RX_SIGNAL_DETECT. -/
def rxSignalDetect (_t : Nat) (n : Nat) (pre : State) : Bool :=
  !pre.pwr.inReset && (
    decide (¬ (15 < n)))

/-- EXIT_BURST_RECEIVED. -/
def exitBurstReceived (t : Nat) (n : Nat) (pre : State) : Bool :=
  !pre.pwr.inReset && (
    let s := advance t pre
    decide (((lane s n).rxIdle)))

/-- LANE_DROP. -/
def laneDrop (t : Nat) (n : Nat) (cause : Nat) (pre : State) : Bool :=
  !pre.pwr.inReset && (
    let s := advance t pre
    let x := lane s n
    decide (¬ (15 < n ∨ cause = 0 ∨ 4 < cause ∨ ¬ (x.up ∨ x.training ∧ cause ≠ 4) ∨ (cause = 2 ∧ ¬ x.aligned))))

/-- LANE_SIGNAL_LOSS. -/
def laneSignalLoss (t : Nat) (n : Nat) (pre : State) : Bool :=
  !pre.pwr.inReset && (
    let s := advance t pre
    let x := lane s n
    decide (¬ (15 < n ∨ x.rxSleep ∨ x.rxIdle)))

/-- QUAD_PLL_LOSS. -/
def quadPllLoss (t quad : Nat) (pre : State) : Bool :=
  !pre.pwr.inReset && decide (quad < 4) && (advance t pre).lane.qpllLock.testBit quad

/-- QUAD_PLL_RELOCK. -/
def quadPllRelock (t : Nat) (quad : Nat) (pre : State) : Bool :=
  !pre.pwr.inReset && (
    let s := advance t pre
    decide (¬ (3 < quad ∨ s.lane.qpllLock.testBit quad ∨ (s.lane.quadTbase.testBit quad ∧ ¬ tbRuns s))))

/-- BOND_LANE_REJOIN. -/
def bondLaneRejoin (t : Nat) (pair : Nat) (pre : State) : Bool :=
  !pre.pwr.inReset && (
    let s := advance t pre
    decide (¬ (¬ joinsNow s pair ∨ 7 < pair ∨ ¬ markDue s (bond s pair))))

/-- BOND_MARKER_TX. -/
def bondMarkerTx (t : Nat) (pair : Nat) (pre : State) : Bool :=
  !pre.pwr.inReset && (
    let s := advance t pre
    decide (¬ (7 < pair ∨ ¬ bonded (lane s (2 * pair)).role ∨ ¬ markDue s (bond s pair))))

/-- ELECTRICAL_IDLE_ENTRY. -/
def electricalIdleEntry (t : Nat) (n : Nat) (pre : State) : Bool :=
  !pre.pwr.inReset && (
    let s := advance t pre
    let x := lane s n
    let q := lane s (queueLane s n)
    let still := q.queue.isEmpty && q.cur.isNone
    decide (¬ (¬ privileged x.role ∨ ¬ x.up ∨ x.eidle ∨ x.idleAfter = 0 ∨ x.idleRun < x.idleAfter ∨ ¬ still ∨ 15 < n)))

/-- ELECTRICAL_IDLE_EXIT. -/
def electricalIdleExit (t : Nat) (n : Nat) (pre : State) : Bool :=
  !pre.pwr.inReset && (
    let s := advance t pre
    let x := lane s n
    decide (¬ (¬ x.eidle ∨ ((lane s (queueLane s n)).queue.isEmpty ∧ ¬ due s (x.eidleSince + usT 100)))))

/-- LANE_FRAME_TRANSMIT. -/
def laneFrameTransmit (t : Nat) (n : Nat) (_blocks : Nat) (pre : State) : Bool :=
  !pre.pwr.inReset && (
    let s := advance t pre
    let x := lane s n
    decide (¬ (15 < n ∨ x.role = 0 ∨ x.txSleep)))

/-- LANE_WAKE_DONE. -/
def laneWakeDone (t : Nat) (n : Nat) (pre : State) : Bool :=
  !pre.pwr.inReset && (
    let s := advance t pre
    let x := lane s n
    let ended (w : Option Nat) : Bool := match w with | some e => due s e | none => false
    decide (¬ (¬ ended x.txWake ∧ ¬ ended x.rxWake)))

/-- PRBS_LOCK_LOSS. -/
def prbsLockLoss (t : Nat) (n : Nat) (pre : State) : Bool :=
  !pre.pwr.inReset && (
    let s := advance t pre
    let x := lane s n
    decide (¬ (¬ x.prbsOn ∨ x.prbsChk = 0 ∨ ¬ x.prbsLock)))

/-- OP_STRAND_SET_CONFIG. -/
def opStrandSetConfig (r : Req) (s0 : State) : Bool :=
  let p := r.payload
  reaches { code := 0x2101, states := stIA } r s0 && (
    let n := u8 p 0
    passes [lenIs p 16, outOf n 0 15 0, rsvBits p 1 2, outOf (u16 p 2) 40 1000 2, outOf (u32 p 4) 3200 32000 4,
         outOf (u16 p 8) 0 8000 8, outOf (u16 p 10) 0 1000 10, rsv p 12 4])

/-- OP_STRAND_NODE_CLEAR. -/
def opStrandNodeClear (r : Req) (s0 : State) : Bool :=
  let p := r.payload
  let s := seen 0x2102 r s0
  reaches { code := 0x2102, states := stIART } r s0 &&
    passes [lenIs p 4, (decide (4095 < u16 p 0), .badParam, 0), rsv p 2 2, ((partner s (u16 p 0)).type != 1, .badParam, 0)]

/-- OP_STRAND_GET_STATUS. -/
def opStrandGetStatus (r : Req) (s0 : State) : Bool :=
  let p := r.payload
  reaches { code := 0x2103, states := stIARTS } r s0 &&
    passes [lenIs p 4, rsv p 1 3, outOf (u8 p 0) 0 15 0]

/-- OP_STRAND_GET_CELL. -/
def opStrandGetCell (r : Req) (s0 : State) : Bool :=
  let p := r.payload
  let s := seen 0x2104 r s0
  reaches { code := 0x2104, states := stIARTS } r s0 &&
    passes [lenIs p 4, (decide (4095 < u16 p 0), .badParam, 0), rsv p 2 2, ((partner s (u16 p 0)).type != 1, .badParam, 0)]

/-- TELEMETRY_CYCLE_BOUNDARY. -/
def telemetryCycleBoundary (t : Nat) (pre : State) : Bool :=
  !pre.pwr.inReset && (
    let s := advance t pre
    decide (¬ (¬ tbRuns s ∨ s.now % 32000 ≠ 0)))

/-- NODE_SET_ACK_TIMEOUT. -/
def nodeSetAckTimeout (t : Nat) (id : Nat) (pre : State) : Bool :=
  !pre.pwr.inReset && (
    let s := advance t pre
    let c := cell s id
    (match c.setPend with
     | some (_, _, e) =>
        decide (¬ (¬ due s e))
     | _ => false))

/-- NODE_COMMAND_RECEIVED. -/
def nodeCommandReceived (t : Nat) (n : Nat) (_port : Nat) (_cmd : CmdFrame) (pre : State) : Bool :=
  let s := advance t pre
  (match Tbl.find n s.node with
   | some _ =>
      true
   | _ => false)

/-- NODE_EVENT_EXECUTE. -/
def nodeEventExecute (t : Nat) (n : Nat) (pre : State) : Bool :=
  let s := advance t pre
  (match Tbl.find n s.node with
   | some x0 =>
      let x := ((x0.settleBridges s.now).portLimits s.now 0).portLimits s.now 1
      decide (¬ (¬ x.timeValid))
   | _ => false)

/-- NODE_SYNC_RECEIVED. -/
def nodeSyncReceived (t : Nat) (n : Nat) (_port : Nat) (_frame : List Byte) (pre : State) : Bool :=
  let s := advance t pre
  (match Tbl.find n s.node with
   | some _ =>
      true
   | _ => false)

/-- NODE_SYNC_TIMEOUT. -/
def nodeSyncTimeout (t : Nat) (n : Nat) (pre : State) : Bool :=
  let s := advance t pre
  (match Tbl.find n s.node with
   | some _ =>
      true
   | _ => false)

/-- NODE_SET_RECEIVED. -/
def nodeSetReceived (t : Nat) (n : Nat) (_port : Nat) (_frame : List Byte) (pre : State) : Bool :=
  let s := advance t pre
  (match Tbl.find n s.node with
   | some _ =>
      true
   | _ => false)

/-- NODE_TELEMETRY_SLOT. -/
def nodeTelemetrySlot (t : Nat) (n : Nat) (pre : State) : Bool :=
  let s := advance t pre
  (match Tbl.find n s.node with
   | some x =>
      let now := x.time s.now
      let cycle := if x.configured then slotCycle s x else some ((now / 32000 : Nat) : Int)
      (match cycle with
       | some k =>
          let c := k.toNat
          decide (¬ (x.tlmCycle = some c))
       | _ => false)
   | _ => false)

/-- NODE_FAULT_DETECT. -/
def nodeFaultDetect (t : Nat) (n : Nat) (_fault : Nat) (pre : State) : Bool :=
  let s := advance t pre
  (match Tbl.find n s.node with
   | some _ =>
      true
   | _ => false)

/-- NODE_WATCH_EXPIRY. -/
def nodeWatchExpiry (t : Nat) (n : Nat) (pre : State) : Bool :=
  let s := advance t pre
  (match Tbl.find n s.node with
   | some x0 =>
      let x := ((x0.settleBridges s.now).portLimits s.now 0).portLimits s.now 1
      decide (¬ (¬ due s (x.lastDown + usT x.watch)))
   | _ => false)

/-- NODE_ECHO_REQUEST. -/
def nodeEchoRequest (t : Nat) (n : Nat) (_port : Nat) (block : List Byte) (pre : State) : Bool :=
  let s := advance t pre
  (match Tbl.find n s.node with
   | some x0 =>
      let x := ((x0.settleBridges s.now).portLimits s.now 0).portLimits s.now 1
      decide (¬ (¬ trainOk block ∨ u8 block 1 ≠ 0x10 ∨ x.pos ≠ some (u8 block 3)))
   | _ => false)

/-- NODE_BLOCK_FORWARD. -/
def nodeBlockForward (t : Nat) (n : Nat) (_port : Nat) (_block : CodeBlock) (pre : State) : Bool :=
  let s := advance t pre
  (match Tbl.find n s.node with
   | some _ =>
      true
   | _ => false)

/-- OP_PART_SET. -/
def opPartSet (r : Req) (s0 : State) : Bool :=
  let p := r.payload
  let s := seen 0x2201 r s0
  reaches { code := 0x2201, states := stIARTS } r s0 && (
    let id := u16 p 0
    let q := partnerOf p {}
    let eth := q.path == 1
    passes [(decide (2 ≤ p.length) && partnerHeld s id, .badState, 0), lenIs p 24,
         (id == 0 || decide (0xFFF ≤ id), .badParam, 0), (q.type == 0 || decide (6 < q.type), .badParam, 2),
         (decide (1 < q.path) || (q.type == 1 && eth), .badParam, 3),
         (if eth then q.strand != 0xFF else false, .badParam, 4), (!eth && decide (15 < q.strand), .range, 4),
         (eth && q.hop != 0, .badParam, 5), (decide (15 < u8 p 6), .badParam, 6),
         ((if eth then q.ports == 0 else q.ports != 0), .badParam, 6), rsvBits p 7 1, (!eth && !zeroAt p 8 6, .badParam, 8),
         (placeTaken s id q, .badParam, if eth then 8 else 4),
         (if q.type = 1 then q.liveTo != 0 else q.liveTo == 0 || decide (60000 < q.liveTo), .range, 22)])

/-- OP_PART_REMOVE. -/
def opPartRemove (r : Req) (s0 : State) : Bool :=
  let p := r.payload
  let s := seen 0x2202 r s0
  reaches { code := 0x2202, states := stIARTS } r s0 &&
    passes [(decide (2 ≤ p.length) && partnerHeld s (u16 p 0), .badState, 0)] &&
    passes [lenIs p 4, (decide (0xFFF < u16 p 0), .badParam, 0), rsv p 2 2] && (
      let id := u16 p 0
      passes [(id == 0 || id == 0xFFF || (armOf s id).isSome, .badParam, 0)])

/-- OP_PART_GET. -/
def opPartGet (r : Req) (s0 : State) : Bool :=
  let p := r.payload
  reaches { code := 0x2203, states := stIARTS } r s0 &&
    passes [lenIs p 4, (decide (0xFFF < u16 p 0), .badParam, 0), rsv p 2 2]

/-- OP_PART_LIST. -/
def opPartList (r : Req) (s0 : State) : Bool :=
  let p := r.payload
  reaches { code := 0x2204, states := stIARTS } r s0 && (
    let st := u8 p 0
    passes [lenIs p 4, (decide (4 < st) && st != 0xFF, .badParam, 0), rsv p 1 1, (decide (0xFFF < u16 p 2), .badParam, 2)])

/-- OP_PART_SESSION_OPEN. -/
def opPartSessionOpen (r : Req) (s0 : State) : Bool :=
  let p := r.payload
  let s := seen 0x2205 r s0
  reaches { code := 0x2205, states := stIARTS } r s0 && (
    let id := u16 p 0
    passes (sessionChecks p 0 s ++ [((freeContext s).isNone, .noResource, 0), ((partner s id).session != 0xFFFF, .busy, 0)]))

/-- OP_PART_SESSION_CLOSE. -/
def opPartSessionClose (r : Req) (s0 : State) : Bool :=
  let p := r.payload
  let s := seen 0x2205 r s0
  reaches { code := 0x2205, states := stIARTS } r s0 && (
    let c := (partner s (u16 p 0)).session
    passes (sessionChecks p 1 s ++ [(c == 0xFFFF, .notReady, 0), ((sess s c).state == 3, .busy, 0)]))

/-- OP_PART_SESS_STATUS. -/
def opPartSessStatus (r : Req) (s0 : State) : Bool :=
  let p := r.payload
  reaches { code := 0x220A, states := stIARTS } r s0 &&
    passes [lenIs p 4, rsv p 2 2, outOf (u16 p 0) 0 255 0]

/-- SESSION_RETX_TIMER. -/
def sessionRetxTimer (t : Nat) (ctx : Nat) (pre : State) : Bool :=
  !pre.pwr.inReset && (
    let s := advance t pre
    let x := sess s ctx
    (match x.unacked with
     | _ :: _ =>
        decide (¬ ((x.state ≠ 2 ∧ x.state ≠ 3) ∨ ¬ x.unacked.any (fun v => due s v.dueAt)))
     | _ => false))

/-- SESSION_ACK_DUE. -/
def sessionAckDue (t : Nat) (ctx : Nat) (pre : State) : Bool :=
  !pre.pwr.inReset && (
    let s := advance t pre
    let x := sess s ctx
    (match x.ackDue with
     | some e =>
        decide ((due s e))
     | _ => false))

/-- SESSION_KEEPALIVE. -/
def sessionKeepalive (t : Nat) (ctx : Nat) (pre : State) : Bool :=
  !pre.pwr.inReset && (
    let s := advance t pre
    let x := sess s ctx
    decide ((x.state = 2 ∧ due s (x.lastSent + msT (partner s x.partner).liveTo / 4))))

/-- SESSION_PROBE. -/
def sessionProbe (t : Nat) (ctx : Nat) (pre : State) : Bool :=
  !pre.pwr.inReset && (
    let s := advance t pre
    let x := sess s ctx
    decide (((x.state = 2 ∨ x.state = 3) ∧ sdiff x.peerLimit x.sndNext ≤ 0 ∧ due s (x.probeAt + usT x.rto))))

/-- SESSION_OPEN_RETX. -/
def sessionOpenRetx (t : Nat) (ctx : Nat) (pre : State) : Bool :=
  !pre.pwr.inReset && (
    let s := advance t pre
    let x := sess s ctx
    decide (¬ (x.state ≠ 1 ∨ ¬ due s x.nextTry)))

/-- SESSION_CLOSE_RETX. -/
def sessionCloseRetx (t : Nat) (ctx : Nat) (pre : State) : Bool :=
  !pre.pwr.inReset && (
    let s := advance t pre
    let x := sess s ctx
    decide (¬ (x.state ≠ 3)))

/-- AUTO_SESSION_RETRY. -/
def autoSessionRetry (t : Nat) (partner_ : Nat) (pre : State) : Bool :=
  !pre.pwr.inReset && (
    let s := advance t pre
    let q := partner s partner_
    (match q.autoAt with
     | some e =>
        (match freeContext s with
         | some _ =>
            decide ((q.autoSession ∧ q.type ≠ 0 ∧ q.type ≠ 1 ∧ q.session = 0xFFFF ∧ due s e ∧ pathUp s q))
         | _ => false)
     | _ => false))

/-- PARTNER_LIVENESS_TIMEOUT. -/
def partnerLivenessTimeout (t : Nat) (partner_ : Nat) (pre : State) : Bool :=
  !pre.pwr.inReset && (
    let s := advance t pre
    let q := partner s partner_
    decide (¬ (q.type = 0 ∨ q.type = 1)))

/-- TXN_SLOT_FREED. -/
def txnSlotFreed (t : Nat) (_txn : Nat) (pre : State) : Bool :=
  !pre.pwr.inReset && (
    let s := advance t pre
    (match s.part.waiting with
     | _ :: _ =>
        decide (¬ (1024 ≤ txns s))
     | _ => false))

/-- OP_PART_GROUP. -/
def opPartGroup (r : Req) (s0 : State) : Bool :=
  let p := whole r s0
  let s := seen 0x2206 r s0
  reaches { code := 0x2206, states := stIARTS, chained := true, v2 := false } r s0 && (
    let n := u16 p 0
    let inner := p.drop (20 + 2 * n)
    let packets := splitPackets (u8 p 2) inner
    let bad := firstBad n (memberBad s p)
    passes [(p.length != 20 + 2 * n + u16 p 12 || packets.isNone, .badLength, 0), outOf n 1 256 0, outOf (u8 p 2) 1 4 2, rsv p 3 1,
         outOf (u32 p 4) 100 10000000 4, outOf (u32 p 8) 100 10000000 8, outOf (u16 p 12) 24 16400 12, rsv p 14 6,
         (bad.isSome, .badParam, bad.getD 0), ((packets.getD []).any fun b => !groupOpcode (u16 b 2), .badOpcode, 0),
         (!timeUsable s, .notReady, 0), (decide (8 ≤ s.part.group.length) || decide (1024 < txns s + n), .noResource, 0)])

/-- OP_PART_PREPARE. -/
def opPartPrepare (r : Req) (s0 : State) : Bool :=
  let p := whole r s0
  let s := seen 0x2207 r s0
  reaches { code := 0x2207, states := stIARTS, chained := true, v2 := false } r s0 && (
    let packets := (splitPackets (u8 p 14) (p.drop 18)).getD []
    passes [(decide (p.length < 18) || p.length != 18 + u16 p 16 || (splitPackets (u8 p 14) (p.drop 18)).isNone, .badLength, 0),
         rsv p 2 2, (!ntOk p 4, .badParam, 4), outOf (u8 p 14) 1 4 14, rsv p 15 1, outOf (u16 p 16) 24 16400 16,
         (!inGroupSession 0x2207 r s, .refused, 0)] && (
      let z := dropExpired s
      let inner := packets.map fun b => (u16 b 2, (b.drop 16).take (u16 b 10))
      let bad := innerTry r.org packets z
      passes [(bad.isSome, (bad.getD (.ok, 0)).1, (bad.getD (.ok, 0)).2),
           (z.part.held.any fun h => shareFamily h.inner inner, .busy, 0), (decide (8 ≤ z.part.held.length), .noResource, 0),
           (!timeUsable z, .notReady, 0)]))

/-- OP_PART_COMMIT. -/
def opPartCommit (r : Req) (s0 : State) : Bool :=
  let p := r.payload
  let s := seen 0x2208 r s0
  let s1 := dropExpired s
  reaches { code := 0x2208, states := stIARTS, v2 := false } r s0 &&
    passes [lenIs p 16, rsv p 2 2, (!ntOk p 4, .badParam, 4), rsv p 14 2, (!inGroupSession 0x2208 r s, .refused, 0),
            (decide ((ntField p 4 : Rat) ≤ ntAt s1 s1.now), .timeout, 0)] &&
    (match findHeld s1 r.org (u16 p 0) with
     | some h => h.commit.isNone
     | none => false)

/-- OP_PART_CANCEL. -/
def opPartCancel (r : Req) (s0 : State) : Bool :=
  let p := r.payload
  reaches { code := 0x2209, states := stIARTS, v2 := false } r s0 &&
    passes [lenIs p 4, rsv p 2 2, (!inGroupSession 0x2209 r (seen 0x2209 r s0), .refused, 0)]

/-- REPLY_PACKET_RECEIVED. -/
def replyPacketReceived (t : Nat) (org : Nat) (opcode : Nat) (tag : Nat) (_payload : List Byte) (pre : State) : Bool :=
  !pre.pwr.inReset && (
    let s := advance t pre
    (match s.pkt.sent.find? fun x => x.1 == org && x.2.1 == opcode && x.2.2.1 == tag with
     | some _ =>
        true
     | _ => false))

/-- GROUP_PREPARE_DEADLINE. -/
def groupPrepareDeadline (t : Nat) (txn : Nat) (pre : State) : Bool :=
  !pre.pwr.inReset && (
    let s := advance t pre
    (match findGroup s txn with
     | some g =>
        decide (¬ (g.execAt.isSome))
     | _ => false))

/-- GROUP_COMMIT_ABANDON. -/
def groupCommitAbandon (t : Nat) (txn : Nat) (pre : State) : Bool :=
  !pre.pwr.inReset && (
    let s := advance t pre
    (match findGroup s txn with
     | some g =>
        (match g.execAt with
         | some x =>
            decide (¬ (g.abandoned ∨ ntAt s s.now < x))
         | _ => false)
     | _ => false))

/-- GROUP_REPLY_DUE. -/
def groupReplyDue (t : Nat) (txn : Nat) (pre : State) : Bool :=
  !pre.pwr.inReset && (
    let s := advance t pre
    (match findGroup s txn with
     | some g =>
        (match g.execAt with
         | some x =>
            let nt := ntAt s s.now
            decide (((List.range g.members.length).all (fun k => g.answered.contains k) ∨ (x : Rat) + 20000000 ≤ nt))
         | _ => false)
     | _ => false))

/-- GROUP_MEMBER_EXECUTE. -/
def groupMemberExecute (t : Nat) (txn : Nat) (pre : State) : Bool :=
  !pre.pwr.inReset && (
    let s := advance t pre
    let nt := ntAt s s.now
    let ready (h : Prepared) : Bool :=
      h.txn == txn && match h.commit with | some (x, _) => decide ((x : Rat) ≤ nt) | none => false
    decide (¬ (¬ tbRuns s ∨ s.now % s.sys.tStep ≠ 0 ∨ s.sys.halted % 16 ≠ 0)) &&
    (match s.part.held.find? ready with
     | some h =>
        (match h.commit with
         | some (_, _) =>
            true
         | _ => false)
     | _ => false))

/-- OP_NET_SET_PORT. -/
def opNetSetPort (r : Req) (s0 : State) : Bool :=
  let p := r.payload
  let s := seen 0x2301 r s0
  reaches { code := 0x2301, states := stIAS } r s0 && (
    let n := u8 p 0
    let mode := u8 p 1
    let ctrl := u16 p 2
    passes [lenIs p 24, outOf n 0 3 0, (decide (3 < mode), .badParam, 1), (ctrl / 8 != 0, .badParam, 2),
         outOf (u16 p 16) 0x0600 0xFFFF 16, outOf (u16 p 18) 1 0xFFFF 18, outOf (u16 p 20) 4256 9216 20,
         (etypeTaken (u16 p 16), .badParam, 16), (u16 p 18 == 319 || u16 p 18 == 320, .badParam, 18), rsv p 22 2,
         (mode != 0 && (gateReq s).testBit (4 + n), .notReady, 0)] &&
    decide (¬ s.clk.gateMask.testBit (4 + n)))

/-- OP_NET_SEND. -/
def opNetSend (r : Req) (s0 : State) : Bool :=
  let p := whole r s0
  let s := seen 0x2302 r s0
  reaches { code := 0x2302, states := stIARTS, chained := true } r s0 && (
    let n := u8 p 0
    let f := p.drop 4
    passes [(decide (p.length < 64) || (decide (n < 4) && decide ((port s n).maxFrame < f.length + 4)), .badLength, 0), outOf n 0 3 0,
         rsvBits p 1 1] &&
    decide (¬ s.clk.gateMask.testBit (4 + n)))

/-- OP_NET_TSQ_READ. -/
def opNetTsqRead (r : Req) (s0 : State) : Bool :=
  let p := r.payload
  reaches { code := 0x2303, states := stIARTS } r s0 && (
    let n := u8 p 0
    passes [lenIs p 3, outOf n 0 3 0, outOf (u8 p 1) 1 64 1, rsvBits p 2 1])

/-- OP_NET_GET_PORT. -/
def opNetGetPort (r : Req) (s0 : State) : Bool :=
  let p := r.payload
  let s := seen 0x2308 r s0
  reaches { code := 0x2308, states := stIARTS } r s0 &&
    passes [lenIs p 4, rsv p 1 3, outOf (u8 p 0) 0 3 0] && (
      let n := u8 p 0
      decide (¬ gated s 0x2308 n))

/-- ETHERNET_LINK_CHANGE. -/
def ethernetLinkChange (t : Nat) (port_ : Nat) (up : Bool) (pre : State) : Bool :=
  !pre.pwr.inReset && (
    let s := advance t pre
    decide (¬ (3 < port_ ∨ (up ∧ ¬ linkAllowed s port_))))

/-- PRP_SUPERVISION_TX. -/
def prpSupervisionTx (t : Nat) (pair : Nat) (pre : State) : Bool :=
  !pre.pwr.inReset && (
    let s := advance t pre
    decide ((prpOper s pair ∧ tbRuns s ∧ s.now % msT 2000 = 0)))

/-- PRP_NODE_FORGET. -/
def prpNodeForget (_t : Nat) (pair : Nat) (pre : State) : Bool :=
  !pre.pwr.inReset && (
    decide (¬ (1 < pair)))

/-- TX_TIMESTAMP. -/
def txTimestamp (t : Nat) (port_ : Nat) (pre : State) : Bool :=
  !pre.pwr.inReset && (
    let s := advance t pre
    let p := port s port_
    (match p.stamping with
     | _ :: _ =>
        true
     | _ => false))

/-- ETHERNET_FRAME_RECEIVED. -/
def ethernetFrameReceived (t : Nat) (port_ : Nat) (_frame : List Byte) (pre : State) : Bool :=
  !pre.pwr.inReset && (
    let s := advance t pre
    decide (¬ (3 < port_ ∨ ¬ (port s port_).link)))

/-- OP_NET_GOOSE_PUB. -/
def opNetGoosePub (r : Req) (s0 : State) : Bool :=
  let p := r.payload
  reaches { code := 0x2304, states := stIAS } r s0 && (
    let n := u8 p 3
    let bad := (List.range n).findSome? (gooseMemberBad p)
    passes [(p.length != 216 + 8 * n, .badLength, 0), outOf (u8 p 0) 0 63 0, rsvBits p 1 2, rsvBits p 2 4, outOf n 1 32 3,
         (!destIn 0x010CCD01 (bytesAt 6 p 4), .range, 4), outOf (u16 p 10) 0 0x3FFF 10, rsv p 14 2, outOf (u16 p 20) 1 1000 20,
         outOf (u16 p 22) (u16 p 20) 60000 22, (bad.isSome, .badParam, bad.getD 0)])

/-- OP_NET_GOOSE_VALUE. -/
def opNetGooseValue (r : Req) (s0 : State) : Bool :=
  let p := r.payload
  reaches { code := 0x2305, states := stIARTS } r s0 &&
    passes [lenIs p 8, outOf (u8 p 0) 0 31 0, rsv p 1 3]

/-- OP_NET_GOOSE_SUB. -/
def opNetGooseSub (r : Req) (s0 : State) : Bool :=
  let p := r.payload
  reaches { code := 0x2306, states := stIAS } r s0 && (
    let n := u8 p 3
    let bad := ((List.range n).findSome? (gooseBindBad p))
    passes [(p.length != 84 + 4 * n, .badLength, 0), rsvBits p 1 2, rsvBits p 2 4, outOf n 0 4 3, outOf (u16 p 10) 0 0x3FFF 10,
         outOf (u8 p 16) 1 32 16, rsv p 17 3, (bad.isSome, (bad.getD (.range, 0)).1, (bad.getD (.range, 0)).2)])

/-- OP_NET_SV_PUB. -/
def opNetSvPub (r : Req) (s0 : State) : Bool :=
  let p := r.payload
  let s := seen 0x2307 r s0
  reaches { code := 0x2307, states := stIAS, v2 := false } r s0 && (
    let n := u8 p 3
    let bad := (List.range n).findSome? (svChanBad s p)
    passes [(p.length != 84 + 8 * n, .badLength, 0), outOf (u8 p 0) 0 7 0, rsvBits p 1 1, rsvBits p 2 4, outOf n 1 8 3,
         (decide (1 < u8 p 4), .badParam, 4), (!([1, 2, 4, 8].contains (u8 p 5)), .badParam, 5), outOf (u16 p 6) 0x4000 0x7FFF 6,
         (!destIn 0x010CCD04 (bytesAt 6 p 8), .range, 8), (bad.isSome, (bad.getD (.range, 0)).1, (bad.getD (.range, 0)).2)])

/-- GOOSE_REPEAT_TX. -/
def gooseRepeatTx (t : Nat) (pub : Nat) (pre : State) : Bool :=
  !pre.pwr.inReset && (
    let s := advance t pre
    (match Tbl.find pub s.net.pub with
     | some g =>
        decide (¬ (¬ g.enable ∨ ¬ g.started ∨ ¬ tbRuns s ∨ s.now < g.nextAt))
     | _ => false))

/-- GOOSE_SUB_LOST. -/
def gooseSubLost (t : Nat) (sub : Nat) (pre : State) : Bool :=
  !pre.pwr.inReset && (
    let s := advance t pre
    (match Tbl.find sub s.net.sub with
     | some g =>
        decide ((g.enable ∧ ¬ g.lost ∧ g.last.isSome ∧ due s g.deadline))
     | _ => false))

/-- SV_SAMPLE_PUBLISH. -/
def svSamplePublish (t : Nat) (stream : Nat) (pre : State) : Bool :=
  !pre.pwr.inReset && (
    let s := advance t pre
    (match Tbl.find stream s.net.sv with
     | some v =>
        (match (if v.enable ∧ tbRuns s then v.nextNs else none) with
         | some x =>
            let vals := v.chans.map (svValue s (ntTick s x))
            decide (¬ (vals.any (fun o => o.isNone)))
         | _ => false)
     | _ => false))

/-- GOOSE_FRAME_RECEIVED. -/
def gooseFrameReceived (t : Nat) (port_ : Nat) (_frame : GooseFrame) (pre : State) : Bool :=
  !pre.pwr.inReset && (
    let s := advance t pre
    decide (¬ (3 < port_ ∨ ¬ (port s port_).link)))

/-- OP_TWIN_SET_CONFIG. -/
def opTwinSetConfig (r : Req) (s0 : State) : Bool :=
  let p := r.payload
  let s := seen 0x2401 r s0
  reaches { code := 0x2401, states := stI } r s0 && (
    let c := u8 p 0
    let on := c.testBit 0
    passes [lenIs p 28, rsvBits p 0 2, outOf (u8 p 1) 1 16 1, outOf (u16 p 2) 1 1000 2, outOf (u32 p 4) 1 20 4,
         outOf (u32 p 8) 3200 64000 8, outOf (u32 p 12) 80 16000 12,
         outOfI (i32 p 16) (rnd ((5 : Rat) / 1000 * 2 ^ 27)) (rnd ((1 : Rat) / 2 * 2 ^ 27)) 16,
         outOf (u32 p 20) (rnd ((1 : Rat) / 3600 * 2 ^ 32)).toNat (rnd ((10 : Rat) / 360 * 2 ^ 32)).toNat 20, rsv p 24 4,
         (decide (u32 p 8 < 1600 * u32 p 4 + 1600), .range, 8),
         (on && ((lane s 14).role != 5 || (lane s 15).role != 5), .badParam, 0)])

/-- OP_TWIN_RELEASE. -/
def opTwinRelease (r : Req) (s0 : State) : Bool :=
  let p := r.payload
  let s := seen 0x2402 r s0
  reaches { code := 0x2402, states := stIARTS } r s0 &&
    passes [(!(s.twin.enable && s.twin.holder), .badState, 0), lenIs p 4, rsv p 0 4]

/-- OP_TWIN_GET_STATUS. -/
def opTwinGetStatus (r : Req) (s0 : State) : Bool :=
  let p := r.payload
  reaches { code := 0x2403, states := stIARTS } r s0 &&
    passes [lenIs p 4, rsv p 0 4]

/-- CAP_HEARTBEAT_PULSE. -/
def capHeartbeatPulse (t : Nat) (pre : State) : Bool :=
  !pre.pwr.inReset && (
    let s := advance t pre
    decide ((s.twin.enable && (s.twin.holder || s.twin.releasing) && tbRuns s && capState s && s.sys.halted % 16 == 0 && pulsePoint s)))

/-- HEARTBEAT_STEP_WATCH. -/
def heartbeatStepWatch (t : Nat) (pre : State) : Bool :=
  !pre.pwr.inReset && (
    let s := advance t pre
    decide ((s.twin.enable && (s.twin.holder || s.twin.releasing) && decide (s.sys.doneAt + 2 * s.sys.tStep < s.now))))

/-- CAP_IN_PULSE. -/
def capInPulse (t : Nat) (width : Nat) (pre : State) : Bool :=
  !pre.pwr.inReset && (
    let s := advance t pre
    decide (¬ (¬ s.twin.enable ∨ width < 4000)))

/-- LEASE_EXPIRY. -/
def leaseExpiry (t : Nat) (pre : State) : Bool :=
  !pre.pwr.inReset && (
    let s := advance t pre
    (match s.twin.leaseFrom with
     | some x =>
        decide ((standby s && !s.twin.leaseOut && due s (x + usT s.twin.lease)))
     | _ => false))

/-- CAP_TAKE. -/
def capTake (t : Nat) (pre : State) : Bool :=
  !pre.pwr.inReset && (
    let s := advance t pre
    (match s.twin.leaseFrom with
     | some x =>
        decide ((standby s && s.twin.leaseOut && tbRuns s && decide (x + usT s.twin.lease + 320 ≤ s.now) && pulsePoint s))
     | _ => false))

/-- INITIAL_CAP_TAKE. -/
def initialCapTake (t : Nat) (pre : State) : Bool :=
  !pre.pwr.inReset && (
    let s := advance t pre
    let quiet := s.twin.quietFrom + usT s.twin.lease + 320 + (if s.twin.idB then msT 1 else 0)
    decide ((standby s && s.twin.leaseFrom.isNone && capState s && tbRuns s && decide (quiet ≤ s.now) && pulsePoint s)))

/-- RELEASE_TAKE_WAIT_END. -/
def releaseTakeWaitEnd (t : Nat) (pre : State) : Bool :=
  !pre.pwr.inReset && (
    let s := advance t pre
    (match s.twin.lastIn with
     | some x =>
        decide ((standby s && s.twin.relTold.isSome && tbRuns s && decide (x + 1120 ≤ s.now) && pulsePoint s))
     | _ => false))

/-- SHADOW_COMPARE. -/
def shadowCompare (t : Nat) (pre : State) : Bool :=
  !pre.pwr.inReset && (
    let s := advance t pre
    (match s.twin.mirror with
     | some m =>
        decide ((standby s && !s.twin.compared && s.sys.state == .run && m.state == 3 && twinTime s s.gfm.run.out.tick == m.tick && m.run.out.tick == m.tick))
     | _ => false))

/-- HEALTH_REPORT_TX. -/
def healthReportTx (t : Nat) (pre : State) : Bool :=
  !pre.pwr.inReset && (
    let s := advance t pre
    decide (¬ (¬ due s s.twin.nextReport)))

/-- PLAN_REFRESH_DUE. -/
def planRefreshDue (t : Nat) (id : Nat) (pre : State) : Bool :=
  !pre.pwr.inReset && (
    let s := advance t pre
    (match armOf s id with
     | some _ =>
        let c := cell s id
        decide (¬ (¬ (s.twin.enable && s.twin.holder && s.sys.state == .run && c.plan.any fun e => decide (s.now < e.1))))
     | _ => false))

/-- OP_DIAG_GET_SLACK. -/
def opDiagGetSlack (r : Req) (s0 : State) : Bool :=
  let p := r.payload
  reaches { code := 0x3001, states := stIARTS } r s0 &&
    passes [lenIs p 4, rsvBits p 0 1, rsv p 1 3]

/-- OP_DIAG_GET_CNT. -/
def opDiagGetCnt (r : Req) (s0 : State) : Bool :=
  let p := r.payload
  reaches { code := 0x3002, states := stIARTS } r s0 &&
    passes [lenIs p 4, rsv p 0 4]

/-- OP_DIAG_CLEAR_CNT. -/
def opDiagClearCnt (r : Req) (s0 : State) : Bool :=
  let p := r.payload
  reaches { code := 0x3003, states := stIARTS } r s0 && (
    let op := u16 p 0
    let obj := u16 p 2
    let n := (Tbl.find op counterOps).getD 0
    passes [lenIs p 8, rsv p 4 4, (op != 0xFFFF && n == 0, .badParam, 0),
         (op != 0xFFFF && obj != 0xFFFF && decide (n ≤ obj), .badParam, 2)])

/-- OP_DIAG_SELFTEST. -/
def opDiagSelftest (r : Req) (s0 : State) : Bool :=
  let p := r.payload
  reaches { code := 0x3004, states := stIARTS } r s0 &&
    passes [lenIs p 4, rsv p 0 4]

/-- SELFTEST_CHECK_RUN. -/
def selftestCheckRun (t : Nat) (check : Nat) (_pass : Bool) (pre : State) : Bool :=
  !pre.pwr.inReset && (
    let s := advance t pre
    let engine := decide (16 ≤ check) && decide (check < 30)
    decide (¬ (s.sys.state = .boot ∨ ¬ (engine ∨ check ≤ 3 ∨ check = 5))))

/-- BALL_READBACK. -/
def ballReadback (t : Nat) (ball : Nat) (_level : Bool) (pre : State) : Bool :=
  !pre.pwr.inReset && (
    let s := advance t pre
    (match (if s.sys.state = .boot then none else drivenLevel s ball) with
     | some _ =>
        true
     | _ => false))

/-- OP_TEST_PERMIT_CHALLENGE. -/
def opTestPermitChallenge (r : Req) (s0 : State) : Bool :=
  let p := r.payload
  reaches { code := 0x3101, states := stIAS, v2 := false } r s0 &&
    passes [lenIs p 4, (u8 p 0 != 0, .badParam, 0), rsv p 1 1, rsv p 2 2]

/-- OP_TEST_PERMIT_GRANT. -/
def opTestPermitGrant (r : Req) (s0 : State) : Bool :=
  let p := r.payload
  reaches { code := 0x3101, states := stIAS, v2 := false } r s0 &&
    passes [lenIs p 132, (u8 p 0 != 1, .badParam, 0), rsvBits p 1 3, outOf (u16 p 2) 1 3600 2]

/-- OP_TEST_PERMIT_REVOKE. -/
def opTestPermitRevoke (r : Req) (s0 : State) : Bool :=
  let p := r.payload
  reaches { code := 0x3101, states := stIAS, v2 := false } r s0 &&
    passes [lenIs p 4, (u8 p 0 != 2, .badParam, 0), rsv p 1 1, rsv p 2 2]

/-- TEST_PERMIT_EXPIRY. -/
def testPermitExpiry (t : Nat) (pre : State) : Bool :=
  !pre.pwr.inReset && (
    let s := advance t pre
    decide ((s.test.scope ≠ 0 ∧ s.test.expires ≤ s.now)))

/-- OP_TEST_INJECT. -/
def opTestInject (r : Req) (s0 : State) : Bool :=
  let p := r.payload
  let s := seen 0x3102 r s0
  reaches { code := 0x3102, states := stARS, v2 := false } r s0 && (
    let type := u8 p 1
    let target := u16 p 2
    let kind := u8 p 4
    let targets := if type = 1 then 15 else if type = 2 then 3 else 255
    let usesDir := !(kind == 1 && type != 3)
    passes [lenIs p 24, (s.sys.state != .service && !(decide (1 ≤ type) && s.test.scope.testBit (type - 1)), .refused, 0),
         (injBusy s p, .busy, 0), rsvBits p 5 2, rsv p 11 1, (injTargetBad s type target, .badParam, 2),
         (usesDir && u8 p 5 == 0, .badParam, 5), outOf (u8 p 0) 0 7 0, outOf type 1 3 1, outOf target 0 targets 2,
         outOf kind 1 5 4, (filterBad type (u16 p 6), .range, 6), outOf (u16 p 8) 1 0xFFFF 8, outOf (u8 p 10) (if kind = 4 then 1 else 0) (if kind = 4 then 8 else 0) 10,
         outOf (u32 p 12) 1 (if kind = 1 then 10000000 else 600000000) 12,
         outOf (u32 p 20) (if kind = 5 then 1 else 0) (if kind = 5 then 10000 else 0) 20])

/-- OP_TEST_STOP. -/
def opTestStop (r : Req) (s0 : State) : Bool :=
  let p := r.payload
  reaches { code := 0x3103, states := stIARTS, v2 := false } r s0 &&
    passes [lenIs p 4, rsv p 1 3]

/-- OP_TEST_STATUS. -/
def opTestStatus (r : Req) (s0 : State) : Bool :=
  let p := r.payload
  reaches { code := 0x3104, states := stIARTS, v2 := false } r s0 &&
    passes [lenIs p 4, rsv p 0 4]

/-- TEST_INJECTION_END. -/
def testInjectionEnd (t : Nat) (slot : Nat) (pre : State) : Bool :=
  !pre.pwr.inReset && (
    let s := advance t pre
    (match Tbl.find slot s.test.slot with
     | some i =>
        decide ((due s i.until_))
     | _ => false))

/-- The opcode that a request row carries, with the states of its row in Tables 17.1 to 17.5 (where a state stands under a
condition on the object, it is listed), whether it is chained (17_opcodes.md R388), and whether it is served to an originator
that negotiated 2.x (R389). -/
def requestOf : Instr → Option (Op × Req)
  | .opSysHello r => some ({ code := 0x0001, states := stBIARTS }, r)
  | .opSysResync r => some ({ code := 0x0002, states := stBIARTS }, r)
  | .opSysReplay r => some ({ code := 0x0003, states := stBIARTS }, r)
  | .opSysGetInfo r => some ({ code := 0x0005, states := stBIARTS }, r)
  | .opSysSetStep r => some ({ code := 0x0006, states := stIA }, r)
  | .opSysArm r => some ({ code := 0x0007, states := stI }, r)
  | .opSysRun r => some ({ code := 0x0008, states := stA }, r)
  | .opSysStop r => some ({ code := 0x0009, states := stR }, r)
  | .opSysDisarm r => some ({ code := 0x000A, states := stA }, r)
  | .opSysService r => some ({ code := 0x000B, states := stI }, r)
  | .opSysIdle r => some ({ code := 0x000C, states := stS }, r)
  | .opSysSetSag r => some ({ code := 0x000D, states := stIAS }, r)
  | .opSecGetId r => some ({ code := 0x0101, states := stBIARTS }, r)
  | .opSecQuote r => some ({ code := 0x0102, states := stBIARTS }, r)
  | .opSecImageLoad r => some ({ code := 0x0103, states := stBIARTS, chained := true }, r)
  | .opSecImageVerify r => some ({ code := 0x0104, states := stBIARTS }, r)
  | .opSecSlotSelectTryOnce r => some ({ code := 0x0105, states := stBIARTS }, r)
  | .opSecSlotSelectPermanent r => some ({ code := 0x0105, states := stBIARTS }, r)
  | .opSecReboot r => some ({ code := 0x0106, states := stBIS }, r)
  | .opSecOwnerFuse r => some ({ code := 0x0107, states := stBIS }, r)
  | .opSecDebugChallenge r => some ({ code := 0x0108, states := stBIS }, r)
  | .opSecDebugLock r => some ({ code := 0x0108, states := stBIS }, r)
  | .opSecDebugUnlock r => some ({ code := 0x0109, states := stBIS }, r)
  | .opSecCfgSave r => some ({ code := 0x010A, states := stIAS }, r)
  | .opSecCfgLoad r => some ({ code := 0x010B, states := stI }, r)
  | .opSecJournalRead r => some ({ code := 0x010C, states := stBIARTS }, r)
  | .opTimeSetDomain r => some ({ code := 0x0201, states := stIARTS }, r)
  | .opTimeGetDomain r => some ({ code := 0x0202, states := stIARTS }, r)
  | .opTimeGet r => some ({ code := 0x0203, states := stIARTS }, r)
  | .opTimeSetActive r => some ({ code := 0x0204, states := stIARTS }, r)
  | .opTimeStep r => some ({ code := 0x0205, states := stIATS }, r)
  | .opTimeSetPps r => some ({ code := 0x0206, states := stIARTS }, r)
  | .opClkSelect r => some ({ code := 0x0301, states := stIAS }, r)
  | .opClkSetPll r => some ({ code := 0x0302, states := stIS }, r)
  | .opClkSetRefout r => some ({ code := 0x0303, states := stIAS }, r)
  | .opClkGate r => some ({ code := 0x0304, states := stIAS }, r)
  | .opClkGetStatus r => some ({ code := 0x0305, states := stIARTS }, r)
  | .opGfmSetParam r => some ({ code := 0x1001, states := stIARTS }, r)
  | .opGfmCommit r => some ({ code := 0x1002, states := stIARTS }, r)
  | .opGfmDiscard r => some ({ code := 0x1003, states := stIARTS }, r)
  | .opGfmGetParam r => some ({ code := 0x1004, states := stIARTS }, r)
  | .opGfmGetState r => some ({ code := 0x1005, states := stIARTS }, r)
  | .opGfmMapChannel r => some ({ code := 0x1006, states := stIARTS }, r)
  | .opGfmSetSec r => some ({ code := 0x1007, states := stIARTS }, r)
  | .opGridSetParam r => some ({ code := 0x1101, states := stIARTS }, r)
  | .opGridCommit r => some ({ code := 0x1102, states := stIARTS }, r)
  | .opGridDiscard r => some ({ code := 0x1103, states := stIARTS }, r)
  | .opGridGetParam r => some ({ code := 0x1104, states := stIARTS }, r)
  | .opGridSetEnv r => some ({ code := 0x1105, states := stIA }, r)
  | .opGridClRelease r => some ({ code := 0x1106, states := stR }, r)
  | .opGridMapSync r => some ({ code := 0x1107, states := stIA }, r)
  | .opGridSyncStart r => some ({ code := 0x1108, states := stR }, r)
  | .opGridSyncStop r => some ({ code := 0x1108, states := stR }, r)
  | .opGridIslClear r => some ({ code := 0x1109, states := stIARTS }, r)
  | .opGridSetMode r => some ({ code := 0x110A, states := stR }, r)
  | .opGridBsGroup r => some ({ code := 0x110B, states := stIA, v2 := false }, r)
  | .opGridBsLoad r => some ({ code := 0x110C, states := stIA, v2 := false }, r)
  | .opGridBsContinueProceed r => some ({ code := 0x110D, states := stR, v2 := false }, r)
  | .opGridBsContinueRetry r => some ({ code := 0x110D, states := stR, v2 := false }, r)
  | .opGridBsContinueSkip r => some ({ code := 0x110D, states := stR, v2 := false }, r)
  | .opGridBsAbort r => some ({ code := 0x110E, states := stR, v2 := false }, r)
  | .opGridGetState r => some ({ code := 0x110F, states := stIARTS }, r)
  | .opBrimSetChannel r => some ({ code := 0x1201, states := stIARTS }, r)
  | .opBrimSetArm r => some ({ code := 0x1202, states := stIA }, r)
  | .opBrimGetStatus r => some ({ code := 0x1203, states := stIARTS }, r)
  | .opAngleSetTable r => some ({ code := 0x1301, states := stIARTS, v2 := false }, r)
  | .opAngleWrite r => some ({ code := 0x1302, states := stIARTS, v2 := false }, r)
  | .opAngleRead r => some ({ code := 0x1303, states := stIARTS, v2 := false }, r)
  | .opAngleSwap r => some ({ code := 0x1304, states := stIARTS, v2 := false }, r)
  | .opAngleBind r => some ({ code := 0x1305, states := stIARTS, v2 := false }, r)
  | .opAngleBindRemove r => some ({ code := 0x1305, states := stIARTS, v2 := false }, r)
  | .opAngleInjSet r => some ({ code := 0x1306, states := stIAR, v2 := false }, r)
  | .opAngleInjStart r => some ({ code := 0x1307, states := stR, v2 := false }, r)
  | .opAngleInjStop r => some ({ code := 0x1308, states := stR, v2 := false }, r)
  | .opAngleCorrSet r => some ({ code := 0x1309, states := stIARTS, v2 := false }, r)
  | .opAngleScanRead r => some ({ code := 0x130A, states := stIARTS, v2 := false }, r)
  | .opLegSetConfig r => some ({ code := 0x1401, states := stIART }, r)
  | .opLegSync r => some ({ code := 0x1402, states := stIARTS }, r)
  | .opLegStage r => some ({ code := 0x1403, states := stIARTS }, r)
  | .opLegCommit r => some ({ code := 0x1404, states := stIARTS }, r)
  | .opLegSetCmp r => some ({ code := 0x1405, states := stIARTS }, r)
  | .opLegDisable r => some ({ code := 0x1406, states := stIARTS }, r)
  | .opLegEnable r => some ({ code := 0x1407, states := stR }, r)
  | .opLegGetStatus r => some ({ code := 0x1408, states := stIARTS }, r)
  | .opGntSetInputs r => some ({ code := 0x1501, states := stIA }, r)
  | .opGntSetBlank r => some ({ code := 0x1502, states := stIA }, r)
  | .opGntGetRecords r => some ({ code := 0x1503, states := stIARTS }, r)
  | .opGntUnpin r => some ({ code := 0x1504, states := stIARTS }, r)
  | .opGntLoadTable r => some ({ code := 0x1505, states := stIAT }, r)
  | .opGntLoadTableFactory r => some ({ code := 0x1505, states := stIAT }, r)
  | .opGntConfirm r => some ({ code := 0x1506, states := stIAT }, r)
  | .opGntGetTable r => some ({ code := 0x1507, states := stIARTS }, r)
  | .opGntSetChop r => some ({ code := 0x1508, states := stIA }, r)
  | .opGntChopCtrlRelease r => some ({ code := 0x1509, states := stIARTS }, r)
  | .opGntChopCtrlEnable r => some ({ code := 0x1509, states := stIARTS }, r)
  | .opGntClear r => some ({ code := 0x150A, states := stT }, r)
  | .opGntRaise r => some ({ code := 0x150B, states := stIARTS }, r)
  | .opGntGetInput r => some ({ code := 0x150C, states := stIARTS }, r)
  | .opAcqSetConv r => some ({ code := 0x1601, states := stIARTS }, r)
  | .opAcqSetPair r => some ({ code := 0x1602, states := stIAS }, r)
  | .opAcqCalibrate r => some ({ code := 0x1603, states := stIS }, r)
  | .opAcqGetCal r => some ({ code := 0x1604, states := stIARTS }, r)
  | .opAcqSetCal r => some ({ code := 0x1605, states := stIS }, r)
  | .opAcqSaveCal r => some ({ code := 0x1606, states := stIAS }, r)
  | .opAcqGetStatus r => some ({ code := 0x1607, states := stIARTS }, r)
  | .opFiltSetChain r => some ({ code := 0x1701, states := stIARTS }, r)
  | .opFiltLoadCoef r => some ({ code := 0x1702, states := stIARTS }, r)
  | .opFiltApply r => some ({ code := 0x1703, states := stIARTS }, r)
  | .opFiltGetStatus r => some ({ code := 0x1704, states := stIARTS }, r)
  | .opPondSetCapture r => some ({ code := 0x1801, states := stIARTS }, r)
  | .opPondArm r => some ({ code := 0x1802, states := stIARTS }, r)
  | .opPondDisarm r => some ({ code := 0x1803, states := stIARTS }, r)
  | .opPondSetTrig r => some ({ code := 0x1804, states := stIARTS }, r)
  | .opPondTrigger r => some ({ code := 0x1805, states := stIARTS }, r)
  | .opPondRead r => some ({ code := 0x1806, states := stIARTS }, r)
  | .opPondFree r => some ({ code := 0x1807, states := stIARTS }, r)
  | .opPondList r => some ({ code := 0x1808, states := stIARTS }, r)
  | .opPondGetStatus r => some ({ code := 0x1809, states := stIARTS }, r)
  | .opLaneSetQuad r => some ({ code := 0x2001, states := stIAS }, r)
  | .opLaneSetConfig r => some ({ code := 0x2002, states := stIAS }, r)
  | .opLaneTrain r => some ({ code := 0x2003, states := stIARTS }, r)
  | .opLaneSlip r => some ({ code := 0x2004, states := stS }, r)
  | .opLanePowerSleep r => some ({ code := 0x2005, states := stIARTS }, r)
  | .opLanePowerWake r => some ({ code := 0x2005, states := stIARTS }, r)
  | .opLanePrbs r => some ({ code := 0x2006, states := stS }, r)
  | .opLaneGetStatus r => some ({ code := 0x2007, states := stIARTS }, r)
  | .opStrandSetConfig r => some ({ code := 0x2101, states := stIA }, r)
  | .opStrandNodeClear r => some ({ code := 0x2102, states := stIART }, r)
  | .opStrandGetStatus r => some ({ code := 0x2103, states := stIARTS }, r)
  | .opStrandGetCell r => some ({ code := 0x2104, states := stIARTS }, r)
  | .opPartSet r => some ({ code := 0x2201, states := stIARTS }, r)
  | .opPartRemove r => some ({ code := 0x2202, states := stIARTS }, r)
  | .opPartGet r => some ({ code := 0x2203, states := stIARTS }, r)
  | .opPartList r => some ({ code := 0x2204, states := stIARTS }, r)
  | .opPartSessionOpen r => some ({ code := 0x2205, states := stIARTS }, r)
  | .opPartSessionClose r => some ({ code := 0x2205, states := stIARTS }, r)
  | .opPartGroup r => some ({ code := 0x2206, states := stIARTS, chained := true, v2 := false }, r)
  | .opPartPrepare r => some ({ code := 0x2207, states := stIARTS, chained := true, v2 := false }, r)
  | .opPartCommit r => some ({ code := 0x2208, states := stIARTS, v2 := false }, r)
  | .opPartCancel r => some ({ code := 0x2209, states := stIARTS, v2 := false }, r)
  | .opPartSessStatus r => some ({ code := 0x220A, states := stIARTS }, r)
  | .opNetSetPort r => some ({ code := 0x2301, states := stIAS }, r)
  | .opNetSend r => some ({ code := 0x2302, states := stIARTS, chained := true }, r)
  | .opNetTsqRead r => some ({ code := 0x2303, states := stIARTS }, r)
  | .opNetGoosePub r => some ({ code := 0x2304, states := stIAS }, r)
  | .opNetGooseValue r => some ({ code := 0x2305, states := stIARTS }, r)
  | .opNetGooseSub r => some ({ code := 0x2306, states := stIAS }, r)
  | .opNetSvPub r => some ({ code := 0x2307, states := stIAS, v2 := false }, r)
  | .opNetGetPort r => some ({ code := 0x2308, states := stIARTS }, r)
  | .opTwinSetConfig r => some ({ code := 0x2401, states := stI, v2 := false }, r)
  | .opTwinRelease r => some ({ code := 0x2402, states := stIARTS, v2 := false }, r)
  | .opTwinGetStatus r => some ({ code := 0x2403, states := stIARTS, v2 := false }, r)
  | .opDiagGetSlack r => some ({ code := 0x3001, states := stIARTS }, r)
  | .opDiagGetCnt r => some ({ code := 0x3002, states := stIARTS }, r)
  | .opDiagClearCnt r => some ({ code := 0x3003, states := stIARTS }, r)
  | .opDiagSelftest r => some ({ code := 0x3004, states := stIARTS }, r)
  | .opTestPermitChallenge r => some ({ code := 0x3101, states := stIAS, v2 := false }, r)
  | .opTestPermitGrant r => some ({ code := 0x3101, states := stIAS, v2 := false }, r)
  | .opTestPermitRevoke r => some ({ code := 0x3101, states := stIAS, v2 := false }, r)
  | .opTestInject r => some ({ code := 0x3102, states := stARS, v2 := false }, r)
  | .opTestStop r => some ({ code := 0x3103, states := stIARTS, v2 := false }, r)
  | .opTestStatus r => some ({ code := 0x3104, states := stIARTS, v2 := false }, r)
  | _ => none

/-- A request packet comes to its chapter in its turn: the device is not in reset, no packet goes before it, and no abort and no
other chain stands in its way (16_command_transport.md R368, R369, R378). -/
def inTurn (op : Op) (r : Req) (s : State) : Bool :=
  let o := orig s r.org
  !s.pwr.inReset && turn op.code r (entered op.code r s) &&
    (outside op || (o.aborting != some r.tag && o.deadChain != some (op.code, r.tag) && !otherChain o op r))

/-- The opcodes that are not served to an originator that negotiated 2.x (R389). -/
def notIn2 (c : Nat) : Bool :=
  [0x13, 0x24, 0x31].contains (c / 256) ||
    [0x110B, 0x110C, 0x110D, 0x110E, 0x2206, 0x2207, 0x2208, 0x2209, 0x2307].contains c

/-- A request packet that passes checks 1 to 5 of Table 16.3 (16_command_transport.md R366). -/
def sound (b : Bytes) : Bool :=
  decide (16 ≤ b.length) && crc16 (b.take 14) == u16 b 14 && decide (u16 b 10 ≤ 4080) && b.length == 20 + u16 b 10 &&
    crc32c (b.take (b.length - 4)) == u32 b (b.length - 4) && (u8 b 0 / 16 == 2 || u8 b 0 / 16 == 3) &&
    bits (u8 b 1) 7 5 == 0 && bits (u16 b 12) 15 12 == 0 && !(u8 b 1).testBit 1 && !(u8 b 1).testBit 4

/-- The direction and the level of an arm make a level change an insertion (04_brim_engine.md R114). -/
def inserts (s : State) (a : Nat) (up : Bool) : Bool := if up then decide (0 ≤ armLevel s a) else decide (armLevel s a ≤ 0)

/-- The cells that a level change may move (R114, R115). -/
def mayMove (s : State) (a : Nat) (up : Bool) (i : Rat) (id : Nat) : Prop :=
  id ∈ (arm s a).order.map Prod.fst ∧ usable s id = true ∧
    (inserts s a up = true → (cmdOf s id = 2 ∨ cmdOf s id = 3) ∧
      excluded s (arm s a) (if up then decide (0 < i) else decide (i < 0)) id = false) ∧
    (inserts s a up = false → cmdOf s id = if up then 4 else 1)

/-- The requests that only read. -/
def reads : Instr → Bool
  | .opSysResync _ | .opSysGetInfo _ | .opSecGetId _ | .opSecJournalRead _ | .opTimeGetDomain _ | .opTimeGet _ | .opClkGetStatus _
  | .opGfmGetParam _ | .opGfmGetState _ | .opGridGetParam _ | .opGridGetState _ | .opBrimGetStatus _ | .opAngleRead _
  | .opAngleScanRead _ | .opLegGetStatus _ | .opGntGetRecords _ | .opGntGetTable _ | .opGntGetInput _ | .opAcqGetCal _
  | .opAcqGetStatus _ | .opFiltGetStatus _ | .opPondList _ | .opPondGetStatus _ | .opLaneGetStatus _ | .opStrandGetStatus _
  | .opStrandGetCell _ | .opPartGet _ | .opPartList _ | .opPartSessStatus _ | .opNetGetPort _ | .opTwinGetStatus _
  | .opDiagGetCnt _ | .opDiagSelftest _ | .opTestStatus _ => true
  | _ => false

/-- The state that a reset finds: that of the command, or, for a reboot, the one in which its reply has been queued
(20_security.md R443; DEDUCED, notes/assumptions/110.md). -/
def resetOf : Instr → State → Option State
  | .powerOn, s => some s
  | .porNReset, s => some s
  | .sagReset k, s => if k < 4 then some s else none
  | .opSecReboot r, s =>
    if opSecReboot r s then
      some (finish s { answered 0x0106 r .accepted 0 [] { seen 0x0106 r s with pwr := { s.pwr with inReset := true } } with pwr := s.pwr })
    else none
  | _, _ => none

/-- The cause that a reset leaves where none stood before (19_supplies_reset.md Table 19.4). -/
def resetCause : Instr → Nat
  | .powerOn => 1
  | .sagReset _ => 2
  | .porNReset => 3
  | _ => 4

/-- A leg keeps a gate over a reset: bit 0 GL, bit 1 GH (06_legs_pwm.md R164, 19_supplies_reset.md R431). -/
def keepsGate (x : Leg) (bit : Nat) : Bool :=
  match x.hold with
  | some (h, _) => h.testBit bit
  | none => x.cfg.mitLate && decide (0 < x.cfg.mitDelay) && (bits x.cfg.mitten 3 2 == 0 || (bits x.cfg.mitten 3 2).testBit bit)

end Sys2Proof.Can

open Sys2Proof Sys2Proof.Machine Sys2Proof.Safety

/-- A step takes the command at the front of the queue and is exec of that command on the state with the queue's rest; on an
empty queue the block idles and the state stays (the model's choice, log entry 1). -/
def Obligations.StepRunsTheFront : Prop :=
  (∀ (c : Instr) (rest : List Instr) (s : State), s.pending = c :: rest → step s = exec c { s with pending := rest }) ∧
  (∀ s : State, s.pending = [] → step s = .next s)

/-- Right after reset the device is in BOOT with no grid mode and FAULT_OUT_N asserted; T_step is 32,000 ticks and T_pub
half of it; the timebase is OFF on a source list that holds XO alone with AUTO set and REVERT clear; every originator has no
reference and numbers its outbound packets from 1; both banks of every angle table hold zero in every entry; no command
waits. -/
def Obligations.ResetHolds : Prop :=
  State.reset.sys.state = .boot ∧ State.reset.sys.mode = .none ∧ State.reset.gnt.faultOut = true ∧
  State.reset.sys.tStep = 32000 ∧ State.reset.sys.tPub = 16000 ∧
  State.reset.clk.tb = .off ∧ State.reset.clk.list.filter (· ≠ 0) = [1] ∧ State.reset.clk.auto = true ∧ State.reset.clk.revert = false ∧
  (∀ org, (orig State.reset org).expected = none ∧ (orig State.reset org).nextOut = 1) ∧
  (∀ n k, (angTab State.reset n).act.getD k 0 = 0 ∧ (angTab State.reset n).sh.getD k 0 = 0) ∧
  State.reset.pending = []

/-- Right after reset no leg has both gates asserted, no grid mode is in force, FAULT_OUT_N is asserted, and no ill-formed
command waits. -/
def Obligations.InvAtReset : Prop :=
  Safety.Inv State.reset

/-- Every command answers a next state, in every state of the block, and leaves the queue of waiting commands as it was; a
step therefore always answers a next state, whose queue has lost its front and nothing else. -/
def Obligations.EveryCommandAnswers : Prop :=
  (∀ (c : Instr) (s : State), ∃ t, exec c s = .next t ∧ t.pending = s.pending) ∧
  (∀ s : State, ∃ t, step s = .next t ∧ t.pending = s.pending.tail)

/-- Whatever command a step runs, from every state that meets the invariant it comes to a state that meets it: GH and GL of
a leg are never asserted together, a grid mode is in force in RUN only, FAULT_OUT_N is deasserted only in ARMED and RUN, and
the commands that wait are well-formed. -/
def Obligations.StepKeepsInv : Prop :=
  ∀ s t : State, Safety.Inv s → step s = .next t → Safety.Inv t

/-- FAULT_OUT_N is asserted right after reset; and after every command, whatever state it found, FAULT_OUT_N is deasserted
exactly where the device is in ARMED or RUN: so it is asserted in BOOT, IDLE, SERVICE and TRIPPED, a reaction that leads to
TRIPPED asserts it, and an OP_GNT_CLEAR that enters ARMED deasserts it. -/
def Obligations.FaultOutFollowsTheState : Prop :=
  State.reset.gnt.faultOut = true ∧
  ∀ (c : Instr) (s t : State), exec c s = .next t → (t.gnt.faultOut = false ↔ t.sys.state = .armed ∨ t.sys.state = .run)

/-- Each of OP_SYS_HELLO, OP_SYS_RESYNC, OP_SYS_REPLAY, QSPI_WRITE_WINDOW, HW_INT_CAUSE_W1C, HW_SAG_WARN_SEEN_CLEAR,
CLEAR_ABORT, FLUSH_TX, KICK completes: under the conditions that its rules set on the state and the operands, exec answers
the next state with its own effect, a request with its reply besides, and changes nothing else before the end of the
command: HELLO sets EXPECTED, mask and version, the version of an ETHERNET entry with them, and ends abort and chain, RESYNC
changes nothing but its reply, and that it leaves an open chain and an abort standing is the model's reading (log entry 22),
REPLAY queues the held packets again, and window writes act on their own registers alone. What of it rests on a log entry
marked DEDUCED, PRESUMED or DESIGN CHOICE is the model's choice and no rule of the spec: the instant of an event, the packet
layer and the end of every command on log entries 2, 6, 7, 8, 9, 13, 20, 21, 22, 23, 41, 46, 58, 63, 68, 80, 89, 91, 102,
115, 118, 124, 151, 155, 172, 173 and 180. -/
def Obligations.RecoveryAndWindowComplete : Prop :=
  (∀ (r : Req) (s0 : State), Can.opSysHello r s0 = true →
    let p := r.payload
    let s := entered 1 r s0
    let o := orig s r.org
    let ver := if u8 p 0 / 16 = 3 then 0x32 else u8 p 0
    let next := (r.seq + 1) % 2 ^ 32
    let s1 := setOrig r.org { o with expected := some next, gapSaid := false, aborting := none, chain := none, deadChain := none,
                                     evMask := u64 p 4, ver := ver } s
    exec (.opSysHello r) s0 = .next (finish s0 (answered 1 r .ok 0
      (le 1 ver ++ le 3 0 ++ le 4 0x77300B01 ++ le 4 next ++ le 4 ((o.nextOut + 1) % 2 ^ 32))
      (if r.org ≠ 0 ∧ (partner s1 r.org).path = 1 then setPartner r.org { partner s1 r.org with ver := ver } s1 else s1)))) ∧
  (∀ (r : Req) (s0 : State), Can.opSysResync r s0 = true →
    let s := entered 2 r s0
    let o := orig s r.org
    let h := heldFor s r.org
    let fl := (s.pkt.inFlight.filter fun f => f.org == r.org && !f.is r.org r.seq 2).length
    exec (.opSysResync r) s0 = .next (finish s0 (answer (owedTo r 2) .ok 0
      (le 4 (o.expected.getD 0) ++ le 4 ((o.nextOut + 2 ^ 32 - 1) % 2 ^ 32) ++ le 4 ((h.head?.map OutPkt.seq).getD 0) ++
        le 2 h.length ++ le 2 fl ++
        le 1 (b2n o.expected.isNone + 2 * b2n o.aborting.isSome + 4 * b2n o.chain.isSome) ++ le 1 o.ver) s))) ∧
  (∀ (r : Req) (s0 : State), Can.opSysReplay r s0 = true →
    let p := r.payload
    let s := seen 3 r s0
    let h := heldFor s r.org
    let from_ := u32 p 0
    let oldest := (h.head?.map OutPkt.seq).getD 0
    let first := if h.isEmpty then from_ else seqMax from_ oldest
    let ps := (h.filter fun k => decide (0 ≤ sdiff k.seq first)).take (u16 p 4)
    let w := owedTo r 3
    let s1 := answer { w with ackReq := true } .ok 0 (le 4 first ++ le 2 ps.length ++ le 2 0) s
    exec (.opSysReplay r) s0 = .next (finish s0 (deferred 3 r (ps.foldl (fun a k => replay r.org k a) s1)))) ∧
  (∀ (t : Nat) (addr : Nat) (data : List Byte) (pre : State), pre.pwr.inReset = false →
    let s := advance t pre
    exec (.qspiWriteWindow t addr data) pre = .next (finish pre (
      if addr % 4 ≠ 0 then badTransaction s else writeBurst 64 addr data s))) ∧
  (∀ (t ones hwSet : Nat) (pre : State), pre.pwr.inReset = false →
    let s := advance t pre
    let set := hwSet % 1024
    let left := (bitsOf 32 (s.win.intCause ||| set)).filter fun i => !ones.testBit i || set.testBit i
    exec (.hwIntCauseW1c t ones hwSet) pre = .next (finish pre { s with win := { s.win with intCause := maskOf left } })) ∧
  (∀ (t ones starting : Nat) (pre : State), pre.pwr.inReset = false →
    let s := advance t pre
    let set := starting % 16
    let left := (bitsOf 32 (s.pwr.warnSeen ||| set)).filter fun i => !(bits ones 19 16).testBit i || set.testBit i
    exec (.hwSagWarnSeenClear t ones starting) pre = .next (finish pre { s with pwr := { s.pwr with warnSeen := maskOf left } })) ∧
  (∀ (t : Nat) (pre : State), pre.pwr.inReset = false →
    let s := advance t pre
    let o := { orig s 0 with aborting := none }
    exec (.clearAbort t) pre = .next (finish pre { s with pkt := { s.pkt with orig := s.pkt.orig.put 0 o } })) ∧
  (∀ (t : Nat) (pre : State), pre.pwr.inReset = false →
    let s := advance t pre
    let o := { orig s 0 with outq := [] }
    let s1 := { s with pkt := { s.pkt with orig := s.pkt.orig.put 0 o } }
    let s2 := admitWaiting 512 0 s1
    ((orig s 0).waitq = [] → exec (.flushTx t) pre = .next (finish pre s1)) ∧
    exec (.flushTx t) pre = .next (finish pre (
      if (orig s2 0).outq = [] then s2 else { s2 with win := { s2.win with intCause := s2.win.intCause ||| 1 } }))) ∧
  (∀ (t : Nat) (pre : State), pre.pwr.inReset = false →
    let s := advance t pre
    exec (.kick t) pre = .next (finish pre (
      if (orig s 0).outq = [] then s else { s with win := { s.win with intCause := s.win.intCause ||| 1 } })))

/-- Each of HW_TICK_LO_READ, QSPI_READ_STATUS, QSPI_PUSH_PACKET, QSPI_PULL_PACKET, QSPI_BAD_TRANSACTION,
CHAIN_CONTINUATION_TIMEOUT completes: under the conditions that its rules set on the state and the operands, exec answers
the next state with its own effect, a request with its reply besides, and changes nothing else before the end of the
command: reads bring their values to the port, a push enters check 1 or is dropped, a pull takes the head packet when wholly
clocked, and a chain of 1 s without continuation is discarded. What of it rests on a log entry marked DEDUCED, PRESUMED or
DESIGN CHOICE is the model's choice and no rule of the spec: the instant of an event, the packet layer and the end of every
command on log entries 2, 6, 7, 8, 9, 13, 20, 21, 22, 23, 41, 46, 58, 63, 68, 80, 89, 91, 102, 115, 118, 124, 151, 155, 172,
173 and 180; QSPI_READ_STATUS besides on 181. -/
def Obligations.QspiPortComplete : Prop :=
  (∀ (read : RegRead) (pre : State), pre.pwr.inReset = false →
    let s := advance read.tick pre
    exec (.hwTickLoRead read) pre = .next (finish pre (
      if read.addr % 4 ≠ 0 then badTransaction s
      else
        let r := readBurst read.regs read.addr s
        { r.2 with win := { r.2.win with hostOut := r.1 } }))) ∧
  (∀ (read : StatusRead) (pre : State), pre.pwr.inReset = false →
    let s := advance read.tick pre
    exec (.qspiReadStatus read) pre = .next (finish pre (
      { s with win := { s.win with hostOut := statusBytes read.bytes s, lastErr := s.win.lastErr && read.bytes == 0 } }))) ∧
  (∀ (t : Nat) (bytes : List Byte) (pre : State), pre.pwr.inReset = false →
    let s := advance t pre
    exec (.qspiPushPacket t bytes) pre = .next (finish pre (
      if ¬ s.win.ready ∨ 512 ≤ s.pkt.inFlight.length ∨ rxFree s < bytes.length then dropPush s
      else arrive 0 none bytes s))) ∧
  (∀ (t : Nat) (clocked : Nat) (pre : State), pre.pwr.inReset = false →
    let s := advance t pre
    let o := orig s 0
    exec (.qspiPullPacket t clocked) pre = .next (finish pre (
      match (if s.win.ready then o.outq else []) with
      | [] => { s with win := { s.win with hostOut := fit (4 + clocked) [] } }
      | k :: r =>
        let b := k.bytes
        let s1 := { s with win := { s.win with hostOut := fit (4 + clocked) (le 2 b.length ++ le 2 (min 0xFFFF r.length) ++ b) } }
        if b.length ≤ clocked then refill (setOrig 0 { o with outq := r } s1) else s1))) ∧
  (∀ (t : Nat) (pre : State), pre.pwr.inReset = false →
    let s := advance t pre
    exec (.qspiBadTransaction t) pre = .next (finish pre (
      badTransaction s))) ∧
  (∀ (t : Nat) (org : Nat) (pre : State), Can.chainContinuationTimeout t org pre = true →
    let s := advance t pre
    let o := orig s org
    ∀ c, o.chain = some c →
    exec (.chainContinuationTimeout t org) pre = .next (finish pre (
      setOrig org { o with chain := none, deadChain := some (c.opcode, c.tag) } s)))

/-- Each of OP_SYS_GET_INFO, OP_SYS_SET_STEP, OP_SYS_ARM, OP_SYS_RUN, OP_SYS_STOP, OP_SYS_DISARM, OP_SYS_SERVICE,
OP_SYS_IDLE, OP_GNT_CLEAR completes: under the conditions that its rules set on the state and the operands, exec answers the
next state with its own effect, a request with its reply besides, and changes nothing else before the end of the command:
each makes the transition of Table 1.5 that it names and is answered. What of it rests on a log entry marked DEDUCED,
PRESUMED or DESIGN CHOICE is the model's choice and no rule of the spec: the instant of an event, the packet layer and the
end of every command on log entries 2, 6, 7, 8, 9, 13, 20, 21, 22, 23, 41, 46, 58, 63, 68, 80, 89, 91, 102, 115, 118, 124,
151, 155, 172, 173 and 180; OP_SYS_SET_STEP besides on 18; OP_SYS_ARM, OP_SYS_RUN, OP_SYS_STOP, OP_SYS_DISARM besides on 17;
OP_GNT_CLEAR besides on 17 and 108. -/
def Obligations.StateOpcodesComplete : Prop :=
  (∀ (r : Req) (s0 : State), Can.opSysGetInfo r s0 = true →
    let s := seen 0x0005 r s0
    exec (.opSysGetInfo r) s0 = .next (finish s0 (answered 0x0005 r .ok 0 
                (le 4 hwId ++ le 1 s.sys.state.code ++ le 1 s.sys.mode.code ++ le 1 (twinRole s) ++
          le 1 (if s.sec.running = 0 then 0xFF else s.sec.running - 1) ++ le 4 (runningVer s) ++ le 8 (stamp s)) s))) ∧
  (∀ (r : Req) (s0 : State), Can.opSysSetStep r s0 = true →
    let p := r.payload
    let s := seen 0x0006 r s0
    let a := u32 p 0
    let b := newPub s a (u32 p 4)
    exec (.opSysSetStep r) s0 = .next (finish s0 (answered 0x0006 r .ok 0 (le 4 a ++ le 4 b) { s with sys := { s.sys with tStep := a, tPub := b, stepStart := none, late := [], stepDone := none, pubFor := none } }))) ∧
  (∀ (r : Req) (s0 : State), Can.opSysArm r s0 = true →
    exec (.opSysArm r) s0 = .next (finish s0 (answered 0x0007 r .ok 0 []
      (forwardOp 0x0007 r.payload (enterState .armed (seen 0x0007 r s0)))))) ∧
  (∀ (r : Req) (s0 : State), Can.opSysRun r s0 = true →
    let s := seen 0x0008 r s0
    let trans := some (.toRun (modeOf (u8 r.payload 0)) s.gfm.obs.lock (some (owedTo r 0x0008)))
    exec (.opSysRun r) s0 = .next (finish s0 (deferred 0x0008 r
      (forwardOp 0x0008 r.payload { s with sys := { s.sys with trans := trans } })))) ∧
  (∀ (r : Req) (s0 : State), Can.opSysStop r s0 = true →
    let s := seen 0x0009 r s0
    let ms := u32 r.payload 0
    let s1 := updRun (fun r => { r with ho := r.ho.map fun h => { h with frozen := true } }) s
    let s2 := if ms = 0 then enterState .armed (leaveRun s)
      else { s1 with sys := { s1.sys with trans := some (.stopRamp s.now ms) } }
    exec (.opSysStop r) s0 = .next (finish s0 (answered 0x0009 r .accepted 0 [] (forwardOp 0x0009 r.payload s2)))) ∧
  (∀ (r : Req) (s0 : State), Can.opSysDisarm r s0 = true →
    exec (.opSysDisarm r) s0 = .next (finish s0 (answered 0x000A r .ok 0 []
      (forwardOp 0x000A r.payload (enterState .idle (seen 0x000A r s0)))))) ∧
  (∀ (r : Req) (s0 : State), Can.opSysService r s0 = true →
    let s := seen 0x000B r s0
    exec (.opSysService r) s0 = .next (finish s0 (answered 0x000B r .ok 0 [] (enterState .service s)))) ∧
  (∀ (r : Req) (s0 : State), Can.opSysIdle r s0 = true →
    let s := seen 0x000C r s0
    exec (.opSysIdle r) s0 = .next (finish s0 (answered 0x000C r .accepted 0 [] (enterState .idle s)))) ∧
  (∀ (r : Req) (s0 : State), Can.opGntClear r s0 = true →
    let s := seen 0x150A r s0
    exec (.opGntClear r) s0 = .next (finish s0 (answered 0x150A r .ok 0 [] (forwardOp 0x150A r.payload
      (notePins (enterState .armed { s with gnt := { s.gnt with brk := [] } }))))))

/-- Each of RUN_ENTRY_BOUNDARY, STOP_RAMP_END, DEBUG_HALT, DEBUG_HALT_END, OUTER_STEP_BOUNDARY, OUTER_STEP_COMPLETE,
PUBLISH_TICK completes: under the conditions that its rules set on the state and the operands, exec answers the next state
with its own effect, a request with its reply besides, and changes nothing else before the end of the command: the boundary
starts the step, its completion stamps the slack, the publish tick puts its results in force or counts a miss. What of it
rests on a log entry marked DEDUCED, PRESUMED or DESIGN CHOICE is the model's choice and no rule of the spec: the instant of
an event, the packet layer and the end of every command on log entries 2, 6, 7, 8, 9, 13, 20, 21, 22, 23, 41, 46, 58, 63,
68, 80, 89, 91, 102, 115, 118, 124, 151, 155, 172, 173 and 180; RUN_ENTRY_BOUNDARY besides on 3, 25, 39, 65, 132, 133, 134,
139, 141, 142, 149, 163 and 184; DEBUG_HALT besides on 109; OUTER_STEP_BOUNDARY besides on 3, 14, 16, 25, 26, 27, 28, 31,
39, 48, 65, 74, 128, 132, 133, 134, 136, 139, 141, 142, 143, 149, 156, 158, 161 and 184; PUBLISH_TICK besides on 24, 39, 52,
166 and 182. -/
def Obligations.StepEventsComplete : Prop :=
  (∀ (t : Nat) (pre : State), Can.runEntryBoundary t pre = true →
    let s := advance t pre
    ∀ mode lock owed, s.sys.trans = some (.toRun mode lock owed) →
    let s1 := enterRun mode lock none s
    exec (.runEntryBoundary t) pre = .next (finish pre (
      match owed with
      | some w => answer w .ok 0 (le 8 s1.now) s1
      | none => s1))) ∧
  (∀ (t : Nat) (pre : State), Can.stopRampEnd t pre = true →
    let s := advance t pre
    exec (.stopRampEnd t) pre = .next (finish pre (
      finishStop s))) ∧
  (∀ (t : Nat) (engine : Nat) (pre : State), Can.debugHalt t engine pre = true →
    let s := advance t pre
    let s1 := { s with sys := { s.sys with halted := s.sys.halted ||| 2 ^ engine } }
    exec (.debugHalt t engine) pre = .next (finish pre (
      if 3 < engine then s1
      else
        let s2 := disableAll 4 s1
        let s3 := dropLegPending s2
        let s4 := raise 0x0005 engine [] (stopCap s3)
        if s4.sys.state = .run then enterTripped s4 else s4))) ∧
  (∀ (t : Nat) (engine : Nat) (pre : State), Can.debugHaltEnd t engine pre = true →
    let s := advance t pre
    exec (.debugHaltEnd t engine) pre = .next (finish pre (
      { s with sys := { s.sys with halted := s.sys.halted - 2 ^ engine } }))) ∧
  (∀ (t : Nat) (pre : State), Can.outerStepBoundary t pre = true →
    let s := advance t pre
    let b := s.now
    let m := openBoundary b (mirrorBoundary (staleStep (acqBoundary (rollMarks (samplePio s)))))
    exec (.outerStepBoundary t) pre = .next (finish pre (
      measureSpeed (gooseBoundary (startStep b (controlBoundary b m.2 m.1)))))) ∧
  (∀ (t : Nat) (pre : State), pre.pwr.inReset = false →
    let s := advance t pre
    exec (.outerStepComplete t) pre = .next (finish pre (
      match s.sys.late, s.sys.stepStart with
      | b :: r, _ => sendMirror b (stampSlack b { s with sys := { s.sys with late := r } })
      | [], none => s
      | [], some b =>
        let s1 := stampSlack b { s with sys := { s.sys with stepStart := none } }
        if s1.sys.pubFor = some b ∧ s1.now ≤ b + s1.sys.tPub then
          sendMirror b (completeRun { s1 with sys := { s1.sys with stepDone := some s1.now },
                                              grid := { s1.grid with seen := s1.grid.seenWork } })
        else sendMirror b s1))) ∧
  (∀ (t : Nat) (pre : State), Can.publishTick t pre = true →
    let s := advance t pre
    let s1 := if s.sys.stepDone.isSome then publishStep s else missStep s
    exec (.publishTick t) pre = .next (finish pre (
      publishRest { s1 with sys := { s1.sys with pubFor := none, stepDone := none } })))

/-- Each of OP_SYS_SET_SAG, SUPPLY_WARNING_START, SUPPLY_WARNING_END, SAG_RESET, POR_N_RESET, POWER_ON, RESET_RELEASE,
BOOT_SLOT_SELECTION, IDLE_ENTRY_FROM_BOOT completes: under the conditions that its rules set on the state and the operands,
exec answers the next state with its own effect, a request with its reply besides, and changes nothing else before the end
of the command: warnings change the policy in force, a reset leaves what 19_supplies_reset.md says, and boot selects and
verifies a slot. What of it rests on a log entry marked DEDUCED, PRESUMED or DESIGN CHOICE is the model's choice and no rule
of the spec: the instant of an event, the packet layer and the end of every command on log entries 2, 6, 7, 8, 9, 13, 20,
21, 22, 23, 41, 46, 58, 63, 68, 80, 89, 91, 102, 115, 118, 124, 151, 155, 172, 173 and 180; SUPPLY_WARNING_START besides on
123; SAG_RESET besides on 4, 12, 196 and 197; POR_N_RESET, POWER_ON besides on 4, 12 and 196; BOOT_SLOT_SELECTION besides on
11 and 196. -/
def Obligations.SuppliesComplete : Prop :=
  (∀ (r : Req) (s0 : State), Can.opSysSetSag r s0 = true →
    let p := r.payload
    let s := seen 0x000D r s0
    exec (.opSysSetSag r) s0 = .next (finish s0 (answered 0x000D r .ok 0 (le 1 (u8 p 0) ++ le 1 (u8 p 1) ++ le 2 0) { s with pwr := { s.pwr with policy := u8 p 0, vcoreWarn := u8 p 1 } }))) ∧
  (∀ (t : Nat) (supply : Nat) (pre : State), Can.supplyWarningStart t supply pre = true →
    let s := advance t pre
    let s1 := { s with pwr := { s.pwr with warn := supply :: s.pwr.warn } }
    exec (.supplyWarningStart t supply) pre = .next (finish pre (
      if s.pwr.inReset then s1
      else
        let s2 := sayWarning supply s.pwr.warn.isEmpty s1
        if s.pwr.policy = 1 then shed s2 else s2))) ∧
  (∀ (t : Nat) (supply : Nat) (pre : State),
    let s0 := advance t pre
    let s := { s0 with pwr := { s0.pwr with low := s0.pwr.low.filter (· != supply) } }
    exec (.supplyWarningEnd t supply) pre = .next (finish pre (
      if ¬ s.pwr.warn.contains supply then s
      else
        let s1 := { s with pwr := { s.pwr with warn := s.pwr.warn.filter (· != supply) } }
        if s.pwr.inReset then s1
        else
          let s2 := sagCause (raise 0x0003 (det supply 0) [] s1)
          if s2.pwr.warn.isEmpty ∧ s2.pwr.shedding then unshed s2 else s2))) ∧
  (∀ (supply : Nat) (s0 : State), supply < 4 →
    let low := if s0.pwr.low.contains supply then s0.pwr.low else supply :: s0.pwr.low
    let off := s0.pwr.ioOff || (low.contains 1 && Config.freeNat s0.draws % 2 == 1)
    let s1 := resetDevice 2 supply { s0 with draws := s0.draws + 1, pwr := { s0.pwr with low := low, ioOff := off } }
    exec (.sagReset supply) s0 = .next (if low.length = 4 then { s1 with pwr := { s1.pwr with cause := 1, sagSupply := 0 } } else s1)) ∧
  (∀ (s0 : State), exec .porNReset s0 = .next (resetDevice 3 0 { s0 with pwr := { s0.pwr with porLow := true } })) ∧
  (∀ (s0 : State),
    let s1 := resetDevice 1 0 { s0 with leg := s0.leg.map fun e => (e.1, { e.2 with gh := false, gl := false, hold := none }) }
    exec .powerOn s0 = .next { s1 with pwr := { s1.pwr with cause := 1, sagSupply := 0, low := [], porLow := false, ioOff := false } }) ∧
  (∀ (twinId : Bool) (oscSet : Nat) (pre : State), Can.resetRelease twinId oscSet pre = true →
    let s := pre
    let d := drawNat s
    let s1 : State := { d.2 with
      pwr := { d.2.pwr with inReset := false, low := [], porLow := false, ioOff := false }
      twin := { d.2.twin with idB := twinId }
      clk := { d.2.clk with oscSet := oscSet % 8, xoSettling := d.1 % 2 == 1, xoFrom := d.2.now } }
    let s2 := raise 0x0004 (det s1.pwr.cause (if s1.pwr.cause = 2 then s1.pwr.sagSupply else 0)) [] s1
    exec (.resetRelease twinId oscSet) pre = .next (finish pre (
      (s2.pwr.warn.reverse).foldl (fun a k => sayWarning k false a) s2))) ∧
  (∀ (pre : State), Can.bootSlotSelection pre = true →
    let s := pre
    let m := bootRec s.mram
    let b := m.tryB.getD m.permB
    let s1 := if m.tryB.isSome then writeBoot { m with tryB := none } s else s
    exec (.bootSlotSelection) pre = .next (finish pre (
      { s1 with win := { s1.win with ready := true }, sec := { s1.sec with verifying := some (b2n b, .boot false m.tryB.isSome) } }))) ∧
  (∀ (t : Nat) (pre : State), Can.idleEntryFromBoot t pre = true →
    let s := advance t pre
    exec (.idleEntryFromBoot t) pre = .next (finish pre (
      loadCal (enterState .idle s))))

/-- Each of OP_SEC_GET_ID, OP_SEC_QUOTE, OP_SEC_IMAGE_LOAD, OP_SEC_IMAGE_VERIFY, OP_SEC_SLOT_SELECT_TRY_ONCE,
OP_SEC_SLOT_SELECT_PERMANENT, OP_SEC_REBOOT, OP_SEC_OWNER_FUSE completes: under the conditions that its rules set on the
state and the operands, exec answers the next state with its own effect, a request with its reply besides, and changes
nothing else before the end of the command: each changes its slot, boot record or fuse alone, and a reboot resets the device
after its reply. What of it rests on a log entry marked DEDUCED, PRESUMED or DESIGN CHOICE is the model's choice and no rule
of the spec: the instant of an event, the packet layer and the end of every command on log entries 2, 6, 7, 8, 9, 13, 20,
21, 22, 23, 41, 46, 58, 63, 68, 80, 89, 91, 102, 115, 118, 124, 151, 155, 172, 173 and 180; OP_SEC_QUOTE besides on 116;
OP_SEC_IMAGE_LOAD besides on 111; OP_SEC_SLOT_SELECT_TRY_ONCE besides on 10 and 196; OP_SEC_SLOT_SELECT_PERMANENT besides on
196; OP_SEC_REBOOT besides on 4, 12, 110 and 196; OP_SEC_OWNER_FUSE besides on 113. -/
def Obligations.SecurityOpcodesComplete : Prop :=
  (∀ (r : Req) (s0 : State), Can.opSecGetId r s0 = true →
    let s := seen 0x0101 r s0
    exec (.opSecGetId r) s0 = .next (finish s0 (answeredChain 0x0101 r idReply s))) ∧
  (∀ (r : Req) (s0 : State), Can.opSecQuote r s0 = true →
    let p := r.payload
    let s := seen 0x0102 r s0
    let q := quoteBody (bytesAt 32 p 0) s
    exec (.opSecQuote r) s0 = .next (finish s0 (answeredChain 0x0102 r (q ++ fit 64 (deviceSign q) ++ (if u8 p 32 = 1 then idReply else [])) s))) ∧
  (∀ (r : Req) (s0 : State), Can.opSecImageLoad r s0 = true →
    let p := whole r s0
    let s1 := loadPart p (seen 0x0103 r s0)
    exec (.opSecImageLoad r) s0 = .next (finish s0 (
      if crc32c (loadedPart p) = u32 p (8 + u32 p 4) then answered 0x0103 r .ok 0 [] (setSlot (u8 p 0) {} s1)
      else answered 0x0103 r .check 0 [] s1))) ∧
  (∀ (r : Req) (s0 : State), Can.opSecImageVerify r s0 = true →
    let p := r.payload
    let s := seen 0x0104 r s0
    exec (.opSecImageVerify r) s0 = .next (finish s0 (deferred 0x0104 r (startVerify (u8 p 0) (owedTo r 0x0104) s)))) ∧
  (∀ (r : Req) (s0 : State), Can.opSecSlotSelectTryOnce r s0 = true →
    let p := r.payload
    let s := seen 0x0105 r s0
    exec (.opSecSlotSelectTryOnce r) s0 = .next (finish s0 (answered 0x0105 r .ok 0 [] (writeBoot { bootRec s.mram with tryB := some (u8 p 0 == 1) } s)))) ∧
  (∀ (r : Req) (s0 : State), Can.opSecSlotSelectPermanent r s0 = true →
    let p := r.payload
    let s := seen 0x0105 r s0
    let k := u8 p 0
    let rb := imgRollback (slotImage s k)
    let s1 := writeBoot { bootRec s.mram with permB := k == 1 } s
    exec (.opSecSlotSelectPermanent r) s0 = .next (finish s0 (
      if rb ≤ s.mram.rollback then
        (answered 0x0105 r .ok 0 [] s1)
      else
        let s2 := { s1 with mram := { s1.mram with rollback := rb }, sec := { s1.sec with blowing := some (s.mram.rollback, s.now) } }
        (answered 0x0105 r .ok 0 [] (raise 0x0103 rb [] (setSlot (1 - k) { slotOf s2 (1 - k) with vr := 0 } s2)))))) ∧
  (∀ (r : Req) (s0 : State), Can.opSecReboot r s0 = true →
    let s := seen 0x0106 r s0
    let s1 := answered 0x0106 r .accepted 0 [] { s with pwr := { s.pwr with inReset := true } }
    exec (.opSecReboot r) s0 = .next (resetDevice 4 0 (finish s0 { s1 with pwr := s0.pwr }))) ∧
  (∀ (r : Req) (s0 : State), Can.opSecOwnerFuse r s0 = true →
    let p := r.payload
    let s := seen 0x0107 r s0
    let pub := bytesAt 64 p 0
    let h := sm3 pub
    let signed := sm2Verify pub (fit 8 Config.deviceId ++ pub ++ bytesAt 1 p 64) (bytesAt 64 p 68)
    let s1 := { s with mram := { s.mram with partialOwner := some h }, sec := { s.sec with fusing := some (h, u8 p 64 == 1) } }
    exec (.opSecOwnerFuse r) s0 = .next (finish s0 (
      if signed = true ∧ (ownerImage pub s 0 || ownerImage pub s 1) = true then
        if s.mram.ownerHash.isSome || otherPartial s.mram h then answered 0x0107 r .locked 0 [] s
        else answered 0x0107 r .ok 0 [] s1
      else answered 0x0107 r .auth 0 [] s)))

/-- Each of OP_SEC_DEBUG_CHALLENGE, OP_SEC_DEBUG_LOCK, OP_SEC_DEBUG_UNLOCK, OP_SEC_CFG_SAVE, OP_SEC_CFG_LOAD,
OP_SEC_JOURNAL_READ, SLOT_VERIFICATION_DONE, JOURNAL_ENTRY_WRITE, FUSE_BLOW_DONE, CFG_SAVE_DONE, EXTEST completes: under the
conditions that its rules set on the state and the operands, exec answers the next state with its own effect, a request with
its reply besides, and changes nothing else before the end of the command: each changes what its rule names alone. What of
it rests on a log entry marked DEDUCED, PRESUMED or DESIGN CHOICE is the model's choice and no rule of the spec: the instant
of an event, the packet layer and the end of every command on log entries 2, 6, 7, 8, 9, 13, 20, 21, 22, 23, 41, 46, 58, 63,
68, 80, 89, 91, 102, 115, 118, 124, 151, 155, 172, 173 and 180; OP_SEC_DEBUG_CHALLENGE, OP_SEC_DEBUG_UNLOCK besides on 114;
OP_SEC_CFG_SAVE besides on 116; OP_SEC_CFG_LOAD besides on 55, 69 and 92; SLOT_VERIFICATION_DONE besides on 111 and 112. -/
def Obligations.DebugAndStoreComplete : Prop :=
  (∀ (r : Req) (s0 : State), Can.opSecDebugChallenge r s0 = true →
    let p := r.payload
    let s := seen 0x0108 r s0
    let d := drawBytes 32 s
    let c : Challenge := { nonce := d.1, level := u8 p 0, expires := d.2.now + msT 60000 }
    exec (.opSecDebugChallenge r) s0 = .next (finish s0 (answered 0x0108 r .ok 0 (d.1 ++ fit 8 Config.deviceId) { d.2 with sec := { d.2.sec with dbgChallenge := some c } }))) ∧
  (∀ (r : Req) (s0 : State), Can.opSecDebugLock r s0 = true →
    let s := seen 0x0108 r s0
    exec (.opSecDebugLock r) s0 = .next (finish s0 (answered 0x0108 r .ok 0 [] (endDebug s)))) ∧
  (∀ (r : Req) (s0 : State), Can.opSecDebugUnlock r s0 = true →
    let p := r.payload
    let s := seen 0x0109 r s0
    let x := { s.sec with dbgChallenge := none }
    exec (.opSecDebugUnlock r) s0 = .next (finish s0 (
      if ¬ debugResponseOk p s then
        answered 0x0109 r .auth 0 []
          { s with sec := { x with dbgFails := x.dbgFails + 1, dbgLocked := decide (3 ≤ x.dbgFails + 1) } }
      else if s.mram.ownerDebugOff ∧ s.mram.ownerHash ≠ some (sm3 (bytesAt 64 p 4)) then
        answered 0x0109 r .locked 0 [] { s with sec := { x with dbgLocked := true } }
      else answered 0x0109 r .ok 0 [] (raise 0x0102 (u8 p 0) [] { s with sec := { x with debug := max x.debug (u8 p 0) } })))) ∧
  (∀ (r : Req) (s0 : State), Can.opSecCfgSave r s0 = true →
    let s := seen 0x010A r s0
    let c : CfgRec := { imageVer := runningVer s, snap := saveSnap s }
    exec (.opSecCfgSave r) s0 = .next (finish s0 (deferred 0x010A r 
               { s with sec := { s.sec with saving := some (c, owedTo r 0x010A) },
                        mram := { s.mram with cfg := s.mram.cfg.take 1 ++ [{ c with ok := false }] } }))) ∧
  (∀ (r : Req) (s0 : State), Can.opSecCfgLoad r s0 = true →
    let s := seen 0x010B r s0
    ∀ c, s.mram.cfg.find? (fun c => c.ok) = some c →
    exec (.opSecCfgLoad r) s0 = .next (finish s0 (answered 0x010B r .ok 0 [] (loadSnap c.snap s)))) ∧
  (∀ (r : Req) (s0 : State), Can.opSecJournalRead r s0 = true →
    let p := r.payload
    let s := seen 0x010C r s0
    let es := (s.mram.journal.filter fun e => decide (u64 p 0 ≤ e.1)).take (u16 p 8)
    exec (.opSecJournalRead r) s0 = .next (finish s0 (answeredChain 0x010C r (le 2 es.length ++ le 2 0 ++ es.flatMap journalBytes) s))) ∧
  (∀ (t : Nat) (pre : State), Can.slotVerificationDone t pre = true →
    let s := advance t pre
    ∀ k why, s.sec.verifying = some (k, why) →
    let img := slotImage s k
    let vr := verifyImage s.mram img ((slotOf s k).vr == 11)
    let st := vrStatus vr
    let s1 := setSlot k { vr := vr, meas := sm3 (imgAll img) } { s with sec := { s.sec with verifying := none } }
    let s2 := raise 0x0101 k (le 2 st.code ++ le 1 vr ++ le 1 0) s1
    let s3 := match why with
      | .boot second tried =>
        if vr = 1 then startImage k tried s2
        else if second then s2
        else { s2 with sec := { s2.sec with verifying := some (1 - k, .boot true false) } }
      | .command w =>
        let a := answer w st vr [] s2
        if vr = 1 ∧ a.sys.state = .boot ∧ a.sec.running = 0 then startImage k false a else a
    exec (.slotVerificationDone t) pre = .next (finish pre (
      nextVerify (runLoads s3)))) ∧
  (∀ (t : Nat) (pre : State), Can.journalEntryWrite t pre = true →
    let s := advance t pre
    ∀ kind body r, s.sec.journalQ = (kind, body) :: r →
    let m := s.mram
    exec (.journalEntryWrite t) pre = .next (finish pre (
      { s with sec := { s.sec with journalQ := r },
               mram := { m with journal := keepLast 32768 (m.journal ++ [(m.nextEntry, kind, body)]), nextEntry := m.nextEntry + 1 } }))) ∧
  (∀ (t : Nat) (pre : State), Can.fuseBlowDone t pre = true →
    let s := advance t pre
    ∀ h off, s.sec.fusing = some (h, off) →
    exec (.fuseBlowDone t) pre = .next (finish pre (
      { s with mram := { s.mram with ownerHash := some h, ownerDebugOff := off || s.mram.partialOff, partialOwner := none, partialOff := false },
               sec := { s.sec with fusing := none } }))) ∧
  (∀ (t : Nat) (pre : State), Can.cfgSaveDone t pre = true →
    let s := advance t pre
    ∀ c w, s.sec.saving = some (c, w) →
    exec (.cfgSaveDone t) pre = .next (finish pre (
      answer w .ok 0 [] { s with sec := { s.sec with saving := none }, mram := { s.mram with cfg := c :: s.mram.cfg.dropLast } }))) ∧
  (∀ (t : Nat) (values : List Bool) (pre : State), Can.extest t values pre = true →
    let s := advance t pre
    exec (.extest t values) pre = .next (finish pre (
      (List.range 48).foldl (extestLeg values) { s with balls := { s.balls with extest := some (extestInterlock values) } })))

/-- Each of OP_TIME_SET_DOMAIN, OP_TIME_GET_DOMAIN, OP_TIME_GET, OP_TIME_SET_ACTIVE, OP_TIME_STEP, TIME_STEP_EXECUTED,
OP_TIME_SET_PPS completes: under the conditions that its rules set on the state and the operands, exec answers the next
state with its own effect, a request with its reply besides, and changes nothing else before the end of the command: each
configures, reads, switches or steps the domain it names. What of it rests on a log entry marked DEDUCED, PRESUMED or DESIGN
CHOICE is the model's choice and no rule of the spec: the instant of an event, the packet layer and the end of every command
on log entries 2, 6, 7, 8, 9, 13, 20, 21, 22, 23, 41, 46, 58, 63, 68, 80, 89, 91, 102, 115, 118, 124, 151, 155, 172, 173 and
180; OP_TIME_SET_DOMAIN besides on 69; OP_TIME_GET_DOMAIN, OP_TIME_SET_ACTIVE besides on 33; TIME_STEP_EXECUTED besides on
33, 69 and 73. -/
def Obligations.TimeOpcodesComplete : Prop :=
  (∀ (r : Req) (s0 : State), Can.opTimeSetDomain r s0 = true →
    let p := r.payload
    let s := seen 0x0201 r s0
    let d := u8 p 0
    let c := domCfgOf p
    exec (.opTimeSetDomain r) s0 = .next (finish s0 (answered 0x0201 r .ok 0 [] (configDomain d c s)))) ∧
  (∀ (r : Req) (s0 : State), Can.opTimeGetDomain r s0 = true →
    let p := r.payload
    let s := seen 0x0202 r s0
    let d := u8 p 0
    let x := domain s d
    let m := x.master
    let n := portInUse s x
    exec (.opTimeGetDomain r) s0 = .next (finish s0 (answered 0x0202 r .ok 0 
                (le 1 x.state ++ le 1 (n.getD 0xFF) ++ le 8 (match m with | some (a, _) => a.gmId | none => 0) ++ sat32 x.oLast ++ fieldI 4 4 (rnd (x.y * 1000000000000)) ++
          fieldI 5 4 (rnd (match n with | some k => x.path.getD k 0 | none => 0)) ++
          fieldU 6 4 (if x.state = 4 then (s.now - x.holdSince) / 1600000 else 0) ++ le 8 x.lockTick) s))) ∧
  (∀ (r : Req) (s0 : State), Can.opTimeGet r s0 = true →
    let s := seen 0x0203 r s0
    exec (.opTimeGet r) s0 = .next (finish s0 (answered 0x0203 r .ok 0 
                (le 8 (stamp s) ++ ntBytes (ntNs s) ++ le 1 s.time.active ++ le 1 (b2n s.time.slewing + 2 * b2n s.time.ppsSeen) ++
          sat32 (residual s s.now) ++ le 8 s.time.ppsInTick) s))) ∧
  (∀ (r : Req) (s0 : State), Can.opTimeSetActive r s0 = true →
    exec (.opTimeSetActive r) s0 = .next (finish s0 (answered 0x0204 r .ok 0 [] (domSwitch (u8 r.payload 0) (seen 0x0204 r s0))))) ∧
  (∀ (r : Req) (s0 : State), Can.opTimeStep r s0 = true →
    let p := r.payload
    let s := seen 0x0205 r s0
    exec (.opTimeStep r) s0 = .next (finish s0 (answered 0x0205 r .accepted 0 [] { s with time := { s.time with stepPend := some (u8 p 0, u8 p 1) } }))) ∧
  (∀ (t : Nat) (pre : State), Can.timeStepExecuted t pre = true →
    let s := advance t pre
    ∀ d l, s.time.stepPend = some (d, l) →
    let old := ntAt s s.now
    let x := domain s d
    let s1 := match x.o with
      | some o => if x.jumpSaid ∨ x.state = 4 then domState d 2 (stepDom d o s) else s
      | none => s
    let s1 := if x.state = 5 then domState d (if x.valid then 4 else 1) s1 else s1
    let s2 := makeActive d 0 { s1 with time := { s1.time with stepPend := none } }
    let nt := ntAt s2 s2.now
    exec (.timeStepExecuted t) pre = .next (finish pre (
      svRestart nt (cancelHeld (raise 0x0203 d (ns8 (nt - old)) s2))))) ∧
  (∀ (r : Req) (s0 : State), Can.opTimeSetPps r s0 = true →
    let p := r.payload
    let s := seen 0x0206 r s0
    exec (.opTimeSetPps r) s0 = .next (finish s0 (answered 0x0206 r .ok 0 [] { s with time := { s.time with ppsWidth := u16 p 0 } })))

/-- Each of PPS_OUT_SECOND, PPS_OUT_PULSE_END, PPS_IN_EDGE, PTP_ANNOUNCE_TIMEOUT, PTP_MASTER_MESSAGE_TX, TIME_SLEW_DONE,
PTP_MESSAGE_RECEIVED completes: under the conditions that its rules set on the state and the operands, exec answers the next
state with its own effect, a request with its reply besides, and changes nothing else before the end of the command: each
changes its output, its domain or the slew as its rule says. What of it rests on a log entry marked DEDUCED, PRESUMED or
DESIGN CHOICE is the model's choice and no rule of the spec: the instant of an event, the packet layer and the end of every
command on log entries 2, 6, 7, 8, 9, 13, 20, 21, 22, 23, 41, 46, 58, 63, 68, 80, 89, 91, 102, 115, 118, 124, 151, 155, 172,
173 and 180; PTP_ANNOUNCE_TIMEOUT besides on 33 and 69; PTP_MASTER_MESSAGE_TX besides on 35 and 70; PTP_MESSAGE_RECEIVED
besides on 33, 34, 35, 69, 70, 71, 72, 73, 75, 76, 77, 88, 154, 177, 178 and 195. -/
def Obligations.TimeEventsComplete : Prop :=
  (∀ (t : Nat) (pre : State), Can.ppsOutSecond t pre = true →
    let s := advance t pre
    let sec (x : Rat) : Int := (ntAt s x / 1000000000).floor
    let part := ((sec s.now : Rat) * 1000000000 - ntAt s (s.now - 1)) / (ntAt s s.now - ntAt s (s.now - 1))
    exec (.ppsOutSecond t) pre = .next (finish pre (
      { s with time := { s.time with ppsHigh := true, ppsRise := 8 * ((s.now : Int) - 1) + rnd (8 * part), ppsFall := s.now + msT s.time.ppsWidth } }))) ∧
  (∀ (t : Nat) (pre : State), Can.ppsOutPulseEnd t pre = true →
    let s := advance t pre
    exec (.ppsOutPulseEnd t) pre = .next (finish pre (
      { s with time := { s.time with ppsHigh := false } }))) ∧
  (∀ (t : Nat) (pre : State), Can.ppsInEdge t pre = true →
    let s := advance t pre
    exec (.ppsInEdge t) pre = .next (finish pre (
      { s with time := { s.time with ppsInTick := s.now, ppsSeen := true } }))) ∧
  (∀ (t : Nat) (dom : Nat) (pre : State), Can.ptpAnnounceTimeout t dom pre = true →
    let s := advance t pre
    let x := domain s dom
    exec (.ptpAnnounceTimeout t dom) pre = .next (finish pre (
      match elsewhere s x with
      | some p => setDomain dom { x with master := x.master.map fun m => (m.1, p), lastHeard := s.now, lanA := none } s
      | none =>
        let s1 := setDomain dom { x with master := none, lastHeard := s.now, o := if x.jumpSaid then x.o else none, lanA := none,
                                         syncWait := [], lastReq := if x.cfg.profile = 0 then [] else x.lastReq } s
        if mayMaster s dom then domState dom 5 s1
        else if x.state = 3 ∨ (x.state = 2 ∧ x.valid) then toHoldover dom s1
        else if x.state = 2 then domState dom 1 s1
        else s1))) ∧
  (∀ (t : Nat) (dom : Nat) (kind : Nat) (pre : State), Can.ptpMasterMessageTx t dom kind pre = true →
    let s := advance t pre
    let x := domain s dom
    let all := bitsOf 4 x.cfg.ports
    let s1 := setDomain dom { x with lastTx := x.lastTx.put kind s.now } s
    exec (.ptpMasterMessageTx t dom kind) pre = .next (finish pre (
      match kind with
      | 0 => if x.state = 5 then all.foldl (fun a n => ptpSend x n (.announce x.cfg.domainNo (ownAnnounce s x)) a) s1 else s
      | 1 => if x.state = 5 then all.foldl (syncOut x) s1 else s
      | 2 => (if x.cfg.profile ≠ 0 then peerPorts s x else masterPorts s x).foldl (delayOut dom) s1
      | _ => s))) ∧
  (∀ (t : Nat) (pre : State), Can.timeSlewDone t pre = true →
    let s := advance t pre
    exec (.timeSlewDone t) pre = .next (finish pre (
      raise 0x0205 0 [] { s with time := { s.time with slewing := false, resid := 0, residAt := s.now } }))) ∧
  (∀ (t : Nat) (port_ : Nat) (head : MsgHead) (msg : PtpMsg) (pre : State), Can.ptpMessageReceived t port_ head msg pre = true →
    let s := advance t pre
    exec (.ptpMessageReceived t port_ head msg) pre = .next (finish pre (
      messageIn port_ head (.ptp msg) s)))

/-- Each of OP_CLK_SELECT, OP_CLK_SET_PLL, OP_CLK_SET_REFOUT, OP_CLK_GATE, CLOCK_GATE_EFFECTIVE, OP_CLK_GET_STATUS,
REFOUT_EDGE completes: under the conditions that its rules set on the state and the operands, exec answers the next state
with its own effect, a request with its reply besides, and changes nothing else before the end of the command: each writes
the wellspring list, the loop, an output or the gates, or reads the status. What of it rests on a log entry marked DEDUCED,
PRESUMED or DESIGN CHOICE is the model's choice and no rule of the spec: the instant of an event, the packet layer and the
end of every command on log entries 2, 6, 7, 8, 9, 13, 20, 21, 22, 23, 41, 46, 58, 63, 68, 80, 89, 91, 102, 115, 118, 124,
151, 155, 172, 173 and 180; OP_CLK_SET_PLL besides on 92 and 119; OP_CLK_GATE besides on 120; OP_CLK_GET_STATUS besides on
190; REFOUT_EDGE besides on 121. -/
def Obligations.ClockOpcodesComplete : Prop :=
  (∀ (r : Req) (s0 : State), Can.opClkSelect r s0 = true →
    let p := r.payload
    let s := seen 0x0301 r s0
    let l := (List.range 4).map (u8 p)
    let x := l.headD 0
    let s1 := { s with clk := { s.clk with list := l, auto := (u8 p 4).testBit 0, revert := (u8 p 4).testBit 1 } }
    exec (.opClkSelect r) s0 = .next (finish s0 (answered 0x0301 r .ok 0 [] 
          (match s1.clk.tb with
           | .off => acquire s1
           | .acquiring => if firstReady s1 = some s1.clk.source then s1 else reacquire s1
           | _ => if x = s1.clk.source then s1 else switchTo x s1)))) ∧
  (∀ (r : Req) (s0 : State), Can.opClkSetPll r s0 = true →
    let p := r.payload
    let s := seen 0x0302 r s0
    let khz := u16 p 2
    let s1 := { s with clk := { s.clk with xoMode := u8 p 0, xoKhz := khz, tolPpm := u16 p 4, peTh := u16 p 6, fslew := u16 p 8 } }
    exec (.opClkSetPll r) s0 = .next (finish s0 (answered 0x0302 r .ok 0 [] 
          (if tbRuns s1 then tbStop 1 s1
           else reacquire { s1 with clk := { s1.clk with holdValid := false, lockedTicks := 0 } })))) ∧
  (∀ (r : Req) (s0 : State), Can.opClkSetRefout r s0 = true →
    let p := r.payload
    let s := seen 0x0303 r s0
    let n := u8 p 0
    let src := u8 p 1
    exec (.opClkSetRefout r) s0 = .next (finish s0 (answered 0x0303 r .ok 0 [] 
              { s with clk := { s.clk with
            refout := s.clk.refout.put n { src := src, format := u8 p 2, div := u16 p 4, heldTo := s.now + 16 } } }))) ∧
  (∀ (r : Req) (s0 : State), Can.opClkGate r s0 = true →
    let p := r.payload
    let s := seen 0x0304 r s0
    let m := u32 p 0
    let now := s.clk.gateMask &&& m
    exec (.opClkGate r) s0 = .next (finish s0 (answered 0x0304 r .ok 0 [] { s with clk := { s.clk with gateMask := now, gatePend := if now = m then none else some m } }))) ∧
  (∀ (t : Nat) (pre : State), Can.clockGateEffective t pre = true →
    let s := advance t pre
    ∀ m, s.clk.gatePend = some m →
    exec (.clockGateEffective t) pre = .next (finish pre (
      { s with clk := { s.clk with gateMask := m, gatePend := none } }))) ∧
  (∀ (r : Req) (s0 : State), Can.opClkGetStatus r s0 = true →
    let s := seen 0x0305 r s0
    let ferr := drawNat (readWords s)
    let phase := drawNat ferr.2
    let s1 := phase.2
    let c := s1.clk
    exec (.opClkGetStatus r) s0 = .next (finish s0 (answered 0x0305 r .ok 0 
          (le 4 (hwClkstat s1) ++ c.list.flatMap (le 1) ++ le 2 c.speed ++ le 1 (b2n c.auto + 2 * b2n c.revert) ++ le 1 0 ++
            le 4 (if c.tb = .off then 0 else ferr.1) ++ leI 4 (if c.holdValid then c.held - c.word else 0) ++
            le 4 phase.1 ++ le 8 c.lockTick ++
            le 4 (holdAge s1) ++
            le 4 (min 0xFFFFFFFF (lockedTotal s1 / 1600000)) ++ le 4 (gateReq s1) ++ le 4 (c32 s1 0x0305 0 48) ++
            le 4 (c32 s1 0x0305 0 52) ++ le 4 (c32 s1 0x0305 0 56) ++ le 4 (c32 s1 0x0305 0 60)) s1))) ∧
  (∀ (t : Nat) (out : Nat) (pre : State), Can.refoutEdge t out pre = true →
    let s := advance t pre
    ∀ x, Tbl.find out s.clk.refout = some x →
    exec (.refoutEdge t out) pre = .next (finish pre (
      if x.src ≠ 1 then
        let e := 8 * s.now + Config.freeNat s.draws % 8
        { s with draws := s.draws + 1, clk := { s.clk with refout := s.clk.refout.put out { x with level := !x.level, edgeAt := e } } }
      else
        let put (l : Bool) (e : Nat) : State :=
          { s with clk := { s.clk with refout := s.clk.refout.put out { x with level := l, edgeAt := e } } }
        if ¬ x.level then (if s.now % x.div = 0 ∧ x.heldTo ≤ s.now then put true (8 * s.now) else s)
        else if x.div / 2 ≤ s.now % x.div then put false (8 * (s.now - s.now % x.div) + 4 * x.div)
        else s)))

/-- Each of XO_SETTLE_DONE, SOURCE_READY, SOURCE_LOSS, TB_LOCK_DECLARED, PHASE_TRIP, HOLD_VALID_SET, RECOVERING_LOCKED,
PHASE_TRIP_RECOVERY, WELLSPRING_REVERT, LOOP_FAULT_STOP completes: under the conditions that its rules set on the state and
the operands, exec answers the next state with its own effect, a request with its reply besides, and changes nothing else
before the end of the command: each makes the transition of Table 18.6 that its rule names. What of it rests on a log entry
marked DEDUCED, PRESUMED or DESIGN CHOICE is the model's choice and no rule of the spec: the instant of an event, the packet
layer and the end of every command on log entries 2, 6, 7, 8, 9, 13, 20, 21, 22, 23, 41, 46, 58, 63, 68, 80, 89, 91, 102,
115, 118, 124, 151, 155, 172, 173 and 180; XO_SETTLE_DONE, SOURCE_READY besides on 191; TB_LOCK_DECLARED besides on 122;
WELLSPRING_REVERT besides on 117; LOOP_FAULT_STOP besides on 92 and 119. -/
def Obligations.TimebaseEventsComplete : Prop :=
  (∀ (pre : State), Can.xoSettleDone pre = true →
    let s := pre
    exec (.xoSettleDone) pre = .next (finish pre (
      { s with clk := { s.clk with xoSettling := false, xoSettled := true } }))) ∧
  (∀ (t : Nat) (src : Nat) (pre : State), Can.sourceReady t src pre = true →
    let s := advance t pre
    exec (.sourceReady t src) pre = .next (finish pre (
      if src = 1 ∧ ¬ s.clk.xoSettled then
        if s.clk.xoSettling then s else { s with clk := { s.clk with xoSettling := true, xoFrom := s.now } }
      else sourceGained src s))) ∧
  (∀ (t : Nat) (src : Nat) (cause : Nat) (pre : State), Can.sourceLoss t src cause pre = true →
    let s := advance t pre
    let s1 := if src = 1 ∧ cause = 1 then { s with clk := { s.clk with xoSettled := false, xoSettling := false } } else s
    exec (.sourceLoss t src cause) pre = .next (finish pre (
      sourceLost src cause s1))) ∧
  (∀ (pre : State), Can.tbLockDeclared pre = true →
    let s := pre
    let s1 := setTb .locked { s with clk := { s.clk with everRan := true, netLock := true } }
    exec (.tbLockDeclared) pre = .next (finish pre (
      pondResume (tbaseInv (raise 0x0301 (det s1.clk.source 0) [] s1))))) ∧
  (∀ (t : Nat) (pre : State), Can.phaseTrip t pre = true →
    let s := advance t pre
    exec (.phaseTrip t) pre = .next (finish pre (
      holdOver true (bump 0x0305 0 56 s)))) ∧
  (∀ (t : Nat) (pre : State), Can.holdValidSet t pre = true →
    let s := advance t pre
    let s1 := readWords s
    exec (.holdValidSet t) pre = .next (finish pre (
      { s1 with clk := { s1.clk with holdValid := true } }))) ∧
  (∀ (t : Nat) (pre : State), Can.recoveringLocked t pre = true →
    let s := advance t pre
    let s1 := setTb .locked { s with clk := { s.clk with fromCoast := false } }
    exec (.recoveringLocked t) pre = .next (finish pre (
      raise 0x0301 (det s1.clk.source 0) [] s1))) ∧
  (∀ (t : Nat) (pre : State), Can.phaseTripRecovery t pre = true →
    let s := advance t pre
    exec (.phaseTripRecovery t) pre = .next (finish pre (
      enterRecovering s.clk.source s))) ∧
  (∀ (t : Nat) (pre : State), Can.wellspringRevert t pre = true →
    let s := advance t pre
    let ahead := s.clk.list.takeWhile fun x => x != s.clk.source
    let long (x : Nat) : Bool := match Tbl.find x s.clk.ready with | some a => decide (a + msT 10000 ≤ s.now) | none => false
    ∀ x, (if tbRuns s ∧ s.clk.auto ∧ s.clk.revert then ahead.find? (fun x => x != 0 && long x) else none) = some x →
    exec (.wellspringRevert t) pre = .next (finish pre (
      switchTo x s))) ∧
  (∀ (t : Nat) (pre : State), Can.loopFaultStop t pre = true →
    let s := advance t pre
    exec (.loopFaultStop t) pre = .next (finish pre (
      tbStop 2 s)))

/-- Each of OP_GFM_SET_PARAM, OP_GFM_COMMIT, OP_GFM_DISCARD, OP_GFM_GET_PARAM, OP_GFM_GET_STATE, OP_GFM_MAP_CHANNEL,
OP_GFM_SET_SEC, OBS_LOCK_GAINED, EV_GFM_BLEND_DONE, EV_GFM_SEC_STALE completes: under the conditions that its rules set on
the state and the operands, exec answers the next state with its own effect, a request with its reply besides, and changes
nothing else before the end of the command: each changes the parameter sets, the map or the observer as its rule says. What
of it rests on a log entry marked DEDUCED, PRESUMED or DESIGN CHOICE is the model's choice and no rule of the spec: the
instant of an event, the packet layer and the end of every command on log entries 2, 6, 7, 8, 9, 13, 20, 21, 22, 23, 41, 46,
58, 63, 68, 80, 89, 91, 102, 115, 118, 124, 151, 155, 172, 173 and 180; OP_GFM_COMMIT besides on 27; OP_GFM_GET_STATE
besides on 160; OP_GFM_MAP_CHANNEL besides on 135; OP_GFM_SET_SEC besides on 131. -/
def Obligations.GfmComplete : Prop :=
  (∀ (r : Req) (s0 : State), Can.opGfmSetParam r s0 = true →
    let p := r.payload
    let s := seen 0x1001 r s0
    ∀ x, setParams false gfmTable s.gfm.par p s = .ok x →
    exec (.opGfmSetParam r) s0 = .next (finish s0 (answered 0x1001 r .ok 0 [] { s with gfm := { s.gfm with par := x } }))) ∧
  (∀ (r : Req) (s0 : State), Can.opGfmCommit r s0 = true →
    let s := seen 0x1002 r s0
    exec (.opGfmCommit r) s0 = .next (finish s0 (answered 0x1002 r .accepted 0 [] { s with gfm := { s.gfm with par := commitSet s.gfm.par } }))) ∧
  (∀ (r : Req) (s0 : State), Can.opGfmDiscard r s0 = true →
    let s := seen 0x1003 r s0
    exec (.opGfmDiscard r) s0 = .next (finish s0 (answered 0x1003 r .ok 0 [] { s with gfm := { s.gfm with par := discardSet s.gfm.par } }))) ∧
  (∀ (r : Req) (s0 : State), Can.opGfmGetParam r s0 = true →
    let p := r.payload
    let s := seen 0x1004 r s0
    exec (.opGfmGetParam r) s0 = .next (finish s0 (answered 0x1004 r .ok 0 (paramReply gfmTable s.gfm.par (u16 p 0)) s))) ∧
  (∀ (r : Req) (s0 : State), Can.opGfmGetState r s0 = true →
    let s := seen 0x1005 r s0
    exec (.opGfmGetState r) s0 = .next (finish s0 (answered 0x1005 r .ok 0 (gfmStateReply s) s))) ∧
  (∀ (r : Req) (s0 : State), Can.opGfmMapChannel r s0 = true →
    let p := r.payload
    let s := seen 0x1006 r s0
    let y : ChMap := if structOk s then { src := u8 p 1, gain := i32 p 4, phi := u32 p 8, value := i32 p 12 }
      else { chMap s (u8 p 0) with pend := some (i32 p 12) }
    exec (.opGfmMapChannel r) s0 = .next (finish s0 (answered 0x1006 r .ok 0 []
      { s with gfm := { s.gfm with map := s.gfm.map.put (u8 p 0) y } }))) ∧
  (∀ (r : Req) (s0 : State), Can.opGfmSetSec r s0 = true →
    let p := r.payload
    let s := seen 0x1007 r s0
    let v := hzOf (i32 p 0)
    let src := gp s 0x21
    exec (.opGfmSetSec r) s0 = .next (finish s0 (answered 0x1007 r .ok 0 [] (if (src = 1 ∧ fromHost s r.org) ∨ (src = 3 ∧ fromPeer s r.org) then secValue v s else s)))) ∧
  (∀ (t : Nat) (pre : State), Can.obsLockGained t pre = true →
    let s := advance t pre
    let o := s.gfm.obs
    let o1 : Observer := { o with lock := true, everLock := true, lostSince := none, lastTheta := o.theta, lastW := o.w,
                                  lastV := s.gfm.vPos, lastAt := o.at_ }
    exec (.obsLockGained t) pre = .next (finish pre (raise 0x1007 0 [] { s with gfm := { s.gfm with obs := o1 } }))) ∧
  (∀ (t : Nat) (pre : State), Can.evGfmBlendDone t pre = true →
    let s := advance t pre
    exec (.evGfmBlendDone t) pre = .next (finish pre (
      raise 0x1002 0 [] { s with gfm := { s.gfm with par := { s.gfm.par with blendDue := false } } }))) ∧
  (∀ (t : Nat) (pre : State), Can.evGfmSecStale t pre = true →
    let s := advance t pre
    exec (.evGfmSecStale t) pre = .next (finish pre (
      raise 0x1009 0 [] { s with gfm := { s.gfm with secStale := true } })))

/-- Each of OP_GRID_SET_PARAM, OP_GRID_COMMIT, OP_GRID_DISCARD, OP_GRID_GET_PARAM, OP_GRID_SET_ENV, OP_GRID_CL_RELEASE,
OP_GRID_MAP_SYNC, OP_GRID_SYNC_START, OP_GRID_SYNC_STOP, OP_GRID_ISL_CLEAR completes: under the conditions that its rules
set on the state and the operands, exec answers the next state with its own effect, a request with its reply besides, and
changes nothing else before the end of the command: each changes what its rule names alone. What of it rests on a log entry
marked DEDUCED, PRESUMED or DESIGN CHOICE is the model's choice and no rule of the spec: the instant of an event, the packet
layer and the end of every command on log entries 2, 6, 7, 8, 9, 13, 20, 21, 22, 23, 41, 46, 58, 63, 68, 80, 89, 91, 102,
115, 118, 124, 151, 155, 172, 173 and 180; OP_GRID_CL_RELEASE besides on 140; OP_GRID_SYNC_START besides on 189. -/
def Obligations.GridParamComplete : Prop :=
  (∀ (r : Req) (s0 : State), Can.opGridSetParam r s0 = true →
    let p := r.payload
    let s := seen 0x1101 r s0
    ∀ x, setParams true gridTable s.grid.par p s = .ok x →
    exec (.opGridSetParam r) s0 = .next (finish s0 (answered 0x1101 r .ok 0 [] { s with grid := { s.grid with par := x } }))) ∧
  (∀ (r : Req) (s0 : State), Can.opGridCommit r s0 = true →
    let s := seen 0x1102 r s0
    exec (.opGridCommit r) s0 = .next (finish s0 (answered 0x1102 r .accepted 0 [] { s with grid := { s.grid with par := commitSet s.grid.par } }))) ∧
  (∀ (r : Req) (s0 : State), Can.opGridDiscard r s0 = true →
    let s := seen 0x1103 r s0
    exec (.opGridDiscard r) s0 = .next (finish s0 (answered 0x1103 r .ok 0 [] { s with grid := { s.grid with par := discardSet s.grid.par } }))) ∧
  (∀ (r : Req) (s0 : State), Can.opGridGetParam r s0 = true →
    let p := r.payload
    let s := seen 0x1104 r s0
    exec (.opGridGetParam r) s0 = .next (finish s0 (answered 0x1104 r .ok 0 (paramReply gridTable s.grid.par (u16 p 0)) s))) ∧
  (∀ (r : Req) (s0 : State), Can.opGridSetEnv r s0 = true →
    let p := r.payload
    let s := seen 0x1105 r s0
    let n := u8 p 1
    let e := u8 p 0
    let pts := (List.range n).map fun k => (u32 p (4 + 8 * k), u32 p (8 + 8 * k))
    exec (.opGridSetEnv r) s0 = .next (finish s0 (answered 0x1105 r .ok 0 [] { s with grid := { s.grid with env := s.grid.env.put e pts, timer := s.grid.timer.filter fun x => x.1 / 16 != e } }))) ∧
  (∀ (r : Req) (s0 : State), Can.opGridClRelease r s0 = true →
    let s := seen 0x1106 r s0
    exec (.opGridClRelease r) s0 = .next (finish s0 (answered 0x1106 r .ok 0 [] { s with grid := { s.grid with clHold := false }, gnt := { s.gnt with clmPend := false } }))) ∧
  (∀ (r : Req) (s0 : State), Can.opGridMapSync r s0 = true →
    let p := r.payload
    let s := seen 0x1107 r s0
    exec (.opGridMapSync r) s0 = .next (finish s0 (answered 0x1107 r .ok 0 [] { s with grid := { s.grid with sync := some (u8 p 0, u8 p 1, u8 p 2) }, gfm := { s.gfm with far := {} } }))) ∧
  (∀ (r : Req) (s0 : State), Can.opGridSyncStart r s0 = true →
    let s := seen 0x1108 r s0
    exec (.opGridSyncStart r) s0 = .next (finish s0 (answered 0x1108 r .ok 0 [] (if s.gfm.run.syncRun then s else startSync s)))) ∧
  (∀ (r : Req) (s0 : State), Can.opGridSyncStop r s0 = true →
    let s := seen 0x1108 r s0
    exec (.opGridSyncStop r) s0 = .next (finish s0 (answered 0x1108 r .ok 0 [] (if s.gfm.run.syncRun then stopSync s else s)))) ∧
  (∀ (r : Req) (s0 : State), Can.opGridIslClear r s0 = true →
    let s := seen 0x1109 r s0
    exec (.opGridIslClear r) s0 = .next (finish s0 (answered 0x1109 r .ok 0 [] (if s.grid.island then raise 0x110D 0 [] { s with grid := { s.grid with island := false } } else s))))

/-- Each of OP_GRID_SET_MODE, OP_GRID_BS_GROUP, OP_GRID_BS_LOAD, OP_GRID_BS_CONTINUE_PROCEED, OP_GRID_BS_CONTINUE_RETRY,
OP_GRID_BS_CONTINUE_SKIP, OP_GRID_BS_ABORT, OP_GRID_GET_STATE completes: under the conditions that its rules set on the
state and the operands, exec answers the next state with its own effect, a request with its reply besides, and changes
nothing else before the end of the command: each changes the hand-over, the group or the program. What of it rests on a log
entry marked DEDUCED, PRESUMED or DESIGN CHOICE is the model's choice and no rule of the spec: the instant of an event, the
packet layer and the end of every command on log entries 2, 6, 7, 8, 9, 13, 20, 21, 22, 23, 41, 46, 58, 63, 68, 80, 89, 91,
102, 115, 118, 124, 151, 155, 172, 173 and 180; OP_GRID_SET_MODE besides on 3, 39, 127, 134, 136, 141, 149, 161 and 188;
OP_GRID_BS_GROUP besides on 159; OP_GRID_BS_LOAD besides on 185; OP_GRID_GET_STATE besides on 33. -/
def Obligations.GridBsComplete : Prop :=
  (∀ (r : Req) (s0 : State), Can.opGridSetMode r s0 = true →
    let p := r.payload
    let s := seen 0x110A r s0
    ∀ s1, requestMode (u8 p 0) (some (owedTo r 0x110A)) s = .ok s1 →
    exec (.opGridSetMode r) s0 = .next (finish s0 (
      if hoPassed s1 then
        (answered 0x110A r .accepted 0 [] s1)
      else
        (deferred 0x110A r s1)))) ∧
  (∀ (r : Req) (s0 : State), Can.opGridBsGroup r s0 = true →
    let p := r.payload
    let s := seen 0x110B r s0
    let n := u16 p 2
    let id (k : Nat) : Nat := u16 p (4 + 2 * k)
    let ids := (List.range n).map id
    exec (.opGridBsGroup r) s0 = .next (finish s0 (answered 0x110B r .ok 0 [] { s with grid := { s.grid with bsGroup := s.grid.bsGroup.put (u8 p 0) ids.dedup } }))) ∧
  (∀ (r : Req) (s0 : State), Can.opGridBsLoad r s0 = true →
    let p := r.payload
    let s := seen 0x110C r s0
    let n := u8 p 0
    exec (.opGridBsLoad r) s0 = .next (finish s0 (answered 0x110C r .ok 0 [] { s with grid := { s.grid with bsProg := (List.range n).map (bsStepAt p) } }))) ∧
  (∀ (r : Req) (s0 : State), Can.opGridBsContinueProceed r s0 = true → ∀ b, s0.grid.bs = some b →
    let s := seen 0x110D r s0
    exec (.opGridBsContinueProceed r) s0 = .next (finish s0 (answered 0x110D r .ok 0 []
      (if bsPaused s then setBs { b with proceed := true } s else bsAdvance [] s)))) ∧
  (∀ (r : Req) (s0 : State), Can.opGridBsContinueRetry r s0 = true → ∀ b, s0.grid.bs = some b →
    exec (.opGridBsContinueRetry r) s0 = .next (finish s0 (answered 0x110D r .ok 0 [] (setBs { step := b.step } (seen 0x110D r s0))))) ∧
  (∀ (r : Req) (s0 : State), Can.opGridBsContinueSkip r s0 = true → ∀ b, s0.grid.bs = some b →
    exec (.opGridBsContinueSkip r) s0 = .next (finish s0 (answered 0x110D r .ok 0 [] (setBs { step := b.step + 1 } (seen 0x110D r s0))))) ∧
  (∀ (r : Req) (s0 : State), Can.opGridBsAbort r s0 = true →
    let s := seen 0x110E r s0
    exec (.opGridBsAbort r) s0 = .next (finish s0 (answered 0x110E r .ok 0 [] (bsEnd s)))) ∧
  (∀ (r : Req) (s0 : State), Can.opGridGetState r s0 = true →
    let s := seen 0x110F r s0
    exec (.opGridGetState r) s0 = .next (finish s0 (answered 0x110F r .ok 0 (gridStateReply s) s)))

/-- Each of GF_CL_EXIT, EV_GRID_CL_LONG, ENVELOPE_POINT_EXCEEDED, ENVELOPE_TIMER_RESET, HANDOVER_BLEND_DONE,
HANDOVER_PENDING_TIMEOUT, EV_GRID_GFL_LOST, EV_GRID_SYNC_OK, SYNC_BREAKER_CLOSED completes: under the conditions that its
rules set on the state and the operands, exec answers the next state with its own effect, a request with its reply besides,
and changes nothing else before the end of the command: each changes the detection, the mode or the synchroniser as its rule
says. What of it rests on a log entry marked DEDUCED, PRESUMED or DESIGN CHOICE is the model's choice and no rule of the
spec: the instant of an event, the packet layer and the end of every command on log entries 2, 6, 7, 8, 9, 13, 20, 21, 22,
23, 41, 46, 58, 63, 68, 80, 89, 91, 102, 115, 118, 124, 151, 155, 172, 173 and 180; GF_CL_EXIT besides on 3, 39, 134, 141,
149 and 161; HANDOVER_BLEND_DONE besides on 157; HANDOVER_PENDING_TIMEOUT besides on 3, 39, 134, 136, 141, 149 and 161;
EV_GRID_GFL_LOST besides on 144. -/
def Obligations.GridEventsComplete : Prop :=
  (∀ (t : Nat) (pre : State), Can.gfClExit t pre = true →
    let s := advance t pre
    exec (.gfClExit t) pre = .next (finish pre (
      raise 0x1103 0 [] (beginBlend { from_ := .gfCl, target := .gf } s.now (updRun (fun r => { r with exitSince := none }) s))))) ∧
  (∀ (t : Nat) (pre : State), Can.evGridClLong t pre = true →
    let s := advance t pre
    let r := s.gfm.run
    let from_ := if s.sys.mode = .gfCl then some r.clSince else if s.sys.mode = .bs then r.limSince else none
    exec (.evGridClLong t) pre = .next (finish pre (
      raiseClass 13 0x1104 0 [] (updRun (fun r => { r with clLong := true }) s)))) ∧
  (∀ (t : Nat) (env : Nat) (point : Nat) (pre : State), Can.envelopePointExceeded t env point pre = true →
    let s := advance t pre
    let x := envTimer s env point
    exec (.envelopePointExceeded t env point) pre = .next (finish pre (
      raiseClass (15 + env) (0x1107 + env) point [] (setEnvTimer env point { x with said := true } s)))) ∧
  (∀ (t : Nat) (env : Nat) (point : Nat) (pre : State), Can.envelopeTimerReset t env point pre = true →
    let s := advance t pre
    let x := envTimer s env point
    exec (.envelopeTimerReset t env point) pre = .next (finish pre (
      setEnvTimer env point { x with t := 0, said := false } s))) ∧
  (∀ (t : Nat) (pre : State), Can.handoverBlendDone t pre = true →
    let s := advance t pre
    ∀ h, s.gfm.run.ho = some h →
    let f (r : Run) : Run :=
      match r.ho with
      | some g => { r with law := g.inLaw, ho := none, clCause := 0, resync := false, exitSince := none, gflP := g.inLaw.pRef,
                           gflQ := g.inLaw.qRef, gflRamp := false, gflLostSaid := false, clLong := false, limSince := none,
                           limRun := 0, bsRun := false, modeSince := s.now }
      | none => r
    let s1 := updRun f { s with sys := { s.sys with mode := h.target } }
    exec (.handoverBlendDone t) pre = .next (finish pre (
      raise 0x1101 (det h.target.code h.from_.code) (le 8 s.gfm.run.last) s1))) ∧
  (∀ (t : Nat) (pre : State), Can.handoverPendingTimeout t pre = true →
    let s := advance t pre
    ∀ h, s.gfm.run.ho = some h →
    let d := (hoCheck s h.from_ h.target s.now).getD 0
    let s1 := updRun (fun r => { r with ho := none }) s
    exec (.handoverPendingTimeout t) pre = .next (finish pre (
      raise 0x1110 0 [] (match h.owed with | some w => answer w .refused d [] s1 | none => s1)))) ∧
  (∀ (t : Nat) (pre : State), Can.evGridGflLost t pre = true →
    let s := advance t pre
    let r := s.gfm.run
    let s1 := updRun (fun r => { r with gflLostSaid := true }) s
    let s2 := if ep s 0x1C = 1 then injAbort 2 (updRun (fun r => { r with ho := some (lossHandOver r.ho) }) s1) else s1
    exec (.evGridGflLost t) pre = .next (finish pre (
      raiseClass 21 0x1112 0 [] s2))) ∧
  (∀ (t : Nat) (pre : State), Can.evGridSyncOk t pre = true →
    let s := advance t pre
    let s1 := raise 0x110E 0 [] (updRun (fun r => { r with syncOkSaid := true, syncPerm := true }) s)
    exec (.evGridSyncOk t) pre = .next (finish pre (
      match s1.grid.bs with
      | some b =>
        let y := bsStepOf s1 b
        if b.begun ∧ ¬ b.halted ∧ y.action = 3 ∧ b.pulseTo.isNone then bsPulse b y s1 else s1
      | none => s1))) ∧
  (∀ (t : Nat) (pre : State), Can.syncBreakerClosed t pre = true →
    let s := advance t pre
    let stop (r : Run) : Run := { r with syncRun := false, syncPerm := false, syncSince := none, syncOkSaid := false, closeSince := none }
    exec (.syncBreakerClosed t) pre = .next (finish pre
      { s with gfm := { s.gfm with run := stop s.gfm.run, work := s.gfm.work.map stop } }))

/-- Each of BS_STEP_START, BS_STEP_COMPLETE, BS_STEP_TIMEOUT, BS_CLOSE_PULSE_END, BS_WAIT_V_HELD completes: under the
conditions that its rules set on the state and the operands, exec answers the next state with its own effect, a request with
its reply besides, and changes nothing else before the end of the command: the start of a step begins its action, its group
command or its close pulse, or ends the program; a condition that is met moves the program to the next step with
EV_GRID_BS_STEP; a TIMEOUT, too few executing members or a group command that ends ST_ABORTED halts it with EV_GRID_BS_FAIL
and class 22. What of it rests on a log entry marked DEDUCED, PRESUMED or DESIGN CHOICE is the model's choice and no rule of
the spec: the instant of an event, the packet layer and the end of every command on log entries 2, 6, 7, 8, 9, 13, 20, 21,
22, 23, 41, 46, 58, 63, 68, 80, 89, 91, 102, 115, 118, 124, 151, 155, 172, 173 and 180; BS_STEP_START besides on 28, 138,
158 and 186; BS_STEP_COMPLETE, BS_CLOSE_PULSE_END, BS_WAIT_V_HELD besides on 28, 137, 158 and 187; BS_STEP_TIMEOUT besides
on 158. -/
def Obligations.BsEventsComplete : Prop :=
  (∀ (t : Nat) (pre : State), Can.bsStepStart t pre = true → ∀ b, (advance t pre).grid.bs = some b →
    let s := advance t pre
    let x := bsStepOf s b
    let ends := { s with grid := { s.grid with bs := none } }
    let c := { b with begun := true, started := s.now, execAt := some s.now }
    let begun (c : BsRun) (s : State) : State := { s with grid := { s.grid with bs := some c } }
    let pulsed := { begun { c with pulseTo := some (s.now + usT x.arg1) } s with
      balls := { s.balls with close := s.balls.close.put (x.arg0 % 32) (s.now + usT x.arg1) } }
    let sync (r : Run) : Run := { r with syncRun := true, syncSince := none, syncOkSaid := false, syncPerm := false, closeSince := none }
    let halt (st : Status) : State := raiseClass 22 0x1115 b.step (le 2 st.code ++ le 2 0)
      { begun { c with halted := true, txn := none, result := none } s with
        gfm := { s.gfm with run := s.gfm.run.dropBsHandOver, work := s.gfm.work.map Run.dropBsHandOver } }
    let ids := ((List.range (bsGroupIds s x).length).filter fun k => !b.excluded.contains k).map fun k => (bsGroupIds s x).getD k 0
    (s.grid.bsProg.length ≤ b.step → exec (.bsStepStart t) pre = .next (finish pre ends)) ∧
    (b.step < s.grid.bsProg.length → x.action = 0 → exec (.bsStepStart t) pre = .next (finish pre (raise 0x1116 0 [] ends))) ∧
    (x.action ≠ 0 → x.action ≠ 3 → bsGrouped x = false → exec (.bsStepStart t) pre = .next (finish pre (begun c s))) ∧
    (x.action = 3 → x.arg0.testBit 31 = false ∨ s.gfm.run.syncPerm = true → exec (.bsStepStart t) pre = .next (finish pre pulsed)) ∧
    (x.action = 3 → x.arg0.testBit 31 = true → s.gfm.run.syncPerm = false → s.gfm.run.syncRun = true →
      exec (.bsStepStart t) pre = .next (finish pre (begun c s))) ∧
    (x.action = 3 → x.arg0.testBit 31 = true → s.gfm.run.syncPerm = false → s.gfm.run.syncRun = false →
      s.sys.mode = .gf → s.grid.sync.isSome = true →
      exec (.bsStepStart t) pre = .next (finish pre
        { begun c s with gfm := { s.gfm with run := sync s.gfm.run, work := s.gfm.work.map sync } })) ∧
    (x.action = 3 → x.arg0.testBit 31 = true → s.gfm.run.syncPerm = false → s.gfm.run.syncRun = false →
      (s.sys.mode ≠ .gf ∨ s.grid.sync = none) → exec (.bsStepStart t) pre = .next (finish pre (halt .badState))) ∧
    (bsGrouped x = true → ∀ st, groupRefusal s ids = some st → exec (.bsStepStart t) pre = .next (finish pre (halt st))) ∧
    (bsGrouped x = true → groupRefusal s ids = none →
      exec (.bsStepStart t) pre = .next (finish pre
        (groupStart none true ids (bsInner s x).flatten (bsInner s x).length (min x.timeout 10000000) (ep s 0x21).floor.toNat
          (begun { c with txn := some s.part.nextTxn, result := none } s))))) ∧
  (∀ (t : Nat) (pre : State), Can.bsStepComplete t pre = true → ∀ b, (advance t pre).grid.bs = some b →
    let s := advance t pre
    let executed := match b.result with | some (_, l) => bsIndexes s b l | none => []
    exec (.bsStepComplete t) pre = .next (finish pre (
      raise 0x1114 b.step (le 32 (maskOf executed)) { s with grid := { s.grid with bs := some { step := b.step + 1 } } }))) ∧
  (∀ (t : Nat) (pre : State), pre.pwr.inReset = false → Can.bsGoes (advance t pre) = true →
    ∀ b st l, (advance t pre).grid.bs = some b → b.result = some (st, l) →
    let s := advance t pre
    let n := (bsIndexes s b l).length
    let x := bsStepOf s b
    let halt (st : Status) : State := raiseClass 22 0x1115 b.step (le 2 st.code ++ le 2 0)
      { s with grid := { s.grid with bs := some { b with halted := true, txn := none, result := none } },
               gfm := { s.gfm with run := s.gfm.run.dropBsHandOver, work := s.gfm.work.map Run.dropBsHandOver } }
    (st ≠ Status.aborted.code → l.length < x.minMembers → exec (.bsStepComplete t) pre = .next (finish pre (halt .partial_))) ∧
    (st = Status.aborted.code → b.retried = true ∨ n < x.minMembers →
      exec (.bsStepComplete t) pre = .next (finish pre (halt .aborted)))) ∧
  (∀ (t : Nat) (pre : State), Can.bsStepTimeout t pre = true → ∀ b, (advance t pre).grid.bs = some b →
    let s := advance t pre
    exec (.bsStepTimeout t) pre = .next (finish pre (raiseClass 22 0x1115 b.step (le 2 Status.timeout.code ++ le 2 0)
      { s with grid := { s.grid with bs := some { b with halted := true, txn := none, result := none } },
               gfm := { s.gfm with run := s.gfm.run.dropBsHandOver, work := s.gfm.work.map Run.dropBsHandOver } }))) ∧
  (∀ (t : Nat) (pre : State), Can.bsClosePulseEnd t pre = true → ∀ b, (advance t pre).grid.bs = some b →
    let s := advance t pre
    exec (.bsClosePulseEnd t) pre = .next (finish pre (raise 0x1114 b.step (le 32 0)
      { s with grid := { s.grid with bs := some { step := b.step + 1 } },
               balls := { s.balls with close := s.balls.close.filter fun e => !due s e.2 } }))) ∧
  (∀ (t : Nat) (pre : State), pre.pwr.inReset = false → (advance t pre).grid.bs = none →
    let s := advance t pre
    exec (.bsClosePulseEnd t) pre = .next (finish pre
      { s with balls := { s.balls with close := s.balls.close.filter fun e => !due s e.2 } })) ∧
  (∀ (t : Nat) (pre : State), Can.bsWaitVHeld t pre = true → ∀ b, (advance t pre).grid.bs = some b →
    let s := advance t pre
    exec (.bsWaitVHeld t) pre = .next (finish pre (raise 0x1114 b.step (le 32 0)
      { s with grid := { s.grid with bs := some { step := b.step + 1 } } })))

/-- Each of OP_BRIM_SET_CHANNEL, OP_BRIM_SET_ARM, OP_BRIM_GET_STATUS, BRIM_DECISION, BRIM_OUTPUT_SLOT, MIN_TIME_EXPIRY,
ANPC_CHAIN_SECOND_CHANGE completes: under the conditions that its rules set on the state and the operands, exec answers the
next state with its own effect, a request with its reply besides, and changes nothing else before the end of the command: a
configuration is written on both paths, and a decision, its output slot and its minimum times act on their channel. What of
it rests on a log entry marked DEDUCED, PRESUMED or DESIGN CHOICE is the model's choice and no rule of the spec: the instant
of an event, the packet layer and the end of every command on log entries 2, 6, 7, 8, 9, 13, 20, 21, 22, 23, 41, 46, 58, 63,
68, 80, 89, 91, 102, 115, 118, 124, 151, 155, 172, 173 and 180; OP_BRIM_SET_CHANNEL besides on 165; OP_BRIM_SET_ARM besides
on 129; OP_BRIM_GET_STATUS besides on 167; BRIM_DECISION besides on 24, 39, 50, 51, 52, 53, 164, 166, 167 and 182;
BRIM_OUTPUT_SLOT, MIN_TIME_EXPIRY besides on 24, 39, 52, 59, 61, 146, 166, 167, 182 and 192; ANPC_CHAIN_SECOND_CHANGE
besides on 24, 39, 52, 146, 166, 167 and 182. -/
def Obligations.BrimComplete : Prop :=
  (∀ (r : Req) (s0 : State), Can.opBrimSetChannel r s0 = true →
    let p := r.payload
    let s := seen 0x1201 r s0
    let c := chanCfgOf p
    let ch := u8 p 0
    exec (.opBrimSetChannel r) s0 = .next (finish s0 (answered 0x1201 r .ok 0 [] (if s.sys.state = .run then setChan ch { chan s ch with cfgPend := some c } s else takeChan ch c s)))) ∧
  (∀ (r : Req) (s0 : State), Can.opBrimSetArm r s0 = true →
    let p := r.payload
    let s := seen 0x1202 r s0
    let n := u16 p 2
    let a := u8 p 0
    let ids := (List.range n).map fun k => u16 p (24 + 2 * k)
    let old := arm s a
    let x : Arm := { old with safe := u8 p 1, fCellMax := u32 p 4, socHyst := u32 p 8, vHi := u32 p 12, vLo := u32 p 16,
                              tHot := i16 p 20, staleN := u8 p 22, cells := ids }
    let s1 := armSets a old (setArm a x s)
    exec (.opBrimSetArm r) s0 = .next (finish s0 (answered 0x1202 r .ok 0 [] (setArm a { arm s1 a with order := rebuildArm s1 a } s1)))) ∧
  (∀ (r : Req) (s0 : State), Can.opBrimGetStatus r s0 = true →
    let p := r.payload
    let s := seen 0x1203 r s0
    let ch := u8 p 0
    let x := chan s ch
    let c (o : Nat) : Bytes := le 4 (c32 s 0x1203 ch o)
    let lvl := if x.written then (chanState s ch).1 else 0
    exec (.opBrimGetStatus r) s0 = .next (finish s0 (answered 0x1203 r .ok 0 
                (leI 4 (puCode (bandServo x)) ++ le 4 (rnd x.fMeas).toNat ++ leI 2 lvl ++ le 2 (chanFlags s ch) ++
          le 8 (c64 s 0x1203 ch 16) ++ le 8 (c64 s 0x1203 ch 24) ++ c 32 ++ c 36 ++ c 40 ++ c 44 ++ c 48 ++ c 52 ++ c 56 ++ c 60) s))) ∧
  (∀ (t : Nat) (ch : Nat) (upset : Nat) (slips : Bool) (pre : State), Can.brimDecision t ch upset slips pre = true →
    let s := advance t pre
    let x := chan s ch
    ∀ ts w rest, x.inq = (ts, w) :: rest →
    let on := tbRuns s && (s.sys.state == .armed || s.sys.state == .run || s.sys.state == .tripped)
    let x1 := { x with inq := rest }
    let s1 := setChan ch (if on ∧ upset = 3 then x1.upset else x1) s
    exec (.brimDecision t ch upset slips) pre = .next (finish pre (
      if ¬ x.written ∨ ¬ on then endRun ch w s1
      else
        if wOvr w || wInv w || wChk w then
          let s2 := holdSample ch w s1
          noteChan ch (if (chan s1 ch).split then splitSample ch 3 s2 else s2)
        else
          let s2 := decideSample ch ts w upset slips s1
          let code (v : Int) : Nat := (v % 2 ^ 32).toNat
          noteChan ch (pondNote 4 ch ts (code (chan s2 ch).lastE) (pondNote 3 ch ts (code (chan s2 ch).lastR) s2))))) ∧
  (∀ (t : Nat) (ch : Nat) (pre : State), pre.pwr.inReset = false →
    let s := advance t pre
    let s1 := releaseIf ch s
    exec (.brimOutputSlot t ch) pre = .next (finish pre (
      match (chan s1 ch).pend with
      | some p => if ¬ p.deferred ∧ ¬ p.second ∧ reached s1 p.at_ then noteChan ch (changeIf ch p s1) else s1
      | none => s1))) ∧
  (∀ (t : Nat) (ch : Nat) (pre : State), pre.pwr.inReset = false →
    let s := advance t pre
    let s1 := releaseIf ch s
    exec (.minTimeExpiry t ch) pre = .next (finish pre (
      match (chan s1 ch).pend with
      | some p =>
        let lead := if (chan s1 ch).cfg.outType = 5 then armD s1 (chan s1 ch).cfg.arm else 0
        if p.deferred ∧ reached s1 (p.at_ - lead) then noteChan ch (changeIf ch p s1) else s1
      | none => s1))) ∧
  (∀ (t : Nat) (ch : Nat) (pre : State), Can.anpcChainSecondChange t ch pre = true →
    let s := advance t pre
    ∀ p, (chan s ch).pend = some p →
    exec (.anpcChainSecondChange t ch) pre = .next (finish pre (
      noteChan ch (changeIf ch p s))))

/-- Each of OP_ANGLE_SET_TABLE, OP_ANGLE_WRITE, OP_ANGLE_READ, OP_ANGLE_SWAP, ANGLE_BANK_EXCHANGE, ANGLE_COPY_BACK_DONE,
OP_ANGLE_BIND, OP_ANGLE_BIND_REMOVE completes: under the conditions that its rules set on the state and the operands, exec
answers the next state with its own effect, a request with its reply besides, and changes nothing else before the end of the
command: each changes its table, bank or binding alone. What of it rests on a log entry marked DEDUCED, PRESUMED or DESIGN
CHOICE is the model's choice and no rule of the spec: the instant of an event, the packet layer and the end of every command
on log entries 2, 6, 7, 8, 9, 13, 20, 21, 22, 23, 41, 46, 58, 63, 68, 80, 89, 91, 102, 115, 118, 124, 151, 155, 172, 173 and
180; OP_ANGLE_WRITE besides on 49; OP_ANGLE_SWAP besides on 49 and 162; OP_ANGLE_BIND_REMOVE besides on 30. -/
def Obligations.AngleTablesComplete : Prop :=
  (∀ (r : Req) (s0 : State), Can.opAngleSetTable r s0 = true →
    let p := r.payload
    let s := seen 0x1301 r s0
    let n := u8 p 0
    let x := angTab s n
    exec (.opAngleSetTable r) s0 = .next (finish s0 (answered 0x1301 r .ok 0 [] 
              (setAngTab n
          (if s.sys.state = .run then { x with cfgPend := some (u8 p 1, u8 p 2, u32 p 4) }
           else { x with src := u8 p 1, mult := u8 p 2, offset := u32 p 4, cfgPend := none }) s)))) ∧
  (∀ (r : Req) (s0 : State), Can.opAngleWrite r s0 = true →
    let p := r.payload
    let s := seen 0x1302 r s0
    let n := u8 p 0
    let start := u16 p 2
    let k := u16 p 4
    let sh := (List.range k).foldl
      (fun (t : Tbl Int) i =>
        let v := i32 p (8 + 4 * i)
        if v = 0 then t.del (start + i) else t.put (start + i) v) (angTab s n).sh
    exec (.opAngleWrite r) s0 = .next (finish s0 (answered 0x1302 r .ok 0 [] (setAngTab n { angTab s n with sh := sh } s)))) ∧
  (∀ (r : Req) (s0 : State), Can.opAngleRead r s0 = true →
    let p := r.payload
    let s := seen 0x1303 r s0
    let start := u16 p 2
    let k := u16 p 4
    let x := angTab s (u8 p 0)
    let bank := if u8 p 1 = 0 then x.act else x.sh
    exec (.opAngleRead r) s0 = .next (finish s0 (answered 0x1303 r .ok 0 ((List.range k).flatMap fun i => leI 4 (bank.getD (start + i) 0)) s))) ∧
  (∀ (r : Req) (s0 : State), Can.opAngleSwap r s0 = true →
    let p := r.payload
    let s := seen 0x1304 r s0
    let m := u8 p 0
    let s1 := exchangeBanks s
    let at_ := if s.sys.state = .run then nextPublish s s.now else s.now + 1
    exec (.opAngleSwap r) s0 = .next (finish s0 (answered 0x1304 r .accepted 0 [] { s1 with angle := { s1.angle with swaps := s1.angle.swaps ++ [(m, at_)] } }))) ∧
  (∀ (t : Nat) (pre : State), pre.pwr.inReset = false →
    let s := advance t pre
    let ripe (w : Nat × Nat) : Bool := decide (w.2 ≤ s.now)
    let swapped (a : State) (n : Nat) : State := setAngTab n { angTab a n with act := (angTab a n).sh, sh := (angTab a n).act } a
    let exchanged (a : State) (w : Nat × Nat) : State :=
      let a1 := (bitsOf 8 w.1).foldl swapped a
      injSpoil { a1 with angle := { a1.angle with copying := a1.angle.copying ++ [w] } }
    exec (.angleBankExchange t) pre = .next (finish pre ((s.angle.swaps.filter ripe).foldl exchanged
      { s with angle := { s.angle with swaps := s.angle.swaps.filter fun w => !ripe w } }))) ∧
  (∀ (t : Nat) (pre : State), Can.angleCopyBackDone t pre = true →
    let s := advance t pre
    ∀ m at_ rest, s.angle.copying = (m, at_) :: rest →
    let s1 := (bitsOf 8 m).foldl (fun a n => setAngTab n { angTab a n with sh := (angTab a n).act } a) s
    exec (.angleCopyBackDone t) pre = .next (finish pre (
      raise 0x1301 m (le 8 at_) { s1 with angle := { s1.angle with copying := rest } }))) ∧
  (∀ (r : Req) (s0 : State), Can.opAngleBind r s0 = true →
    let p := r.payload
    let s := seen 0x1305 r s0
    let rt := s.sys.state == .run || s.sys.state == .tripped
    let old := s.angle.bind.any (sameBind p)
    let g := i32 p 4
    let upd (b : AngBind) : AngBind :=
      if sameBind p b then
        if rt then { b with pend := some (g, u32 p 8) } else { b with gain := g, phase := u32 p 8, pend := none }
      else b
    let l := if old then s.angle.bind.map upd
      else s.angle.bind ++ [{ table := u8 p 0, kind := u8 p 1, target := u8 p 2, gain := g, phase := u32 p 8 }]
    exec (.opAngleBind r) s0 = .next (finish s0 (answered 0x1305 r .ok 0 [] { s with angle := { s.angle with bind := l } }))) ∧
  (∀ (r : Req) (s0 : State), Can.opAngleBindRemove r s0 = true →
    let p := r.payload
    let s := seen 0x1305 r s0
    let mine (b : AngBind) : Bool := b.table == u8 p 0 && b.target == u8 p 2
    exec (.opAngleBindRemove r) s0 = .next (finish s0 (answered 0x1305 r .ok 0 [] { s with angle := { s.angle with bind := s.angle.bind.filter fun b => !mine b } })))

/-- Each of OP_ANGLE_INJ_SET, OP_ANGLE_INJ_START, INJECTION_FADE_IN_DONE, CORRELATION_WINDOW_END, INJECTION_FADE_OUT_DONE,
SCAN_REPORT_READY, OP_ANGLE_INJ_STOP, OP_ANGLE_CORR_SET, OP_ANGLE_SCAN_READ completes: under the conditions that its rules
set on the state and the operands, exec answers the next state with its own effect, a request with its reply besides, and
changes nothing else before the end of the command: each moves the injection, its windows and its report. What of it rests
on a log entry marked DEDUCED, PRESUMED or DESIGN CHOICE is the model's choice and no rule of the spec: the instant of an
event, the packet layer and the end of every command on log entries 2, 6, 7, 8, 9, 13, 20, 21, 22, 23, 41, 46, 58, 63, 68,
80, 89, 91, 102, 115, 118, 124, 151, 155, 172, 173 and 180; OP_ANGLE_INJ_SET besides on 48 and 145; SCAN_REPORT_READY
besides on 29 and 47. -/
def Obligations.InjectionComplete : Prop :=
  (∀ (r : Req) (s0 : State), Can.opAngleInjSet r s0 = true →
    let p := r.payload
    let s := seen 0x1306 r s0
    exec (.opAngleInjSet r) s0 = .next (finish s0 (answered 0x1306 r .ok 0 [] { s with angle := { s.angle with injCfg := some p } }))) ∧
  (∀ (r : Req) (s0 : State), Can.opAngleInjStart r s0 = true →
    let s := seen 0x1307 r s0
    exec (.opAngleInjStart r) s0 = .next (finish s0 (answered 0x1307 r .ok 0 [] { s with angle := { s.angle with inj := some {}, report := none, reporting := none } }))) ∧
  (∀ (t : Nat) (pre : State), Can.injectionFadeInDone t pre = true →
    let s := advance t pre
    ∀ i, s.angle.inj = some i →
    exec (.injectionFadeInDone t) pre = .next (finish pre (
      setInj { i with phase := 2, at_ := i.at_ + injFade s, spoilt := blendOrRamp s, samples := [] } s))) ∧
  (∀ (t : Nat) (pre : State), Can.correlationWindowEnd t pre = true →
    let s := advance t pre
    ∀ i c, s.angle.inj = some i → s.angle.injCfg = some c →
    let stop := i.at_ + injWindow c
    let inWin (l : List (Nat × Rat × Bool)) : List (Nat × Rat × Bool) := l.filter fun x => decide (x.1 < stop)
    let later := i.samples.map fun e => (e.1, e.2.filter fun x => decide (stop ≤ x.1))
    let bad := i.spoilt || i.samples.any fun e => (inWin e.2).any fun x => x.2.2
    let win := i.samples.map fun e => (e.1, ((inWin e.2).map fun x => x.2.1).reverse)
    let j := { i with samples := later, spoilt := blendOrRamp s, at_ := stop }
    let lost := { j with discarded := i.discarded + 1, disAll := i.disAll + 1 }
    let kept := { j with accepted := i.accepted + 1, accAll := i.accAll + 1, acc := addWindow c i win,
                         firstWin := some (i.firstWin.getD i.at_) }
    exec (.correlationWindowEnd t) pre = .next (finish pre (
      if bad then if u16 c 16 < i.discarded + 1 then injAbort 8 (setInj lost s) else setInj lost s
      else setInj (if u16 c 16 ≤ i.accepted + 1 then { kept with phase := 3, g0 := 1, samples := [] } else kept) s))) ∧
  (∀ (t : Nat) (pre : State), Can.injectionFadeOutDone t pre = true →
    let s := advance t pre
    ∀ i, s.angle.inj = some i →
    exec (.injectionFadeOutDone t) pre = .next (finish pre (
      if injScan s = 2 ∧ i.pass = 0 ∧ i.abort = 0 ∧ ¬ i.stopped then
        setInj { i with phase := 1, pass := 1, start := fadeEnd s i, at_ := fadeEnd s i, accepted := 0, discarded := 0, spoilt := false } s
      else
        let rep := decide (injScan s ≠ 0) && !i.stopped && (i.abort == 0 || i.accAll != 0)
        let s1 := raise 0x1304 0 [] s
        { s1 with angle := { s1.angle with inj := none, reporting := if rep then some (s.angle.injCfg.getD [], i) else none } }))) ∧
  (∀ (t : Nat) (pre : State), Can.scanReportReady t pre = true →
    let s := advance t pre
    ∀ c i, s.angle.reporting = some (c, i) →
    let d := drawBytes 384 s
    exec (.scanReportReady t) pre = .next (finish pre (
      raise 0x1305 0 [] { d.2 with angle := { d.2.angle with reporting := none, report := some (scanReport c i d.1) } }))) ∧
  (∀ (r : Req) (s0 : State), Can.opAngleInjStop r s0 = true →
    let s := seen 0x1308 r s0
    ∀ i, s.angle.inj = some i →
    exec (.opAngleInjStop r) s0 = .next (finish s0 (
      if i.phase = 3 then
        (answered 0x1308 r .ok 0 [] (setInj { i with stopped := i.stopped || i.abort == 0 } s))
      else
        (answered 0x1308 r .ok 0 [] (setInj { i with phase := 3, g0 := injG s i s.now, at_ := s.now, stopped := true } s))))) ∧
  (∀ (r : Req) (s0 : State), Can.opAngleCorrSet r s0 = true →
    let p := r.payload
    let s := seen 0x1309 r s0
    exec (.opAngleCorrSet r) s0 = .next (finish s0 (answered 0x1309 r .ok 0 [] { s with angle := { s.angle with corr := (List.range 8).map fun k => (k, (u8 p (4 * k), u8 p (4 * k + 1))) } }))) ∧
  (∀ (r : Req) (s0 : State), Can.opAngleScanRead r s0 = true →
    let s := seen 0x130A r s0
    ∀ b, s.angle.report = some b →
    exec (.opAngleScanRead r) s0 = .next (finish s0 (answered 0x130A r .ok 0 b s)))

/-- Each of OP_LEG_SET_CONFIG, OP_LEG_SYNC, OP_LEG_STAGE, OP_LEG_COMMIT, OP_LEG_SET_CMP, OP_LEG_DISABLE, OP_LEG_ENABLE,
OP_LEG_GET_STATUS completes: under the conditions that its rules set on the state and the operands, exec answers the next
state with its own effect, a request with its reply besides, and changes nothing else before the end of the command: each
configures, stages, commits, enables or disables the legs its mask names. What of it rests on a log entry marked DEDUCED,
PRESUMED or DESIGN CHOICE is the model's choice and no rule of the spec: the instant of an event, the packet layer and the
end of every command on log entries 2, 6, 7, 8, 9, 13, 20, 21, 22, 23, 41, 46, 58, 63, 68, 80, 89, 91, 102, 115, 118, 124,
151, 155, 172, 173 and 180; OP_LEG_SET_CONFIG besides on 55; OP_LEG_STAGE besides on 54. -/
def Obligations.LegOpcodesComplete : Prop :=
  (∀ (r : Req) (s0 : State), Can.opLegSetConfig r s0 = true →
    let p := r.payload
    let s := seen 0x1401 r s0
    let n := u8 p 0
    let x := leg s n
    let c := legCfgOf p
    let y := { x with cfg := c, dtR := c.dtRise, dtF := c.dtFall, missR := 0, missF := 0 }
    let z := if x.cfg.phase ≠ c.phase ∨ x.cfg.tri ≠ c.tri then regrid y s.now else y
    let s1 := setLeg n z s
    exec (.opLegSetConfig r) s0 = .next (finish s0 (answered 0x1401 r .ok 0 [] (if z.mitten ∧ z.hold.isNone then applyPattern n (8 * s.now) s1 else s1)))) ∧
  (∀ (r : Req) (s0 : State), Can.opLegSync r s0 = true →
    let p := r.payload
    let s := seen 0x1402 r s0
    exec (.opLegSync r) s0 = .next (finish s0 (answered 0x1402 r .ok 0 [] ((legsOf p).foldl (fun a n => setLeg n { leg a n with sync := (u64 p 8 :: (leg a n).sync.filter (· ≠ u64 p 8)) } a) s)))) ∧
  (∀ (r : Req) (s0 : State), Can.opLegStage r s0 = true →
    let p := r.payload
    let s := seen 0x1403 r s0
    let m := u8 p 1
    let per := m.testBit 0
    let dut := m.testBit 1
    let x := leg s (u8 p 0)
    let a := if per then { x.staged with period := u32 p 4 } else x.staged
    let b := if dut then { a with duty := u32 p 8, dutyB := u32 p 12, amp := u32 p 16, phi := u32 p 20 } else a
    exec (.opLegStage r) s0 = .next (finish s0 (answered 0x1403 r .ok 0 [] 
              (setLeg (u8 p 0) { x with staged := b, wroteP := x.wroteP || per, wroteD := x.wroteD || dut,
                                        tornSaid := x.tornSaid && ((x.wroteP || per) != (x.wroteD || dut)) } s)))) ∧
  (∀ (r : Req) (s0 : State), Can.opLegCommit r s0 = true →
    let p := r.payload
    let s := seen 0x1404 r s0
    let ls := legsOf p
    let from_ := max (u64 p 8) (s.now + 64)
    let s1 := ls.foldl
      (fun a n =>
        let x := leg a n
        setLeg n { x with pend := some (x.staged, from_), wroteP := false, wroteD := false, tornSaid := false } a) s
    let first := ls.foldl (fun m n => min m (nextApply (leg s n) from_)) (2 ^ 64 - 1)
    exec (.opLegCommit r) s0 = .next (finish s0 (answered 0x1404 r .ok 0 (le 8 first) s1))) ∧
  (∀ (r : Req) (s0 : State), Can.opLegSetCmp r s0 = true →
    let p := r.payload
    let s := seen 0x1405 r s0
    exec (.opLegSetCmp r) s0 = .next (finish s0 (answered 0x1405 r .ok 0 [] (setLeg (u8 p 0) { leg s (u8 p 0) with cmpPend := some (cmpsOf p) } s)))) ∧
  (∀ (r : Req) (s0 : State), Can.opLegDisable r s0 = true →
    let p := r.payload
    let s := seen 0x1406 r s0
    exec (.opLegDisable r) s0 = .next (finish s0 (answered 0x1406 r .ok 0 [] (disableLegs (legsOf p) 1 (s.now + 1) true s)))) ∧
  (∀ (r : Req) (s0 : State), Can.opLegEnable r s0 = true →
    let p := r.payload
    let s := seen 0x1407 r s0
    let ls := legsOf p
    exec (.opLegEnable r) s0 = .next (finish s0 (answered 0x1407 r .ok 0 [] (ls.foldl enableLeg s)))) ∧
  (∀ (r : Req) (s0 : State), Can.opLegGetStatus r s0 = true →
    let p := r.payload
    let s := seen 0x1408 r s0
    let n := u8 p 0
    let x := leg s n
    let c (o : Nat) : Bytes := le 4 (c32 s 0x1408 n o)
    exec (.opLegGetStatus r) s0 = .next (finish s0 (answered 0x1408 r .ok 0 
                (le 4 x.pair.period ++ leI 4 x.dutyTot ++ leI 4 x.carry ++ le 2 x.dtR ++ le 2 x.dtF ++ le 2 (legFlags s n) ++
          le 2 0 ++ c 24 ++ c 28 ++ c 32 ++ c 36 ++ c 40 ++ c 44 ++ c 48 ++ c 52 ++ le 8 (c64 s 0x1408 n 56)) s)))

/-- Each of LEG_ANCHOR_APPLIED, LEG_PERIOD_BOUNDARY, LEG_APEX_UPDATE, LEG_OUTPUT_EDGE, DEAD_TIME_EXPIRY, NODE_COMMUTATION,
COMMUTATION_WATCH_END completes: under the conditions that its rules set on the state and the operands, exec answers the
next state with its own effect, a request with its reply besides, and changes nothing else before the end of the command:
each moves its leg's carrier, gates or measurement as its rule says. What of it rests on a log entry marked DEDUCED,
PRESUMED or DESIGN CHOICE is the model's choice and no rule of the spec: the instant of an event, the packet layer and the
end of every command on log entries 2, 6, 7, 8, 9, 13, 20, 21, 22, 23, 41, 46, 58, 63, 68, 80, 89, 91, 102, 115, 118, 124,
151, 155, 172, 173 and 180; LEG_ANCHOR_APPLIED besides on 55; LEG_PERIOD_BOUNDARY besides on 56, 57, 59, 61, 146, 147 and
168; LEG_APEX_UPDATE besides on 146; LEG_OUTPUT_EDGE besides on 146 and 147. -/
def Obligations.LegCarrierComplete : Prop :=
  (∀ (t : Nat) (leg_ : Nat) (pre : State), Can.legAnchorApplied t leg_ pre = true →
    let s := advance t pre
    let x := leg s leg_
    ∀ a, x.nextSync = some a →
    exec (.legAnchorApplied t leg_) pre = .next (finish pre (
      setLeg leg_ (regrid { x with anchor := a, sync := x.sync.filter (· ≠ a) } s.now) s))) ∧
  (∀ (t : Nat) (leg_ : Nat) (pre : State), Can.legPeriodBoundary t leg_ pre = true →
    let s := advance t pre
    let x := leg s leg_
    let c := match x.cmpPend with | some l => (List.range 4).zip l | none => x.cmp
    let s1 := bump64 0x1408 leg_ 56 1
      (setLeg leg_ { x with start := some (s.now : Int), fired := 0, cmp := c, cmpPend := none } s)
    let upd := !x.cfg.tri || x.cfg.update != 1
    let s2 := if upd then applyPair leg_ false (tornCheck leg_ s1) else s1
    exec (.legPeriodBoundary t leg_) pre = .next (finish pre (
      if brimMode s2 leg_ then s2
      else
        let s3 := if upd then formDuty leg_ s2 else s2
        let y := leg s3 leg_
        let fresh := y.enabled && y.mitten && y.leaving.isSome
        let s4 := if fresh then
            (if y.cfg.indep then leaveIndep leg_ s3
             else leaveMitten leg_ (8 * s3.now) false (setLeg leg_ { y with carry := 0 } s3))
          else s3
        if (leg s4 leg_).mitten then s4
        else if y.cfg.indep then indepPeriod leg_ fresh s4
        else compPeriod leg_ fresh s4))) ∧
  (∀ (t : Nat) (leg_ : Nat) (pre : State), Can.legApexUpdate t leg_ pre = true →
    let s := advance t pre
    let x := leg s leg_
    let s1 := tornCheck leg_ s
    let s2 := applyPair leg_ true s1
    exec (.legApexUpdate t leg_) pre = .next (finish pre (
      if brimMode s2 leg_ then s2
      else
        let applied := x.pend.isSome && (leg s2 leg_).pend.isNone
        let moving := applied || x.cfg.sine || s2.angle.bind.any fun b => b.kind == 2 && b.target == leg_
        let s3 := formDuty leg_ s2
        if (leg s3 leg_).mitten ∨ ¬ moving then s3
        else if x.cfg.indep then apexIndep leg_ s3
        else compEdges leg_ (apexComp leg_ x.tOn s3)))) ∧
  (∀ (t : Nat) (leg_ : Nat) (pre : State), Can.legOutputEdge t leg_ pre = true →
    let s := advance t pre
    let x := leg s leg_
    exec (.legOutputEdge t leg_) pre = .next (finish pre (
      if x.cfg.indep then indepEdges leg_ s
      else compEdges leg_ s))) ∧
  (∀ (t : Nat) (leg_ : Nat) (pre : State), Can.deadTimeExpiry t leg_ pre = true →
    let s := advance t pre
    let x := leg s leg_
    ∀ high f, x.assertAt = some (high, f) →
    let c := (x.commut high).map fun (c : Commut) => { c with onAt := some f }
    exec (.deadTimeExpiry t leg_) pre = .next (finish pre (
      request leg_ f high (!high) (setLeg leg_ ({ x with assertAt := none }.setCommut high c) s)))) ∧
  (∀ (t : Nat) (leg_ : Nat) (level : Bool) (pre : State), pre.pwr.inReset = false →
    let s := advance t pre
    let x := leg s leg_
    let s1 := setLeg leg_ { x with node := level } s
    let rise := level != x.cfg.nodePol
    exec (.nodeCommutation t leg_ level) pre = .next (finish pre (
      match x.commut rise with
      | none => s1
      | some c =>
        if ¬ x.cfg.adapt ∨ x.mitten ∨ level = x.node then s1
        else
          let dt : Nat := if rise then x.dtR else x.dtF
          match c.onAt with
          | none =>
            let meas : Rat := ((8 * s.now - c.tOff : Nat) : Rat) / 8
            setDt leg_ rise (rnd ((dt : Rat) + (meas + x.cfg.dtMargin - dt) / 2 ^ x.cfg.dtShift)) 0 s1
          | some f =>
            if s.now ≤ f / 8 + x.cfg.dtMax then setDt leg_ rise dt 0 (bump 0x1408 leg_ 40 s1) else s1))) ∧
  (∀ (t : Nat) (leg_ : Nat) (pre : State), pre.pwr.inReset = false →
    let s := advance t pre
    exec (.commutationWatchEnd t leg_) pre = .next (finish pre (
      [true, false].foldl
        (fun a rise =>
          let x := leg a leg_
          match x.commut rise with
          | some { tOff := _, onAt := some f } =>
            if x.cfg.adapt ∧ ¬ x.mitten ∧ reached a (f / 8 + x.cfg.dtMax) then nodeMiss leg_ rise a else a
          | _ => a) s)))

/-- Each of REFRESH_GUARD, REFRESH_LOW_END, INTERLOCK_BLANK_END, LEG_COMPARE_FIRE, TRIG_OUT_PULSE_END, MIT_DELAY_HOLD_END,
MITTEN_ASSERT_WAIT_END, OVL_WIN_ELAPSED completes: under the conditions that its rules set on the state and the operands,
exec answers the next state with its own effect, a request with its reply besides, and changes nothing else before the end
of the command: each acts on its leg or output alone. What of it rests on a log entry marked DEDUCED, PRESUMED or DESIGN
CHOICE is the model's choice and no rule of the spec: the instant of an event, the packet layer and the end of every command
on log entries 2, 6, 7, 8, 9, 13, 20, 21, 22, 23, 41, 46, 58, 63, 68, 80, 89, 91, 102, 115, 118, 124, 151, 155, 172, 173 and
180; REFRESH_GUARD besides on 59 and 146; REFRESH_LOW_END besides on 146 and 147. -/
def Obligations.LegGuardComplete : Prop :=
  (∀ (t : Nat) (leg_ : Nat) (pre : State), Can.refreshGuard t leg_ pre = true →
    let s := advance t pre
    let x := leg s leg_
    exec (.refreshGuard t leg_) pre = .next (finish pre (
      if brimMode s leg_ then setOut leg_ (8 * s.now) false (forceLow leg_ true s)
      else setLeg leg_ { x with refreshDue := true } s))) ∧
  (∀ (t : Nat) (leg_ : Nat) (pre : State), Can.refreshLowEnd t leg_ pre = true →
    let s := advance t pre
    let x := leg s leg_
    let s1 := setLeg leg_ { x with refreshTo := none } s
    exec (.refreshLowEnd t leg_) pre = .next (finish pre (
      if x.mitten then s1
      else if brimMode s leg_ then (if brimWants s leg_ then setOut leg_ (8 * s.now) true s1 else s1)
      else if x.cfg.indep then indepEdges leg_ s1
      else compEdges leg_ s1))) ∧
  (∀ (t : Nat) (leg_ : Nat) (pre : State), Can.interlockBlankEnd t leg_ pre = true →
    let s := advance t pre
    let x := leg s leg_
    ∀ e, x.blankTo = some e →
    exec (.interlockBlankEnd t leg_) pre = .next (finish pre (
      request leg_ e x.reqH x.reqL (setLeg leg_ { x with blankTo := none } s)))) ∧
  (∀ (t : Nat) (leg_ : Nat) (cmp : Nat) (pre : State), Can.legCompareFire t leg_ cmp pre = true →
    let s := advance t pre
    let x := leg s leg_
    let c := x.cmp.getD cmp {}
    let s1 := setLeg leg_ { x with fired := x.fired ||| 2 ^ cmp } s
    exec (.legCompareFire t leg_ cmp) pre = .next (finish pre (
      match c.target with
      | 1 => convTrigger c.arg s1.now s1
      | 2 => compareToPond leg_ s1
      | 3 => trigOut 0 s1
      | _ => trigOut 1 s1))) ∧
  (∀ (t : Nat) (out : Nat) (pre : State), Can.trigOutPulseEnd t out pre = true →
    let s := advance t pre
    exec (.trigOutPulseEnd t out) pre = .next (finish pre (
      { s with balls := { s.balls with trigOut := Tbl.del out s.balls.trigOut } }))) ∧
  (∀ (t : Nat) (leg_ : Nat) (pre : State), Can.mitDelayHoldEnd t leg_ pre = true →
    let s := advance t pre
    let x := leg s leg_
    exec (.mitDelayHoldEnd t leg_) pre = .next (finish pre (
      applyPattern leg_ (8 * s.now) (setLeg leg_ { x with hold := none } s)))) ∧
  (∀ (t : Nat) (leg_ : Nat) (pre : State), Can.mittenAssertWaitEnd t leg_ pre = true →
    let s := advance t pre
    let x := leg s leg_
    ∀ pat e, x.wait = some (pat, e) →
    exec (.mittenAssertWaitEnd t leg_) pre = .next (finish pre (
      request leg_ e (pat.testBit 1) (pat.testBit 0) (setLeg leg_ { x with wait := none } s)))) ∧
  (∀ (t : Nat) (leg_ : Nat) (pre : State), Can.ovlWinElapsed t leg_ pre = true →
    let s := advance t pre
    let x := leg s leg_
    exec (.ovlWinElapsed t leg_) pre = .next (finish pre (
      setLeg leg_ { x with ovlOn := false } s)))

/-- Each of OP_GNT_SET_INPUTS, OP_GNT_SET_BLANK, OP_GNT_GET_RECORDS, OP_GNT_UNPIN, OP_GNT_LOAD_TABLE,
OP_GNT_LOAD_TABLE_FACTORY, OP_GNT_CONFIRM, OP_GNT_GET_TABLE, OP_GNT_RAISE, OP_GNT_GET_INPUT completes: under the conditions
that its rules set on the state and the operands, exec answers the next state with its own effect, a request with its reply
besides, and changes nothing else before the end of the command: each writes inputs, blanking, table or pins, or reads
records, table or inputs. What of it rests on a log entry marked DEDUCED, PRESUMED or DESIGN CHOICE is the model's choice
and no rule of the spec: the instant of an event, the packet layer and the end of every command on log entries 2, 6, 7, 8,
9, 13, 20, 21, 22, 23, 41, 46, 58, 63, 68, 80, 89, 91, 102, 115, 118, 124, 151, 155, 172, 173 and 180; OP_GNT_SET_INPUTS
besides on 62; OP_GNT_GET_INPUT besides on 33. -/
def Obligations.GauntletOpcodesComplete : Prop :=
  (∀ (r : Req) (s0 : State), Can.opGntSetInputs r s0 = true →
    let p := r.payload
    let s := seen 0x1501 r s0
    let m := u64 p 0
    let input := s.gnt.input.map fun e =>
      (e.1, if m.testBit e.1 ∧ ¬ s.gnt.enable.testBit e.1 ∧ e.2.asserted then
        { e.2 with since := s.now, recognised := false, inWindow := decide (s.now < e.2.blankTo), outlived := none } else e.2)
    exec (.opGntSetInputs r) s0 = .next (finish s0 (answered 0x1501 r .ok 0 [] { s with gnt := { s.gnt with enable := m, input := input } }))) ∧
  (∀ (r : Req) (s0 : State), Can.opGntSetBlank r s0 = true →
    let p := r.payload
    let s := seen 0x1502 r s0
    exec (.opGntSetBlank r) s0 = .next (finish s0 (answered 0x1502 r .ok 0 [] { s with gnt := { s.gnt with bt := (List.range 16).map fun k => (k, u16 p (2 * k)) } }))) ∧
  (∀ (r : Req) (s0 : State), Can.opGntGetRecords r s0 = true →
    let p := r.payload
    let s := seen 0x1503 r s0
    let l := (s.gnt.ring.filter fun x => decide (u64 p 0 ≤ x.recNo)).take (u8 p 8)
    exec (.opGntGetRecords r) s0 = .next (finish s0 (answered 0x1503 r .ok 0 (le 1 l.length ++ le 3 0 ++ l.flatMap FRec.bytes) s))) ∧
  (∀ (r : Req) (s0 : State), Can.opGntUnpin r s0 = true →
    let s := seen 0x1504 r s0
    exec (.opGntUnpin r) s0 = .next (finish s0 (answered 0x1504 r .ok 0 [] { s with gnt := { s.gnt with ring := s.gnt.ring.map fun x => { x with pinned := false } } }))) ∧
  (∀ (r : Req) (s0 : State), Can.opGntLoadTable r s0 = true →
    let p := r.payload
    let s := seen 0x1505 r s0
    exec (.opGntLoadTable r) s0 = .next (finish s0 (answered 0x1505 r .ok 0 [] (stage ((List.range 64).map fun k => entryAt p (4 + 8 * k)) s)))) ∧
  (∀ (r : Req) (s0 : State), Can.opGntLoadTableFactory r s0 = true →
    let s := seen 0x1505 r s0
    exec (.opGntLoadTableFactory r) s0 = .next (finish s0 (answered 0x1505 r .ok 0 [] (stage factoryTable s)))) ∧
  (∀ (r : Req) (s0 : State), Can.opGntConfirm r s0 = true →
    let p := r.payload
    let s := seen 0x1506 r s0
    ∀ t, s.gnt.staging = some t →
    exec (.opGntConfirm r) s0 = .next (finish s0 (answered 0x1506 r .ok 0 [] 
              (notePins (raise 0x1505 0 (le 4 (u32 p 0))
          { s with gnt := { s.gnt with table := tableAt s, tableNext := some (t, s.now + 1), staging := none, confirmed := true } }))))) ∧
  (∀ (r : Req) (s0 : State), Can.opGntGetTable r s0 = true →
    let s := seen 0x1507 r s0
    let b := tableBytes (activeTable s)
    exec (.opGntGetTable r) s0 = .next (finish s0 (answered 0x1507 r .ok 0 (b ++ le 4 (crc32c b) ++ le 1 (b2n s.gnt.confirmed) ++ le 3 0) s))) ∧
  (∀ (r : Req) (s0 : State), Can.opGntRaise r s0 = true →
    let p := r.payload
    let s := seen 0x150B r s0
    exec (.opGntRaise r) s0 = .next (finish s0 (answered 0x150B r .ok 0 [] (raiseClass 28 0x1507 (u16 p 0) [] s)))) ∧
  (∀ (r : Req) (s0 : State), Can.opGntGetInput r s0 = true →
    let p := r.payload
    let s := seen 0x150C r s0
    let n := u8 p 0
    let x := finput s n
    let c := chop s (n - 48)
    let ch := decide (48 ≤ n)
    let flags := b2n (s.gnt.enable.testBit n) + 2 * b2n x.asserted + 4 * b2n (decide (s.now < x.blankTo)) + 8 * b2n (ch && c.on) +
      16 * b2n (ch && c.inMitten) + 32 * b2n (ch && c.forced)
    let k (o : Nat) : Bytes := le 4 (c32 s 0x150C n o)
    exec (.opGntGetInput r) s0 = .next (finish s0 (answered 0x150C r .ok 0 
                (le 2 flags ++ le 2 0 ++ k 8 ++ k 12 ++ k 16 ++ k 20 ++
          fieldU 1 4 (if ch then (rnd c.e).toNat else 0) ++ le 4 (c32 s 0x150C 0 28)) s)))

/-- Each of FAULT_INPUT_ASSERT, FAULT_INPUT_RELEASE, FAULT_INPUT_RECOGNISED, BLANKING_WINDOW_END, FAULT_RECORD_CLOSE,
MITTEN_N_ASSERT, MITTEN_N_QUALIFIED, MITTEN_N_RELEASE completes: under the conditions that its rules set on the state and
the operands, exec answers the next state with its own effect, a request with its reply besides, and changes nothing else
before the end of the command: a recognised input opens or joins a record and is answered by the reaction table. What of it
rests on a log entry marked DEDUCED, PRESUMED or DESIGN CHOICE is the model's choice and no rule of the spec: the instant of
an event, the packet layer and the end of every command on log entries 2, 6, 7, 8, 9, 13, 20, 21, 22, 23, 41, 46, 58, 63,
68, 80, 89, 91, 102, 115, 118, 124, 151, 155, 172, 173 and 180; FAULT_INPUT_RELEASE, FAULT_INPUT_RECOGNISED,
BLANKING_WINDOW_END besides on 64; MITTEN_N_QUALIFIED besides on 60. -/
def Obligations.GauntletEventsComplete : Prop :=
  (∀ (t : Nat) (i : Nat) (pre : State), Can.faultInputAssert t i pre = true →
    let s := advance t pre
    let x := finput s i
    exec (.faultInputAssert t i) pre = .next (finish pre (
      notePins (setFinput i { x with asserted := true, since := s.now, recognised := false,
                                          inWindow := decide (s.now < x.blankTo), outlived := none } s)))) ∧
  (∀ (t : Nat) (i : Nat) (pre : State),
    let s0 := advance t pre
    let s := recogniseIf i s0
    let x := finput s i
    exec (.faultInputRelease t i) pre = .next (finish pre (
      if ¬ x.asserted then s
      else
        let s1 := notePins (setFinput i { x with asserted := false, recognised := false, inWindow := false, outlived := none } s)
        if x.recognised ∨ ¬ s.gnt.enable.testBit i then s1
        else if x.inWindow ∧ s.now < x.outlived.getD x.blankTo then bump 0x150C i 16 s1 else bump 0x150C i 20 s1))) ∧
  (∀ (t i : Nat) (pre : State), Can.faultInputRecognised t i pre = true →
    let s := advance t pre
    let x := finput s i
    let ref := if x.inWindow then max (x.outlived.getD x.blankTo) (x.since + 8) else x.since
    exec (.faultInputRecognised t i) pre = .next (finish pre (recognise i ref x.inWindow (closeDue s)))) ∧
  (∀ (t : Nat) (i : Nat) (pre : State), Can.blankingWindowEnd t i pre = true →
    let s := advance t pre
    exec (.blankingWindowEnd t i) pre = .next (finish pre (
      recogniseIf i s))) ∧
  (∀ (t : Nat) (pre : State), Can.faultRecordClose t pre = true →
    let s := advance t pre
    ∀ n at_, s.gnt.openRec = some (n, at_) →
    let s1 := { s with gnt := { s.gnt with openRec := none } }
    (∀ r, s.gnt.ring.find? (fun r => r.recNo == n) = some r →
      exec (.faultRecordClose t) pre = .next (finish pre (raise 0x1501 r.cls (le 8 n) (journal 1 r.bytes s1)))) ∧
    (s.gnt.ring.find? (fun r => r.recNo == n) = none → exec (.faultRecordClose t) pre = .next (finish pre s1))) ∧
  (∀ (t : Nat) (pre : State), Can.mittenNAssert t pre = true →
    let s := advance t pre
    exec (.mittenNAssert t) pre = .next (finish pre (
      notePins { s with gnt := { s.gnt with mitLow := some s.now, mitQual := false } }))) ∧
  (∀ (t : Nat) (pre : State), Can.mittenNQualified t pre = true →
    let s := advance t pre
    let s1 := disableAll 2 { s with gnt := { s.gnt with mitQual := true } }
    exec (.mittenNQualified t) pre = .next (finish pre (
      raiseClass 3 0x1502 0 [] (dropLegPending s1)))) ∧
  (∀ (t : Nat) (pre : State),
    let s := advance t pre
    exec (.mittenNRelease t) pre = .next (finish pre (
      notePins { s with gnt := { s.gnt with mitLow := none, mitQual := false } })))

/-- Each of OP_GNT_SET_CHOP, OP_GNT_CHOP_CTRL_RELEASE, OP_GNT_CHOP_CTRL_ENABLE, CHOPPER_SAMPLE, CHOPPER_EDGE,
CHOPPER_ENERGY_UPDATE completes: under the conditions that its rules set on the state and the operands, exec answers the
next state with its own effect, a request with its reply besides, and changes nothing else before the end of the command:
each configures, releases, enables, samples or switches its chopper. What of it rests on a log entry marked DEDUCED,
PRESUMED or DESIGN CHOICE is the model's choice and no rule of the spec: the instant of an event, the packet layer and the
end of every command on log entries 2, 6, 7, 8, 9, 13, 20, 21, 22, 23, 41, 46, 58, 63, 68, 80, 89, 91, 102, 115, 118, 124,
151, 155, 172, 173 and 180. -/
def Obligations.ChoppersComplete : Prop :=
  (∀ (r : Req) (s0 : State), Can.opGntSetChop r s0 = true →
    let p := r.payload
    let s := seen 0x1508 r s0
    let k := u8 p 0
    let src := u16 p 4
    let c := chop s k
    exec (.opGntSetChop r) s0 = .next (finish s0 (answered 0x1508 r .ok 0 [] 
              (chopSettle (setChop k
          { c with written := true, autoRun := (u8 p 1).testBit 0, group := u8 p 2, blankSel := u8 p 3, srcConv := src % 16,
                   srcSel := src / 16, ofsCode := i16 p 6, codeOn := i16 p 8, codeOff := i16 p 10, codeTrip := i16 p 12,
                   minOn := u16 p 14, minOff := u16 p 16, scaleMv := u32 p 20, rMohm := u32 p 24, tauMs := u32 p 28, eHot := u32 p 32,
                   inq := [], tripRun := 0 } s))))) ∧
  (∀ (r : Req) (s0 : State), Can.opGntChopCtrlRelease r s0 = true →
    let p := r.payload
    let s := seen 0x1509 r s0
    exec (.opGntChopCtrlRelease r) s0 = .next (finish s0 (answered 0x1509 r .ok 0 [] (chopSettle (setChop (u8 p 0) { chop s (u8 p 0) with forced := false } s))))) ∧
  (∀ (r : Req) (s0 : State), Can.opGntChopCtrlEnable r s0 = true →
    let p := r.payload
    let s := seen 0x1509 r s0
    exec (.opGntChopCtrlEnable r) s0 = .next (finish s0 (answered 0x1509 r .ok 0 [] (setChop (u8 p 0) { chop s (u8 p 0) with inMitten := false } s)))) ∧
  (∀ (t : Nat) (k : Nat) (pre : State), Can.chopperSample t k pre = true →
    let s := advance t pre
    let c := chop s k
    ∀ inst w rest, c.inq = (inst, w) :: rest →
    exec (.chopperSample t k) pre = .next (finish pre (
      if wInv w ∨ wChk w then setChop k { c with inq := rest } s
      else
        let code := wCode w
        let s1 := chopTrip k code (setChop k { c with inq := rest, code := code } s)
        let x := chop s1 k
        let want := if x.codeOn ≤ code then some true else if code ≤ x.codeOff then some false else none
        match want with
        | some lvl =>
          if chopRegulates s1 k ∧ lvl ≠ x.on ∧ x.edge.isNone then
            setChop k { x with edge := some (lvl, max (inst + 256) (x.changed + (if x.on then x.minOn else x.minOff))) } s1
          else s1
        | none => s1))) ∧
  (∀ (t : Nat) (k : Nat) (pre : State), Can.chopperEdge t k pre = true →
    let s := advance t pre
    ∀ lvl at_, (chop s k).edge = some (lvl, at_) →
    let s1 := setChop k { chop s k with edge := none } s
    exec (.chopperEdge t k) pre = .next (finish pre (
      if chopRegulates s1 k then chopBall k lvl s1 else s1))) ∧
  (∀ (t : Nat) (k : Nat) (pre : State), Can.chopperEnergyUpdate t k pre = true →
    let s := advance t pre
    let c := chop s k
    let v : Rat := ((c.code - c.ofsCode : Int) : Rat) * c.scaleMv / 32768 / 1000
    let e1 := if c.on then c.e + v * v / ((c.rMohm : Rat) / 1000) / 1000000 else c.e
    let e2 := e1 - e1 / 1000 / c.tauMs
    let armed := c.hotArmed || decide (e2 < 3 / 4 * (c.eHot : Rat))
    exec (.chopperEnergyUpdate t k) pre = .next (finish pre (
      if armed ∧ (c.eHot : Rat) < e2 then raiseClass 5 0x1504 k [] (setChop k { c with e := e2, hotArmed := false } s)
      else setChop k { c with e := e2, hotArmed := armed } s)))

/-- Each of OP_ACQ_SET_CONV, OP_ACQ_SET_PAIR, OP_ACQ_CALIBRATE, CALIBRATION_DONE, OP_ACQ_GET_CAL, OP_ACQ_SET_CAL,
OP_ACQ_SAVE_CAL, OP_ACQ_GET_STATUS, TEMP_MONITOR_READ, ACQ_CONVERSION, FAST_WORD_DELIVERED, AUX_WORD_CLOSE completes: under
the conditions that its rules set on the state and the operands, exec answers the next state with its own effect, a request
with its reply besides, and changes nothing else before the end of the command: each configures, calibrates, reads or
converts on the converter it names. What of it rests on a log entry marked DEDUCED, PRESUMED or DESIGN CHOICE is the model's
choice and no rule of the spec: the instant of an event, the packet layer and the end of every command on log entries 2, 6,
7, 8, 9, 13, 20, 21, 22, 23, 41, 46, 58, 63, 68, 80, 89, 91, 102, 115, 118, 124, 151, 155, 172, 173 and 180; OP_ACQ_SET_CONV
besides on 43 and 45; OP_ACQ_SET_PAIR besides on 45; CALIBRATION_DONE besides on 44; OP_ACQ_GET_STATUS besides on 169;
ACQ_CONVERSION, AUX_WORD_CLOSE besides on 38 and 148. -/
def Obligations.AcqComplete : Prop :=
  (∀ (r : Req) (s0 : State), Can.opAcqSetConv r s0 = true →
    let p := r.payload
    let s := seen 0x1601 r s0
    let n := u8 p 0
    let rt := s.sys.state == .run || s.sys.state == .tripped
    let at_ := if rt then none else some (acqAt (s.now + 1))
    exec (.opAcqSetConv r) s0 = .next (finish s0 (answered 0x1601 r .ok 0 [] (setConv n { conv s n with cfgPend := some (convCfgOf p, at_) } s)))) ∧
  (∀ (r : Req) (s0 : State), Can.opAcqSetPair r s0 = true →
    let p := r.payload
    let s := seen 0x1602 r s0
    let k := u8 p 0
    let m := u8 p 1
    let old := pair s k
    let s1 := setPair k { old with mode := m, tol := u16 p 2, n := u16 p 4 } s
    exec (.opAcqSetPair r) s0 = .next (finish s0 (answered 0x1602 r .ok 0 [] (if old.mode = m then s1 else pairChanged k s1)))) ∧
  (∀ (r : Req) (s0 : State), Can.opAcqCalibrate r s0 = true →
    let p := r.payload
    let s := seen 0x1603 r s0
    let m := u32 p 0
    let one (a : State) (n : Nat) : State :=
      if gated a 0x1607 n then gatedAcc a else setConv n { conv a n with calibrating := true, fly := [] } a
    exec (.opAcqCalibrate r) s0 = .next (finish s0 (answered 0x1603 r .accepted 0 [] ((bitsOf 20 m).foldl one s)))) ∧
  (∀ (t : Nat) (results : List CalResult) (pre : State), Can.calibrationDone t results pre = true →
    let s := advance t pre
    let ns := (List.range 20).filter fun n => (conv s n).calibrating
    let s1 := ns.foldl (fun a n => setConv n (calTaken n (results.find? fun c => c.conv == n) (conv a n)) a) s
    exec (.calibrationDone t results) pre = .next (finish pre (
      raise 0x1605 0 (le 4 (calMask s1)) s1))) ∧
  (∀ (r : Req) (s0 : State), Can.opAcqGetCal r s0 = true →
    let s := seen 0x1604 r s0
    exec (.opAcqGetCal r) s0 = .next (finish s0 (answered 0x1604 r .ok 0 ((List.range 20).flatMap fun n => if gated s 0x1607 n then List.replicate 32 0 else calBytes n (conv s n).cal) (((List.range 20).filter (gated s 0x1607)).foldl (fun a _ => gatedAcc a) s)))) ∧
  (∀ (r : Req) (s0 : State), Can.opAcqSetCal r s0 = true →
    let p := r.payload
    let s := seen 0x1605 r s0
    let k := u8 p 0
    let rec_ (i : Nat) : Bytes := bytesAt 32 p (4 + 32 * i)
    let bad (i : Nat) : Option Status :=
      let b := rec_ i
      if u32 b 28 ≠ crc32c (b.take 28) then some .check
      else if 19 < u8 b 0 ∨ u32 b 24 ≠ deviceTag ∨ u8 b 1 / 4 ≠ 0 ∨ u16 b 14 ≠ 0 then some .badParam else none
    let put (a : State) (i : Nat) : State :=
      let b := rec_ i
      let n := u8 b 0
      let c : CalRec := { valid := (u8 b 1).testBit 0, fromLoad := (u8 b 1).testBit 0, tempCal := u16 b 2, offset := i32 b 4,
                          gain := u32 b 8, skew := i16 b 12, lin := bytesAt 8 b 16 }
      if gated a 0x1607 n then gatedAcc a else setConv n { conv a n with cal := c, drift := false } a
    exec (.opAcqSetCal r) s0 = .next (finish s0 (
      match (List.range k).find? fun i => (bad i).isSome with
      | some i => answered 0x1605 r ((bad i).getD .check) i [] s
      | none => answered 0x1605 r .ok 0 [] ((List.range k).foldl put s)))) ∧
  (∀ (r : Req) (s0 : State), Can.opAcqSaveCal r s0 = true →
    let s := seen 0x1606 r s0
    let cal := (List.range 20).foldl
      (fun (t : Tbl CalRec) n => if (conv s n).cal.valid then t.put n (conv s n).cal else t) s.mram.cal
    exec (.opAcqSaveCal r) s0 = .next (finish s0 (answered 0x1606 r .ok 0 [] { s with mram := { s.mram with cal := cal } }))) ∧
  (∀ (r : Req) (s0 : State), Can.opAcqGetStatus r s0 = true →
    let p := r.payload
    let s := seen 0x1607 r s0
    let n := u8 p 0
    let x := conv s n
    let fails := decide (n < 16) && (pair s (n / 2)).lastFail
    let flags := b2n (x.cfg.timing != 0) + 2 * b2n fails + 4 * b2n (!x.run.isEmpty) + 8 * b2n (powered s n) +
      16 * b2n x.calibrating + 32 * b2n x.cal.valid + 64 * b2n (x.cal.valid && x.cal.fromLoad) + 128 * b2n x.drift
    let c (o : Nat) : Bytes := le 4 (c32 s 0x1607 n o)
    exec (.opAcqGetStatus r) s0 = .next (finish s0 (answered 0x1607 r .ok 0 
                (le 2 flags ++ le 1 (pairMode s n) ++ le 1 0 ++ le 8 (c64 s 0x1607 n 8 % 2 ^ 64) ++ c 16 ++ c 20 ++ c 24 ++ c 28 ++
          c 32 ++ c 36 ++ (List.range 8).flatMap fun i => le 4 (if i < (conv s (govern s n)).cfg.seqLen then x.last.getD i 0 else 0)) s))) ∧
  (∀ (t : Nat) (temps : List Nat) (pre : State), Can.tempMonitorRead t temps pre = true →
    let s := advance t pre
    exec (.tempMonitorRead t temps) pre = .next (finish pre (
      (List.range (min 20 temps.length)).foldl
        (fun a n =>
          let x := conv a n
          let d := tempCodeOf n (temps.getD n 0) - (sgn 16 (x.cal.tempCal % 65536) : Rat) / 10
          if x.cal.valid ∧ ¬ x.drift ∧ 40 < |d| then raise 0x1606 n [] (setConv n { x with drift := true } a) else a) s))) ∧
  (∀ (t : Nat) (n : Nat) (pv : Int) (pre : State), Can.acqConversion t n pv pre = true →
    let s := advance t pre
    let x := conv s n
    ∀ i e, convertsAt s n t = some (i, e) →
    let c := (conv s (govern s n)).cfg
    let m := pairMode s n
    let follower := m != 0 && n % 2 == 1
    let y := convert n x e (selOf e) 2 (inputPv e pv) 32768
    let slot := if m = 3 ∧ follower ∧ t % 80 = 0 then t + 40 else t
    let w := fastWord y.code x.count (selOf e) (b2n y.ovr + 2 * b2n y.inv)
    let z := { y.conv with fly := y.conv.fly ++ [(slot, i, w)], code := (t, y.code, y.ovr), entry := (i, e) }
    let z := if follower then z else ledOn t c z
    let s1 := bump64 0x1607 n 8 1 (setConv n z s)
    let s2 := if y.ovr then bump 0x1607 n 16 s1 else s1
    let s3 := if y.big then bump 0x1607 n 20 s2 else s2
    exec (.acqConversion t n pv) pre = .next (finish pre (
      if follower ∧ t % 80 = 0 then comparePair (n / 2) t s3 else s3))) ∧
  (∀ (t : Nat) (n : Nat) (pre : State), Can.fastWordDelivered t n pre = true →
    let s := advance t pre
    ∀ inst i w rest, (conv s n).fly = (inst, i, w) :: rest →
    let m := pairMode s n
    let s1 := wordOut n i w (setConv n { conv s n with fly := rest } s)
    let s2 := s1.chan.keys.foldl (toChan n m inst w) s1
    let s3 := toChain (if m = 1 ∨ m = 3 then 2 * (n / 2) else n) inst w (toChops n inst w s2)
    exec (.fastWordDelivered t n) pre = .next (finish pre (
      pondNote 0 (n + 16 * wSel w) inst w s3))) ∧
  (∀ (t : Nat) (n : Nat) (steps : List Int) (pre : State), Can.auxWordClose t n steps pre = true →
    let s := advance t pre
    let x := conv s n
    let c := x.cfg
    let e := c.seq.getD x.pos 0
    let input := ((steps.reverse.take c.div).map (inputPv e) ++ x.modIn).take (3 * c.div)
    let y := convert n { x with modIn := input } e x.pos 3 (sinc3 c.div input) 8388608
    let z := stepSeq c { y.conv with code := (t, y.code, y.ovr), run := [] }
    let need := if z.pos = x.pos then 0 else stepInv e (c.seq.getD z.pos 0)
    let z := if need = 0 then z else { z with inv := invPut z.inv z.pos need }
    let w := auxWord y.code (selOf e) (b2n y.ovr + 2 * b2n y.inv)
    let s1 := bump64 0x1607 n 8 1 (setConv n z s)
    let s2 := if y.ovr then bump 0x1607 n 16 s1 else s1
    exec (.auxWordClose t n steps) pre = .next (finish pre (
      toChain n t w (wordOut n x.pos w s2))))

/-- Each of OP_FILT_SET_CHAIN, OP_FILT_LOAD_COEF, OP_FILT_APPLY, FILTER_CHANGE_EFFECTIVE, OP_FILT_GET_STATUS,
FILTER_INPUT_WORD, FILTER_OUTPUT_DELIVERED completes: under the conditions that its rules set on the state and the operands,
exec answers the next state with its own effect, a request with its reply besides, and changes nothing else before the end
of the command: each stages, applies, feeds or reads its chain. What of it rests on a log entry marked DEDUCED, PRESUMED or
DESIGN CHOICE is the model's choice and no rule of the spec: the instant of an event, the packet layer and the end of every
command on log entries 2, 6, 7, 8, 9, 13, 20, 21, 22, 23, 41, 46, 58, 63, 68, 80, 89, 91, 102, 115, 118, 124, 151, 155, 172,
173 and 180; OP_FILT_APPLY besides on 45; OP_FILT_GET_STATUS besides on 150; FILTER_INPUT_WORD besides on 42;
FILTER_OUTPUT_DELIVERED besides on 31 and 48. -/
def Obligations.FiltComplete : Prop :=
  (∀ (r : Req) (s0 : State), Can.opFiltSetChain r s0 = true →
    let p := r.payload
    let s := seen 0x1701 r s0
    let n := u8 p 0
    exec (.opFiltSetChain r) s0 = .next (finish s0 (answered 0x1701 r .ok 0 [] (setFchain n { fchain s n with stagedHdr := some p } s)))) ∧
  (∀ (r : Req) (s0 : State), Can.opFiltLoadCoef r s0 = true →
    let p := r.payload
    let s := seen 0x1702 r s0
    let n := u8 p 0
    let start := u16 p 2
    let k := u16 p 4
    let c := (List.range k).foldl (fun (t : Tbl Int) i => t.put (start + i) (i32 p (8 + 4 * i))) (fchain s n).stagedCoef
    exec (.opFiltLoadCoef r) s0 = .next (finish s0 (answered 0x1702 r .ok 0 [] (setFchain n { fchain s n with stagedCoef := c } s)))) ∧
  (∀ (r : Req) (s0 : State), Can.opFiltApply r s0 = true →
    let p := r.payload
    let s := seen 0x1703 r s0
    let n := u8 p 0
    let fade := u16 p 2
    let x := fchain s n
    ∀ h, x.stagedHdr = some h →
    let f := stagedSet x h
    let rt := s.sys.state == .run || s.sys.state == .tripped
    let s1 := setFchain n { x with pend := some (f, fade, rt) } s
    exec (.opFiltApply r) s0 = .next (finish s0 (answered 0x1703 r .accepted 0 [] s1))) ∧
  (∀ (t : Nat) (n : Nat) (pre : State), pre.pwr.inReset = false →
    let s := advance t pre
    exec (.filterChangeEffective t n) pre = .next (finish pre (
      match (fchain s n).pend with
      | some (_, _, true) => if ¬ tbRuns s ∨ s.now % s.sys.tStep ≠ 0 ∨ s.gfm.boundary = s.now then s else applyChange n s
      | some (_, _, false) => if (fchain s n).inq.isEmpty then s else applyChange n s
      | none => s))) ∧
  (∀ (r : Req) (s0 : State), Can.opFiltGetStatus r s0 = true →
    let p := r.payload
    let s := seen 0x1704 r s0
    let n := u8 p 0
    let x := fchain s n
    let f := x.act.getD { hdr := [], coef := [] }
    let flag (w : Option Nat) (f : Nat → Bool) : Nat := b2n ((w.map f).getD false)
    let flags := b2n (f.mode != 0 && arriving s n f.sel) + 2 * flag x.view.fast (fun w => !wInv w) + 4 * b2n x.stagedHdr.isSome +
      8 * flag x.view.fine wInv + 16 * b2n x.fade.isSome +
      32 * b2n x.stale + 64 * b2n f.gdUndef + 128 * b2n f.minphase
    let c (o : Nat) : Bytes := le 4 (c32 s 0x1704 n o)
    let left := match x.fade with | some (_, m, k) => m - k | none => 0
    exec (.opFiltGetStatus r) s0 = .next (finish s0 (answered 0x1704 r .ok 0 
                (le 2 flags ++ le 1 f.mode ++ le 1 f.sel ++ le 4 f.groupDelay ++
          le 4 (kLoad (chainLoad (cfNow s) (pmNow s) false s n)) ++ le 8 (c64 s 0x1704 n 16 % 2 ^ 64) ++ le 8 x.lastTick ++
          le 4 (x.view.fine.getD 0) ++ le 4 (x.view.fast.getD 0) ++ c 40 ++ c 44 ++ c 48 ++ le 2 left ++ le 2 0 ++
          le 4 (kLoad (totalLoad (cfNow s) (pmNow s) false s))) s))) ∧
  (∀ (t : Nat) (n : Nat) (pre : State), Can.filterInputWord t n pre = true →
    let s0 := advance t pre
    ∀ inst w rest, (fchain s0 n).inq = (inst, w) :: rest →
    let s1 := setFchain n { fchain s0 n with inq := rest } s0
    let s := match (fchain s1 n).pend with
      | some (_, _, false) => applyChange n s1
      | _ => s1
    let x := fchain s n
    exec (.filterInputWord t n) pre = .next (finish pre (
      match x.act with
      | none => s
      | some f =>
        if f.mode = 0 ∨ f.sel ≠ wSel w ∨ (conv s (govern s n)).cfg.timing = 0 then s
        else
          let z := takeWord n inst w f x
          let s2 := setFchain n z.2 s
          match z.1 with
          | some (_, true) => raiseFirst 0x1703 n n [] (bump 0x1704 n 44 s2)
          | _ => s2))) ∧
  (∀ (t : Nat) (n : Nat) (pre : State), Can.filterOutputDelivered t n pre = true →
    let s := advance t pre
    let x := fchain s n
    ∀ kind inst w rest, x.fly = (kind, inst, w) :: rest →
    let x := x.show s.now (kind != 0) w
    exec (.filterOutputDelivered t n) pre = .next (finish pre (
      if kind = 0 then pondNote 2 n inst w (setFchain n { x with fly := rest } s)
      else
        let y := { x with fly := rest, lastTick := inst, outs := ((inst, w) :: x.outs).take 16,
                          fade := if kind = 2 then none else x.fade }
        let s1 := bump64 0x1704 n 16 1 (setFchain n y s)
        let s2 := if wInv w then bump 0x1704 n 40 s1 else s1
        let s3 := if kind = 2 then raise 0x1702 (det n 0) [] s2 else s2
        let v : Rat := (wCode24 w : Rat) / (if n < 16 then 256 * 32768 else 8388608)
        corrTake 2 n inst v (wOvr w || wInv w || wChk w) (pondNote 1 n inst w s3))))

/-- Each of OP_POND_SET_CAPTURE, OP_POND_ARM, OP_POND_DISARM, OP_POND_SET_TRIG, OP_POND_TRIGGER, OP_POND_READ, OP_POND_FREE,
OP_POND_LIST, OP_POND_GET_STATUS completes: under the conditions that its rules set on the state and the operands, exec
answers the next state with its own effect, a request with its reply besides, and changes nothing else before the end of the
command: each configures, arms, triggers, reads or frees as its rule says. What of it rests on a log entry marked DEDUCED,
PRESUMED or DESIGN CHOICE is the model's choice and no rule of the spec: the instant of an event, the packet layer and the
end of every command on log entries 2, 6, 7, 8, 9, 13, 20, 21, 22, 23, 41, 46, 58, 63, 68, 80, 89, 91, 102, 115, 118, 124,
151, 155, 172, 173 and 180. -/
def Obligations.PondOpcodesComplete : Prop :=
  (∀ (r : Req) (s0 : State), Can.opPondSetCapture r s0 = true →
    let p := r.payload
    let s := seen 0x1801 r s0
    exec (.opPondSetCapture r) s0 = .next (finish s0 (answered 0x1801 r .ok 0 [] { s with pond := { s.pond with cfg := some p } }))) ∧
  (∀ (r : Req) (s0 : State), Can.opPondArm r s0 = true →
    let s := seen 0x1802 r s0
    ∀ c, s.pond.cfg = some c →
    let s1 := takeSegment (capAt c (s.now + 1))
      (noteBalls { s with pond := { s.pond with armed := true, trigs := [], log := [], lvl := [], decided := s.now } })
    exec (.opPondArm r) s0 = .next (finish s0 (answered 0x1802 r .ok 0 [] (if s.pwr.shedding ∨ ¬ tbRuns s then pondSuspend s1 else s1)))) ∧
  (∀ (r : Req) (s0 : State), Can.opPondDisarm r s0 = true →
    let s := seen 0x1803 r s0
    let s1 := pondStop 0 s
    exec (.opPondDisarm r) s0 = .next (finish s0 (answered 0x1803 r .ok 0 [] { s1 with pond := { s1.pond with armed := false, trigs := [], log := [], lvl := [] } }))) ∧
  (∀ (r : Req) (s0 : State), Can.opPondSetTrig r s0 = true →
    let p := r.payload
    let s := seen 0x1804 r s0
    exec (.opPondSetTrig r) s0 = .next (finish s0 (answered 0x1804 r .ok 0 [] { s with pond := { s.pond with trig := p } }))) ∧
  (∀ (r : Req) (s0 : State), Can.opPondTrigger r s0 = true →
    let s := seen 0x1805 r s0
    exec (.opPondTrigger r) s0 = .next (finish s0 (answered 0x1805 r .ok 0 [] (pondTrig 10 s.now 0 0 s)))) ∧
  (∀ (r : Req) (s0 : State), Can.opPondRead r s0 = true →
    let p := r.payload
    let s := seen 0x1806 r s0
    ∀ x, heldRec s (u64 p 0) = some x →
    exec (.opPondRead r) s0 = .next (finish s0 (answered 0x1806 r .ok 0 ((x.bytes.drop (u32 p 8)).take (u32 p 12)) (updHeld x.recNo (fun y => { y with readTo := s.now + msT 100 }) s)))) ∧
  (∀ (r : Req) (s0 : State), Can.opPondFree r s0 = true →
    let p := r.payload
    let s := seen 0x1807 r s0
    exec (.opPondFree r) s0 = .next (finish s0 (answered 0x1807 r .ok 0 [] (freeRec (u64 p 0) s)))) ∧
  (∀ (r : Req) (s0 : State), Can.opPondList r s0 = true →
    let s := seen 0x1808 r s0
    exec (.opPondList r) s0 = .next (finish s0 (answered 0x1808 r .ok 0 (le 2 s.pond.held.length ++ le 2 0 ++ s.pond.held.flatMap fun x => le 8 x.recNo) s))) ∧
  (∀ (r : Req) (s0 : State), Can.opPondGetStatus r s0 = true →
    let s := seen 0x1809 r s0
    let x := s.pond
    let wait := match streamTo s with | some id => !sessOpenWith s id && !x.held.isEmpty | none => false
    let flags := b2n x.cfg.isSome + 2 * b2n x.armed + 4 * b2n (x.phase == 2) + 8 * b2n (x.phase == 4) + 16 * b2n (x.phase == 5) +
      32 * b2n wait
    let c (o : Nat) : Bytes := le 4 (c32 s 0x1809 0 o)
    exec (.opPondGetStatus r) s0 = .next (finish s0 (answered 0x1809 r .ok 0 (le 2 flags ++ le 2 x.held.length ++ le 8 x.nextRec ++ le 4 x.pre.length ++ c 20 ++ c 24 ++ c 28 ++ c 32) s)))

/-- Each of POND_CAPTURE_FRAME, POND_TRIGGER_INPUT, XTRIG_ASSERT, TRIG_IN_EDGE, XTRIG_DRIVE_END, POND_RECORD_CLOSE,
POND_REARM_END, POND_STREAM_ACKED, POND_READ_HOLD_END completes: under the conditions that its rules set on the state and
the operands, exec answers the next state with its own effect, a request with its reply besides, and changes nothing else
before the end of the command: each captures, triggers, closes or frees as its rule says. What of it rests on a log entry
marked DEDUCED, PRESUMED or DESIGN CHOICE is the model's choice and no rule of the spec: the instant of an event, the packet
layer and the end of every command on log entries 2, 6, 7, 8, 9, 13, 20, 21, 22, 23, 41, 46, 58, 63, 68, 80, 89, 91, 102,
115, 118, 124, 151, 155, 172, 173 and 180; POND_CAPTURE_FRAME besides on 66 and 176; POND_TRIGGER_INPUT, XTRIG_ASSERT
besides on 67. -/
def Obligations.PondEventsComplete : Prop :=
  (∀ (t : Nat) (pre : State), Can.pondCaptureFrame t pre = true →
    let s0 := advance t pre
    ∀ c, s0.pond.cfg = some c →
    let k := t - 1600
    let vals := frameValues s0 k
    let frame := vals.flatMap fun x => le (x.1 / 8) x.2
    let s := levelStep k vals { s0 with pond := { s0.pond with decided := k } }
    let mine := s.pond.trigs.filter fun x => decide (x.2.1 < k + pondPeriod c)
    let rest := s.pond.trigs.filter fun x => decide (k + pondPeriod c ≤ x.2.1)
    let s1 := { s with pond := { s.pond with trigs := rest } }
    exec (.pondCaptureFrame t) pre = .next (finish pre (
      match s.pond.cur with
      | none =>
        if mine = [] then { s1 with pond := { s1.pond with pre := keepLast (pondPre c) (s1.pond.pre ++ [frame]) } }
        else startRecord c k frame mine s1
      | some r =>
        if pondFull s r then s
        else
          let extra := maskOf ((List.range 16).filter fun j => mine.any fun x => x.1 == j)
          let late := b2n (mine.any fun x => decide (x.2.1 < k)) * 2
          { s1 with pond := { s1.pond with cur := some { r with frames := r.frames ++ [frame], extra := r.extra ||| extra,
                                                                flags := r.flags ||| late } } }))) ∧
  (∀ (t : Nat) (source : Nat) (pre : State), pre.pwr.inReset = false →
    let s := advance t pre
    exec (.pondTriggerInput t source) pre = .next (finish pre (
      if source = 1 then xtrigIn t s else if source ≤ 10 then pondTrig source t 0 0 s else s))) ∧
  (∀ (t : Nat) (pre : State), pre.pwr.inReset = false →
    let s := advance t pre
    exec (.xtrigAssert t) pre = .next (finish pre (
      xtrigIn (t - 8) s))) ∧
  (∀ (t : Nat) (i : Nat) (pre : State), Can.trigInEdge t i pre = true →
    let s := advance t pre
    exec (.trigInEdge t i) pre = .next (finish pre (
      pondTrig (2 + i) (t - 8) 0 0 s))) ∧
  (∀ (t : Nat) (pre : State), Can.xtrigDriveEnd t pre = true →
    let s := advance t pre
    exec (.xtrigDriveEnd t) pre = .next (finish pre (
      { s with pond := { s.pond with xDriven := false } }))) ∧
  (∀ (t : Nat) (pre : State), Can.pondRecordClose t pre = true →
    let s := advance t pre
    ∀ r, s.pond.cur = some r →
    let s1 := closePond false r s
    exec (.pondRecordClose t) pre = .next (finish pre (
      s1.pond.trigs.foldl (fun a _ => pondMissed a) { s1 with pond := { s1.pond with phase := 3, rearmAt := s.pond.decided, trigs := [] } }))) ∧
  (∀ (t : Nat) (pre : State), Can.pondRearmEnd t pre = true →
    let s := advance t pre
    exec (.pondRearmEnd t) pre = .next (finish pre (
      takeSegment (capAt (pondCfg s) s.now) s))) ∧
  (∀ (t : Nat) (n : Nat) (pre : State), Can.pondStreamAcked t n pre = true →
    let s := advance t pre
    exec (.pondStreamAcked t n) pre = .next (finish pre (
      freeRec n s))) ∧
  (∀ (t : Nat) (n : Nat) (pre : State), Can.pondReadHoldEnd t n pre = true →
    let s := advance t pre
    exec (.pondReadHoldEnd t n) pre = .next (finish pre (
      updHeld n (fun y => { y with readTo := 0 }) s)))

/-- Each of OP_LANE_SET_QUAD, OP_LANE_SET_CONFIG, OP_LANE_TRAIN, OP_LANE_SLIP, OP_LANE_POWER_SLEEP, OP_LANE_POWER_WAKE,
OP_LANE_PRBS, OP_LANE_GET_STATUS completes: under the conditions that its rules set on the state and the operands, exec
answers the next state with its own effect, a request with its reply besides, and changes nothing else before the end of the
command: each configures, trains, sleeps, wakes, tests or reads its lane or quad. What of it rests on a log entry marked
DEDUCED, PRESUMED or DESIGN CHOICE is the model's choice and no rule of the spec: the instant of an event, the packet layer
and the end of every command on log entries 2, 6, 7, 8, 9, 13, 20, 21, 22, 23, 41, 46, 58, 63, 68, 80, 89, 91, 102, 115,
118, 124, 151, 155, 172, 173 and 180; OP_LANE_SET_QUAD besides on 92 and 93; OP_LANE_SET_CONFIG, OP_LANE_TRAIN besides on
92; OP_LANE_SLIP besides on 94; OP_LANE_PRBS besides on 39 and 92. -/
def Obligations.LaneOpcodesComplete : Prop :=
  (∀ (r : Req) (s0 : State), Can.opLaneSetQuad r s0 = true →
    let p := r.payload
    let s := seen 0x2001 r s0
    let q := u8 p 0
    let m := s.lane.quadTbase
    let m1 := if m.testBit q then m - 2 ^ q else m
    let l := s.lane.qpllLock
    let s1 := dropLanes ((quadLanes q).filter fun n => (lane s n).up) 4 s
    let s2 := if b2n (m.testBit q) = u8 p 1 then s1 else (quadLanes q).foldl (fun a n => endInjectionsOn 1 n a) s1
    exec (.opLaneSetQuad r) s0 = .next (finish s0 (answered 0x2001 r .ok 0 [] 
              { s2 with
          lane := { s2.lane with quadTbase := m1 + u8 p 1 * 2 ^ q, qpllLock := if l.testBit q then l - 2 ^ q else l } }))) ∧
  (∀ (r : Req) (s0 : State), Can.opLaneSetConfig r s0 = true →
    let p := r.payload
    let s := seen 0x2002 r s0
    let n := u8 p 0
    let role := u8 p 1
    let ctrl := u16 p 2
    let x := lane s n
    let s1 := if role = x.role then s else unsleepShed n (endInjectionsOn 1 n (dropLane n 4 s))
    let y := if role = x.role then lane s1 n else { line := x.line }
    let z := { y with role := role, txPol := ctrl.testBit 0, rxPol := ctrl.testBit 1, autoTrain := ctrl.testBit 2,
                      shed := ctrl.testBit 3, txAmp := u8 p 4, txPre := u8 p 5, txPost := u8 p 6, rxEq := u8 p 7,
                      idleAfter := u16 p 8 }
    exec (.opLaneSetConfig r) s0 = .next (finish s0 (answered 0x2002 r .ok 0 [] (shedLane n (setLane n z s1))))) ∧
  (∀ (r : Req) (s0 : State), Can.opLaneTrain r s0 = true →
    let p := r.payload
    let s := seen 0x2003 r s0
    let l := bitsOf 16 (u16 p 0)
    let s1 := dropLanes l 4 s
    let s2 := l.foldl
      (fun a n => setLane n { lane a n with waits := [], waitTo := [], prbsOn := false, prbsGen := 0, prbsChk := 0, prbsLock := false,
                                            loopOpen := false } a) s1
    exec (.opLaneTrain r) s0 = .next (finish s0 (answered 0x2003 r .ok 0 [] (l.foldl (fun a n => startAttempt n a) s2)))) ∧
  (∀ (r : Req) (s0 : State), Can.opLaneSlip r s0 = true →
    let p := r.payload
    let s := seen 0x2004 r s0
    let n := u8 p 0
    let bad (pos k : Nat) : Nat := Config.freeNat (s.draws + 4 * pos + k) % 65
    let pos := if u8 p 1 = 0xFF then (searchSlip bad).getD 65 else u8 p 1
    let e := drawNat { s with draws := s.draws + 264 }
    exec (.opLaneSlip r) s0 = .next (finish s0 (
      if gated s 0x2007 n then
        (answered 0x2004 r .ok 0 [0, 0, 0, 0] (gatedAcc s))
      else
        (answered 0x2004 r .ok 0 (le 1 pos ++ le 1 0 ++ le 2 (e.1 % 257)) (setLane n { lane e.2 n with slip := pos, pos := pos, shErr := e.1 % 257 } e.2))))) ∧
  (∀ (r : Req) (s0 : State), Can.opLanePowerSleep r s0 = true →
    let p := r.payload
    let s := seen 0x2005 r s0
    let n := u8 p 0
    let s1 := if (u8 p 1).testBit 0 then unsleepShed n (txSleepNow n s) else s
    exec (.opLanePowerSleep r) s0 = .next (finish s0 (answered 0x2005 r .ok 0 [] (if (u8 p 1).testBit 1 ∧ (lane s1 n).role ≠ 0 then setLane n { lane s1 n with rxSleep := true, rxWake := none } s1 else s1)))) ∧
  (∀ (r : Req) (s0 : State), Can.opLanePowerWake r s0 = true →
    let p := r.payload
    let s := seen 0x2005 r s0
    let n := u8 p 0
    let s1 := if (u8 p 1).testBit 0 then unsleepShed n (txWakeNow n s) else s
    exec (.opLanePowerWake r) s0 = .next (finish s0 (answered 0x2005 r .ok 0 [] (if (u8 p 1).testBit 1 then rxWakeNow n s1 else s1)))) ∧
  (∀ (r : Req) (s0 : State), Can.opLanePrbs r s0 = true →
    let p := r.payload
    let s := seen 0x2006 r s0
    let n := u8 p 0
    let s1 := dropLane n 4 s
    let x := lane s1 n
    let same := x.prbsOn && x.prbsGen == u8 p 1
    let kept := x.prbsOn && x.prbsChk == u8 p 2 && x.prbsLoop == u8 p 3
    exec (.opLanePrbs r) s0 = .next (finish s0 (answered 0x2006 r .ok 0 [] 
              (setLane n { x with prbsGen := u8 p 1, prbsChk := u8 p 2, prbsLoop := u8 p 3, prbsInj := u8 p 4, prbsRate := u8 p 5,
                                  prbsOn := true, prbsReg := if same then x.prbsReg else laneStart (u8 p 1),
                                  prbsSent := if same then x.prbsSent else 0,
                                  prbsFlip := (if same then x.prbsFlip else 0) + b2n (u8 p 4 == 1),
                                  prbsLock := kept && x.prbsLock, chkReg := if kept then x.chkReg else 0,
                                  chkRun := if kept then x.chkRun else 0, chkErrs := if kept then x.chkErrs else 0 } s1)))) ∧
  (∀ (r : Req) (s0 : State), Can.opLaneGetStatus r s0 = true →
    let p := r.payload
    let s := seen 0x2007 r s0
    let n := u8 p 0
    let x := lane s n
    exec (.opLaneGetStatus r) s0 = .next (finish s0 (answered 0x2007 r .ok 0 
                (le 2 (laneFlags s n) ++ le 1 (laneState x) ++ le 1 x.role ++ le 1 x.ver ++ le 1 x.slip ++ le 2 x.reach ++
          le 8 (c64 s 0x2007 n 12) ++ le 8 (c64 s 0x2007 n 20) ++ le 8 (c64 s 0x2007 n 28) ++ le 4 (c32 s 0x2007 n 36) ++
          le 4 (c32 s 0x2007 n 40) ++ le 4 (c32 s 0x2007 n 44) ++ le 4 (c32 s 0x2007 n 48) ++ le 4 (c32 s 0x2007 n 52) ++
          le 4 (c32 s 0x2007 n 56) ++ le 4 (nextTryMs s x)) s)))

/-- Each of LANE_TRAIN_ATTEMPT_START, LANE_TRAIN_STATE_ADVANCE, LANE_TRAIN_TIMEOUT, LANE_RETRY_WAIT_END,
TRAIN_BLOCK_RECEIVED, ALIGN_SEARCH_STEP, HOP_DELAY_MEASURED, RX_SIGNAL_DETECT, EXIT_BURST_RECEIVED completes: under the
conditions that its rules set on the state and the operands, exec answers the next state with its own effect, a request with
its reply besides, and changes nothing else before the end of the command: each moves the training of its lane as its rule
says. What of it rests on a log entry marked DEDUCED, PRESUMED or DESIGN CHOICE is the model's choice and no rule of the
spec: the instant of an event, the packet layer and the end of every command on log entries 2, 6, 7, 8, 9, 13, 20, 21, 22,
23, 41, 46, 58, 63, 68, 80, 89, 91, 102, 115, 118, 124, 151, 155, 172, 173 and 180; TRAIN_BLOCK_RECEIVED besides on 170;
HOP_DELAY_MEASURED besides on 101. -/
def Obligations.LaneTrainingComplete : Prop :=
  (∀ (t : Nat) (n : Nat) (pre : State), Can.laneTrainAttemptStart t n pre = true →
    let s := advance t pre
    exec (.laneTrainAttemptStart t n) pre = .next (finish pre (
      startAttempt n s))) ∧
  (∀ (t : Nat) (n : Nat) (pre : State), Can.laneTrainStateAdvance t n pre = true →
    let s := advance t pre
    let x := lane s n
    let go (st : Nat) : State := setLane n { x with st := st, stateAt := s.now } s
    exec (.laneTrainStateAdvance t n) pre = .next (finish pre (
      match x.st with
      | 1 => if s.lane.qpllLock.testBit (n / 4) then equalise n (go 2) else s
      | 2 =>
        if x.good < 4 then s
        else ownBlock n (trainBlock 1 0x23 x.hop ((listedAt s n x.hop).getD 0xFFF))
          (setLane n { x with st := 3, stateAt := s.now, shWin := 0, shBad := 0 } s)
      | 3 => if x.heard.isNone then s else if bonded x.role then go 4 else echoStart n x.hop (go 5)
      | 4 => if x.deskew then echoStart n x.hop (go 5) else s
      | _ => s))) ∧
  (∀ (t : Nat) (n : Nat) (pre : State), Can.laneTrainTimeout t n pre = true →
    let s := advance t pre
    exec (.laneTrainTimeout t n) pre = .next (finish pre (
      failAttempt n 1 false s))) ∧
  (∀ (t : Nat) (n : Nat) (pre : State), Can.laneRetryWaitEnd t n pre = true →
    let s := advance t pre
    exec (.laneRetryWaitEnd t n) pre = .next (finish pre (
      startAttempt n s))) ∧
  (∀ (t : Nat) (n : Nat) (block : List Byte) (pre : State), Can.trainBlockReceived t n block pre = true →
    let s := advance t pre
    exec (.trainBlockReceived t n block) pre = .next (finish pre (
      trainIn n block (rxValid n 1 s)))) ∧
  (∀ (t : Nat) (n : Nat) (bad : Nat) (pre : State), Can.alignSearchStep t n bad pre = true →
    let s := advance t pre
    let x := lane s n
    exec (.alignSearchStep t n bad) pre = .next (finish pre (
      if bad = 0 then setLane n { x with good := x.good + 1, slip := x.pos, shErr := 0 } s
      else if x.pos = 65 then failAttempt n 1 false (setLane n { x with shErr := bad } s)
      else setLane n { x with pos := x.pos + 1, good := 0, slip := x.pos + 1, shErr := bad } s))) ∧
  (∀ (t : Nat) (n : Nat) (delays : List Nat) (pre : State), pre.pwr.inReset = false →
    let s := advance t pre
    let x := lane s n
    let o := offsetOf (delays.take x.echoNext)
    let rises (h : Nat) : Bool := match o, offsetBefore s n h with
      | some a, some b => decide (b < a)
      | some _, none => true
      | none, _ => false
    exec (.hopDelayMeasured t n delays) pre = .next (finish pre (
      if x.training ∧ x.st = 5 then (if rises x.hop ∧ x.echoFor = some x.hop then hopUp n o s else failAttempt n 1 false s)
      else if x.training then s
      else
        match farHop s n with
        | none => s
        | some h =>
          if ¬ rises h ∨ x.echoFor ≠ some h then s
          else
            match listedAt s n h with
            | none => s
            | some id =>
              let c := cell s id
              let up := upperHead s n
              let s1 := setCell id { c with ofsL := (if up then c.ofsL else o), ofsU := (if up then o else c.ofsU),
                                            heads := c.heads ||| (if up then 2 else 1), gone := false,
                                            setDue := some (c.setDue == some true) } (setLane n { x with echoFor := none } s)
              farEcho n (recomputeD n s1)))) ∧
  (∀ (t : Nat) (n : Nat) (pre : State), Can.rxSignalDetect t n pre = true →
    let s := advance t pre
    exec (.rxSignalDetect t n) pre = .next (finish pre (
      rxWakeNow n s))) ∧
  (∀ (t : Nat) (n : Nat) (pre : State), Can.exitBurstReceived t n pre = true →
    let s := advance t pre
    exec (.exitBurstReceived t n) pre = .next (finish pre (
      setLane n { lane s n with rxIdle := false } s)))

/-- Each of LANE_DROP, LANE_SIGNAL_LOSS, QUAD_PLL_LOSS, QUAD_PLL_RELOCK, BOND_LANE_REJOIN, BOND_MARKER_TX,
ELECTRICAL_IDLE_ENTRY, ELECTRICAL_IDLE_EXIT, CONTROL_BLOCK_RECEIVED, LANE_FRAME_TRANSMIT, LANE_WAKE_DONE, PRBS_LOCK_LOSS
completes: under the conditions that its rules set on the state and the operands, exec answers the next state with its own
effect, a request with its reply besides, and changes nothing else before the end of the command: each acts on its lane,
bond or quad as its rule says. What of it rests on a log entry marked DEDUCED, PRESUMED or DESIGN CHOICE is the model's
choice and no rule of the spec: the instant of an event, the packet layer and the end of every command on log entries 2, 6,
7, 8, 9, 13, 20, 21, 22, 23, 41, 46, 58, 63, 68, 80, 89, 91, 102, 115, 118, 124, 151, 155, 172, 173 and 180; LANE_DROP,
LANE_SIGNAL_LOSS, QUAD_PLL_LOSS besides on 92; BOND_MARKER_TX, LANE_FRAME_TRANSMIT besides on 95; CONTROL_BLOCK_RECEIVED
besides on 92, 96, 97, 154, 170, 193 and 195. -/
def Obligations.LaneEventsComplete : Prop :=
  (∀ (t : Nat) (n : Nat) (cause : Nat) (pre : State), Can.laneDrop t n cause pre = true →
    let s := advance t pre
    let x := lane s n
    exec (.laneDrop t n cause) pre = .next (finish pre (
      dropLane n cause (if cause = 2 ∧ x.up then bumpN 0x2007 n 40 (16 - x.shBad) s else s)))) ∧
  (∀ (t : Nat) (n : Nat) (pre : State), Can.laneSignalLoss t n pre = true →
    let s := advance t pre
    exec (.laneSignalLoss t n) pre = .next (finish pre (
      dropLane n 1 s))) ∧
  (∀ (t quad : Nat) (pre : State), Can.quadPllLoss t quad pre = true →
    let s := advance t pre
    let s1 := { s with lane := { s.lane with qpllLock := s.lane.qpllLock - 2 ^ quad } }
    exec (.quadPllLoss t quad) pre = .next (finish pre (raise 0x2006 quad [] (dropLanes (quadLanes quad) 3 s1)))) ∧
  (∀ (t : Nat) (quad : Nat) (pre : State), Can.quadPllRelock t quad pre = true →
    let s := advance t pre
    let s1 := { s with lane := { s.lane with qpllLock := s.lane.qpllLock + 2 ^ quad } }
    exec (.quadPllRelock t quad) pre = .next (finish pre (
      if s1.sys.state = .boot then s1
      else (quadLanes quad).foldl
        (fun a n =>
          if (lane a n).autoTrain ∧ ¬ (lane a n).up then
            let b := failAttempt n 1 false a
            let x := lane b n
            startAttempt n (setLane n { x with waitTo := Tbl.del (hopAt b n x.reach) x.waitTo } b)
          else a)
        s1))) ∧
  (∀ (t : Nat) (pair : Nat) (pre : State), Can.bondLaneRejoin t pair pre = true →
    let s := advance t pre
    exec (.bondLaneRejoin t pair) pre = .next (finish pre (
      rejoinPair pair s))) ∧
  (∀ (t : Nat) (pair : Nat) (pre : State), Can.bondMarkerTx t pair pre = true →
    let s := advance t pre
    exec (.bondMarkerTx t pair) pre = .next (finish pre (
      if joinsNow s pair then rejoinPair pair s
      else
        let s := if (bond s pair).odd ∧ (bond s pair).lost.isNone ∧ pairUp s pair ∧ ¬ (txLanes s (2 * pair)).any (fun m => (lane s m).txSleep) then sendBlock 0 (2 * pair) s else s
        let x := bond s pair
        let one (n : Nat) (a : State) : State :=
          let y := lane a n
          let degraded := x.lost.isSome && x.lost != some n
          if y.up ∧ x.lost ≠ some n ∨ y.training ∧ 4 ≤ y.st then ownBlock n (markerBlock n x.markerCnt degraded false) a else a
        setBond pair { x with markerCnt := (x.markerCnt + 1) % 2 ^ 24, markAt := some s.now } (one (2 * pair + 1) (one (2 * pair) s))))) ∧
  (∀ (t : Nat) (n : Nat) (pre : State), Can.electricalIdleEntry t n pre = true →
    let s := advance t pre
    let s1 := ownBlock n (ctlBlock 0x2D 0) s
    exec (.electricalIdleEntry t n) pre = .next (finish pre (
      setLane n { lane s1 n with eidle := true, eidleSince := s1.now } s1))) ∧
  (∀ (t : Nat) (n : Nat) (pre : State), Can.electricalIdleExit t n pre = true →
    let s := advance t pre
    let x := lane s n
    let s1 := setLane n (Lane.sent { x with eidle := false, idleRun := 0 } exitBurst) s
    exec (.electricalIdleExit t n) pre = .next (finish pre (
      if (lane s (queueLane s n)).queue.isEmpty then (List.range 16).foldl (fun a _ => ownBlock n idleBlock a) s1 else s1))) ∧
  (∀ (t : Nat) (n : Nat) (block : CodeBlock) (pre : State), pre.pwr.inReset = false →
    let s := advance t pre
    let y := lane s n
    let b := rxBlock y block
    exec (.controlBlockReceived t n block) pre = .next (finish pre (
      if n ≤ 15 ∧ y.prbsOn ∧ y.prbsLoop = 0 ∧ y.role ≠ 0 ∧ ¬ y.rxSleep then prbsIn n b.2 s
      else if ¬ hears s n then s
      else if b.1 ≠ 1 ∧ b.1 ≠ 2 then rxInvalid n s
      else if b.1 = 1 then dataIn n b.2 (rxValid n 1 s)
      else
        let s1 := rxValid n 1 s
        let x := lane s1 n
        match u8 b.2 0 with
        | 0x33 => trainIn n b.2 s1
        | 0x2D => setLane n { x with rxIdle := true } s1
        | 0x4C => setLane n { x with rxFarSleep := true } s1
        | 0x78 => startIn n b.2 s1
        | 0xE1 => termIn n b.2 s1
        | 0x1E => setLane n { x with rxFarSleep := false } s1
        | 0x4B => markerIn n b.2 (setLane n { x with rxFarSleep := false } s1)
        | 0x96 => suspIn n true s1
        | 0xA5 => suspIn n false s1
        | _ => badBlock n s1))) ∧
  (∀ (t : Nat) (n : Nat) (blocks : Nat) (pre : State), Can.laneFrameTransmit t n blocks pre = true →
    let s := advance t pre
    let x := lane s n
    let k := List.range (min blocks 4096)
    exec (.laneFrameTransmit t n blocks) pre = .next (finish pre (
      if x.prbsOn then k.foldl (fun a _ => prbsOut n a) s
      else k.foldl (fun a i => laneSlot i n a) s))) ∧
  (∀ (t : Nat) (n : Nat) (pre : State), Can.laneWakeDone t n pre = true →
    let s := advance t pre
    let x := lane s n
    let ended (w : Option Nat) : Bool := match w with | some e => due s e | none => false
    exec (.laneWakeDone t n) pre = .next (finish pre (
      setLane n { x with txSleep := x.txSleep && !ended x.txWake, txWake := if ended x.txWake then none else x.txWake,
                              rxSleep := x.rxSleep && !ended x.rxWake, rxWake := if ended x.rxWake then none else x.rxWake } s))) ∧
  (∀ (t : Nat) (n : Nat) (pre : State), Can.prbsLockLoss t n pre = true →
    let s := advance t pre
    let x := lane s n
    let d := drawNat (setLane n { x with prbsLock := false, chkRun := 0, chkErrs := 0 } s)
    exec (.prbsLockLoss t n) pre = .next (finish pre (
      raise 0x2007 n [] (bumpN 0x2007 n 36 (16 + d.1 % 49) (bump64 0x2007 n 28 64 d.2)))))

/-- Each of OP_STRAND_SET_CONFIG, OP_STRAND_NODE_CLEAR, OP_STRAND_GET_STATUS, OP_STRAND_GET_CELL, TELEMETRY_CYCLE_BOUNDARY,
NODE_SET_TX, NODE_SET_ACK_TIMEOUT, NODE_ACK_RECEIVED, TELEMETRY_RECEIVED, FAULT_FRAME_RECEIVED completes: under the
conditions that its rules set on the state and the operands, exec answers the next state with its own effect, a request with
its reply besides, and changes nothing else before the end of the command: each acts on its strand or cell as its rule says.
What of it rests on a log entry marked DEDUCED, PRESUMED or DESIGN CHOICE is the model's choice and no rule of the spec: the
instant of an event, the packet layer and the end of every command on log entries 2, 6, 7, 8, 9, 13, 20, 21, 22, 23, 41, 46,
58, 63, 68, 80, 89, 91, 102, 115, 118, 124, 151, 155, 172, 173 and 180; TELEMETRY_CYCLE_BOUNDARY besides on 179 and 183;
NODE_ACK_RECEIVED, TELEMETRY_RECEIVED, FAULT_FRAME_RECEIVED besides on 96, 97, 154 and 195. -/
def Obligations.StrandsComplete : Prop :=
  (∀ (r : Req) (s0 : State), Can.opStrandSetConfig r s0 = true →
    let p := r.payload
    let s := seen 0x2101 r s0
    let n := u8 p 0
    let x := strand s n
    let y := { x with dAuto := (u8 p 1).testBit 0, autoRejoin := (u8 p 1).testBit 1, watch := u16 p 2, d := u32 p 4,
                      dMargin := u16 p 8, tlmOfs := u16 p 10 }
    let s1 := recomputeD n (setStrand n y s)
    exec (.opStrandSetConfig r) s0 = .next (finish s0 (answered 0x2101 r .ok 0 [] (if y.watch = x.watch ∨ strandOf s1 n ≠ n then s1 else (cellsOn s1 n).foldl (fun a id => dueSet id false a) s1)))) ∧
  (∀ (r : Req) (s0 : State), Can.opStrandNodeClear r s0 = true →
    let p := r.payload
    let s := seen 0x2102 r s0
    let id := u16 p 0
    exec (.opStrandNodeClear r) s0 = .next (finish s0 (answered 0x2102 r .accepted 0 [] (setCell id { cell s id with setDue := some true, rejoin := true, byHost := true } s)))) ∧
  (∀ (r : Req) (s0 : State), Can.opStrandGetStatus r s0 = true →
    let p := r.payload
    let s := seen 0x2103 r s0
    let k := u8 p 0
    let n := strandOf s k
    let x := strand s n
    exec (.opStrandGetStatus r) s0 = .next (finish s0 (answered 0x2103 r .ok 0 
                (le 2 (strandFlags s n) ++ le 2 (nodesUp s n) ++ le 2 ((cellsOn s n).filter (usable s)).length ++ le 2 0 ++
          le 4 x.dNow ++ le 4 (rnd x.ls).toNat ++ le 8 (c64 s 0x2103 n 20) ++ le 8 (c64 s 0x2103 n 28) ++
          le 4 (c32 s 0x2103 n 36) ++ le 4 (c32 s 0x2103 n 40) ++ le 4 (c32 s 0x2103 n 44) ++ le 4 (c32 s 0x2103 n 48) ++
          le 4 (c32 s 0x2103 n 52) ++ le 4 (c32 s 0x2103 n 56) ++ le 4 (c32 s 0x2103 n 60) ++ le 4 (c32 s 0x2103 n 64)) s))) ∧
  (∀ (r : Req) (s0 : State), Can.opStrandGetCell r s0 = true →
    let p := r.payload
    let s := seen 0x2104 r s0
    let id := u16 p 0
    let c := cell s id
    exec (.opStrandGetCell r) s0 = .next (finish s0 (answered 0x2104 r .ok 0 
                (ofsField c.ofsL ++ ofsField c.ofsU ++ le 4 (rnd (latency s id)).toNat ++
          le 2 (b2n (usable s id) + 2 * b2n c.dShort + 4 * b2n c.mismatch + 8 * b2n c.cfgFail) ++ le 2 0 ++ le 8 c.tlmTick ++
          fit 32 c.tlm) s))) ∧
  (∀ (t : Nat) (pre : State), Can.telemetryCycleBoundary t pre = true →
    let s := advance t pre
    let hs := (List.range 16).filter fun n => (lane s n).up && ((lane s n).role == 1 || (lane s n).role == 2)
    let s1 := hs.foldl
      (fun a n => laneSend n { cls := 2, bytes := syncFrame (8 * twinTime a a.now) (upperHead a n), first := true } a) s
    let s2 := ((s1.part.entry.filter fun e => e.2.type == 1).map Prod.fst).foldl (fun a id => staleCheck id a) s1
    let lists (e : Nat × Arm) : Nat × Arm := (e.1, { e.2 with order := rebuildArm s2 e.1 })
    let s3 : State := { s2 with arm := s2.arm.map lists }
    let means := s3.arm.keys.foldl
      (fun (m : Tbl Rat) a => match socMeanOf s3 a with | some q => m.put a q | none => m) s3.gfm.socMean
    exec (.telemetryCycleBoundary t) pre = .next (finish pre (
      splitEpoch { s3 with gfm := { s3.gfm with socMean := means } }))) ∧
  (∀ (t : Nat) (id : Nat) (pre : State), pre.pwr.inReset = false →
    let s := advance t pre
    exec (.nodeSetTx t id) pre = .next (finish pre (
      (nodeSetSend id) s))) ∧
  (∀ (t : Nat) (id : Nat) (pre : State), Can.nodeSetAckTimeout t id pre = true →
    let s := advance t pre
    let c := cell s id
    ∀ f n e, c.setPend = some (f, n, e) →
    exec (.nodeSetAckTimeout t id) pre = .next (finish pre (
      if n < 3 then nodeSetOut id f (setCell id { c with setPend := some (f, n + 1, s.now + usT 100) } s)
      else updStrand (cellStrand s id) (raise 0x2108 id [] (setCell id { c with setPend := none, cfgFail := true, acked := false } s))))) ∧
  (∀ (t : Nat) (n : Nat) (frame : List Byte) (pre : State), pre.pwr.inReset = false →
    let s := advance t pre
    exec (.nodeAckReceived t n frame) pre = .next (finish pre (
      (laneFrame n 5 frame) s))) ∧
  (∀ (t : Nat) (n : Nat) (frame : List Byte) (pre : State), pre.pwr.inReset = false →
    let s := advance t pre
    exec (.telemetryReceived t n frame) pre = .next (finish pre (
      (laneFrame n 6 frame) s))) ∧
  (∀ (t : Nat) (n : Nat) (frame : List Byte) (pre : State), pre.pwr.inReset = false →
    let s := advance t pre
    exec (.faultFrameReceived t n frame) pre = .next (finish pre (
      (laneFrame n 3 frame) s)))

/-- Each of NODE_COMMAND_RECEIVED, NODE_EVENT_EXECUTE, NODE_SYNC_RECEIVED, NODE_SYNC_TIMEOUT, NODE_SET_RECEIVED,
NODE_TELEMETRY_SLOT, NODE_FAULT_DETECT, NODE_WATCH_EXPIRY, NODE_ECHO_REQUEST, NODE_BLOCK_FORWARD, NODE_POWER_UP completes:
under the conditions that its rules set on the state and the operands, exec answers the next state with its own effect, a
request with its reply besides, and changes nothing else before the end of the command: each changes its node alone. What of
it rests on a log entry marked DEDUCED, PRESUMED or DESIGN CHOICE is the model's choice and no rule of the spec: the instant
of an event, the packet layer and the end of every command on log entries 2, 6, 7, 8, 9, 13, 20, 21, 22, 23, 41, 46, 58, 63,
68, 80, 89, 91, 102, 115, 118, 124, 151, 155, 172, 173 and 180; NODE_COMMAND_RECEIVED besides on 99 and 152;
NODE_EVENT_EXECUTE, NODE_SYNC_TIMEOUT, NODE_SET_RECEIVED, NODE_TELEMETRY_SLOT, NODE_FAULT_DETECT, NODE_WATCH_EXPIRY besides
on 152; NODE_SYNC_RECEIVED besides on 152 and 153; NODE_ECHO_REQUEST besides on 152 and 170; NODE_BLOCK_FORWARD besides on
39, 152, 170 and 171; NODE_POWER_UP besides on 98. -/
def Obligations.NodesComplete : Prop :=
  (∀ (t : Nat) (n : Nat) (port : Nat) (cmd : CmdFrame) (pre : State), Can.nodeCommandReceived t n port cmd pre = true →
    let s := advance t pre
    ∀ x0, Tbl.find n s.node = some x0 →
    let x := ((x0.settleBridges s.now).portLimits s.now 0).portLimits s.now 1
    let frame := cmd.bytes
    exec (.nodeCommandReceived t n port cmd) pre = .next (finish pre (
      let y := (
        if frame.length ≠ (if cmd.v12 then 16 else 32) then { x with badFrame := x.badFrame + 1 }
        else if crc32c (frame.take (frame.length - 4)) ≠ u32 frame (frame.length - 4) then { x with chkErr := x.chkErr + 1 }
        else
          let y := x.heard s.now port
          let c := parseCommand y frame
          if ¬ y.configured ∨ ¬ y.timeValid ∨ ¬ forNode y c then y else takeCommand s.now (y.time s.now) c y)
      setNode n ((y.ownSlots s.now 0).ownSlots s.now 1) s))) ∧
  (∀ (t : Nat) (n : Nat) (pre : State), Can.nodeEventExecute t n pre = true →
    let s := advance t pre
    ∀ x0, Tbl.find n s.node = some x0 →
    let x := ((x0.settleBridges s.now).portLimits s.now 0).portLimits s.now 1
    let now := x.time s.now
    let y := (x.queue.filter fun e => decide (e.at_ ≤ now)).foldl (fun (a : Node) e => a.obey s.now e.state) x
    exec (.nodeEventExecute t n) pre = .next (finish pre (
      let y := (
        ({ y with queue := x.queue.filter fun e => !decide (e.at_ ≤ now) } : Node).settle s.now)
      setNode n ((y.ownSlots s.now 0).ownSlots s.now 1) s))) ∧
  (∀ (t : Nat) (n : Nat) (port : Nat) (frame : List Byte) (pre : State), Can.nodeSyncReceived t n port frame pre = true →
    let s := advance t pre
    ∀ x0, Tbl.find n s.node = some x0 →
    let x := ((x0.settleBridges s.now).portLimits s.now 0).portLimits s.now 1
    exec (.nodeSyncReceived t n port frame) pre = .next (finish pre (
      let y := (
        if frame.length ≠ 16 then { x with badFrame := x.badFrame + 1 }
        else if crc32c (frame.take 12) ≠ u32 frame 12 then { x with chkErr := x.chkErr + 1 }
        else
          let y := x.heard s.now port
          let upper := (u8 frame 9).testBit 1
          match (if (u8 frame 9).testBit 0 then none else if upper then y.ofsU else y.ofsL) with
          | none => y
          | some o =>
            let err : Int := ((8 * u64 frame 0 + u8 frame 8 + o : Nat) : Int) - y.fine s.now
            let run := if |err| ≤ 25 then y.syncRun + 1 else 0
            let past := s.now - y.refAt
            let rate := if 0 < max y.syncL y.syncU ∧ 0 < past then y.rate + (err : Rat) / (8 * past) else y.rate
            { y with phase := y.fine s.now + err - 8 * (s.now : Int), rate := rate, refAt := s.now, align := err, syncRun := run,
                     timeValid := y.timeValid || decide (16 ≤ run),
                     syncL := if upper then y.syncL else s.now, syncU := if upper then s.now else y.syncU })
      setNode n ((y.ownSlots s.now 0).ownSlots s.now 1) s))) ∧
  (∀ (t : Nat) (n : Nat) (pre : State), Can.nodeSyncTimeout t n pre = true →
    let s := advance t pre
    ∀ x0, Tbl.find n s.node = some x0 →
    let x := ((x0.settleBridges s.now).portLimits s.now 0).portLimits s.now 1
    let y := if due s (max x.syncL x.syncU + 8 * 32000) then { x with timeValid := false, syncRun := 0 } else x
    let mine := if y.head = 1 then y.syncU else y.syncL
    let other := if y.head = 1 then y.ofsL else y.ofsU
    exec (.nodeSyncTimeout t n) pre = .next (finish pre (
      let y := (
        if due s (mine + 3 * 32000) ∧ other.isSome then { y with head := 1 - y.head } else y)
      setNode n ((y.ownSlots s.now 0).ownSlots s.now 1) s))) ∧
  (∀ (t : Nat) (n : Nat) (port : Nat) (frame : List Byte) (pre : State), Can.nodeSetReceived t n port frame pre = true →
    let s := advance t pre
    ∀ x0, Tbl.find n s.node = some x0 →
    let x := ((x0.settleBridges s.now).portLimits s.now 0).portLimits s.now 1
    exec (.nodeSetReceived t n port frame) pre = .next (finish pre (
      let y := (
        if frame.length ≠ 24 then { x with badFrame := x.badFrame + 1 }
        else if crc32c (frame.take 20) ≠ u32 frame 20 then { x with chkErr := x.chkErr + 1 }
        else
          let y := x.heard s.now port
          if u16 frame 0 % 4096 ≠ y.id then y
          else if ¬ nodeSetOk y frame then y.send y.head 5 (nodeAck y 1 frame)
          else
            let clear := u8 frame 17 == 1
            let z : Node := { y with slot := u16 frame 2, ofsL := nodeOfs (u32 frame 4), ofsU := nodeOfs (u32 frame 8), watch := u16 frame 12,
                                     safe := u8 frame 14, arm := u8 frame 15, head := u8 frame 16, configured := true, uni := none,
                                     bcast := none, safeOwn := y.safeOwn && !clear, linkLost := y.linkLost && !clear }
            let w := if y.configured ∨ z.safeOwn then z else z.enter s.now z.safeState
            w.send w.head 5 (nodeAck w 0 frame))
      setNode n ((y.ownSlots s.now 0).ownSlots s.now 1) s))) ∧
  (∀ (t : Nat) (n : Nat) (pre : State), Can.nodeTelemetrySlot t n pre = true →
    let s := advance t pre
    ∀ x, Tbl.find n s.node = some x →
    let now := x.time s.now
    let cycle := if x.configured then slotCycle s x else some ((now / 32000 : Nat) : Int)
    ∀ k, cycle = some k →
    let c := k.toNat
    let m := (List.range 4).map fun i => Config.freeNat (s.draws + i) % 65536
    let y := if x.configured then ({ x with lateFlag := false } : Node).send x.head 6 (telemetryFrame x (c % 65536) m) else x
    let z := if x.safeOwn ∧ c % 2 = 0 then y.sendAll 3 (faultFrame x) else y
    let w : Node := { z with tlmCycle := some c }
    exec (.nodeTelemetrySlot t n) pre = .next (finish pre (
      setNode n ((w.ownSlots s.now 0).ownSlots s.now 1) { s with draws := s.draws + 4 }))) ∧
  (∀ (t : Nat) (n : Nat) (fault : Nat) (pre : State), Can.nodeFaultDetect t n fault pre = true →
    let s := advance t pre
    ∀ x, Tbl.find n s.node = some x →
    let f := fault % 512
    exec (.nodeFaultDetect t n fault) pre = .next (finish pre (
      if f = 0 ∨ f &&& x.fault = f then setNode n { x with fault := f } s
      else
        let d := drawNat s
        let y := ({ x with fault := f, faultAt := x.time s.now, safeOwn := true, queue := [] } : Node).enter s.now (if d.1 % 2 = 1 ∧ x.bypass then 5 else 0)
        let z := y.sendAll 3 (faultFrame y)
        setNode n ((z.ownSlots s.now 0).ownSlots s.now 1) d.2))) ∧
  (∀ (t : Nat) (n : Nat) (pre : State), Can.nodeWatchExpiry t n pre = true →
    let s := advance t pre
    ∀ x0, Tbl.find n s.node = some x0 →
    let x := ((x0.settleBridges s.now).portLimits s.now 0).portLimits s.now 1
    let y := { x with up := { x.up with beyond := none }, down := { x.down with beyond := none } }
    exec (.nodeWatchExpiry t n) pre = .next (finish pre (
      let y := (
        if ¬ y.configured ∨ y.linkLost then y
        else ({ y with linkLost := true, planRun := true } : Node).settle s.now)
      setNode n ((y.ownSlots s.now 0).ownSlots s.now 1) s))) ∧
  (∀ (t : Nat) (n : Nat) (port : Nat) (block : List Byte) (pre : State), Can.nodeEchoRequest t n port block pre = true →
    let s := advance t pre
    ∀ x0, Tbl.find n s.node = some x0 →
    let x := ((x0.settleBridges s.now).portLimits s.now 0).portLimits s.now 1
    exec (.nodeEchoRequest t n port block) pre = .next (finish pre (
      let y := (
        x.blockOut s.now port 2 (trainBlock 0x11 (u8 block 2) (u8 block 3) (u16 block 4)))
      setNode n ((y.ownSlots s.now 0).ownSlots s.now 1) s))) ∧
  (∀ (t : Nat) (n : Nat) (port : Nat) (block : CodeBlock) (pre : State), Can.nodeBlockForward t n port block pre = true →
    let s := advance t pre
    ∀ x0, Tbl.find n s.node = some x0 →
    let x := ((x0.settleBridges s.now).portLimits s.now 0).portLimits s.now 1
    let now := s.now
    let o := 1 - port
    let q := { x.port port with heardAt := now }
    let e := (block.hdr, block.bytes)
    exec (.nodeBlockForward t n port block) pre = .next (finish pre (
      let y := (
        match q.prbs, q.train with
        | some st, _ =>
          let r := nodePrbs st block.bytes
          { x.setPort port { q with prbs := some r.1, prbsErr := q.prbsErr + r.2.1.errs } with out := x.out ++ [(port, 0, r.2.2)] }
        | none, some tr => (x.setPort port q).trainBlockIn now port block.hdr tr
        | none, none =>
          let cls := u8 block.bytes 1
          let start := isCtl 0x78 e
          let mine : Bool := start && (cls == 1 || cls == 4 || cls == 8) && u16 block.bytes 2 % 4096 == x.id
          let rest : Bool := q.stop && (block.hdr == 1 || isCtl 0xE1 e)
          let y := x.setPort port { q with farSleep := isCtl 0x4C e, rxIdle := isCtl 0x2D e,
                                           stop := mine || (rest && !isCtl 0xE1 e) }
          if isCtl 0x4C e then y.sleepOut now o
          else
            let z := y.setPort o { y.port o with txSleep := false }
            let w := if start ∧ (cls = 0 ∨ 8 < cls) then { z with badFrame := z.badFrame + 1 } else z
            if isCtl 0x33 e then (let r := w.trainIn now port block.bytes; if r.2 then r.1 else r.1.slotOut now o e)
            else w.slotOut now o (if mine ∨ rest then (2, idleBlock) else e))
      setNode n ((y.ownSlots s.now 0).ownSlots s.now 1) s))) ∧
  (∀ (t : Nat) (n : Nat) (pre : State),
    let s := advance t pre
    let a := drawNat s
    let b := drawNat a.2
    let c := drawNat b.2
    let d := drawNat c.2
    exec (.nodePowerUp t n) pre = .next (finish pre (
      setNode n { id := n, bypass := a.1 % 2 == 1, ver := if b.1 % 2 = 1 then 0x23 else 0x12, lastDown := s.now, phase := c.1,
                  rate := (((d.1 % 201 : Nat) : Rat) - 100) / 1000000, refAt := s.now } d.2)))

/-- Each of OP_PART_SET, OP_PART_REMOVE, OP_PART_GET, OP_PART_LIST, OP_PART_SESSION_OPEN, OP_PART_SESSION_CLOSE,
OP_PART_SESS_STATUS completes: under the conditions that its rules set on the state and the operands, exec answers the next
state with its own effect, a request with its reply besides, and changes nothing else before the end of the command: each
writes, removes or reads an entry or opens or closes its session. What of it rests on a log entry marked DEDUCED, PRESUMED
or DESIGN CHOICE is the model's choice and no rule of the spec: the instant of an event, the packet layer and the end of
every command on log entries 2, 6, 7, 8, 9, 13, 20, 21, 22, 23, 41, 46, 58, 63, 68, 80, 89, 91, 102, 115, 118, 124, 151,
155, 172, 173 and 180; OP_PART_SET besides on 82; OP_PART_REMOVE, OP_PART_GET besides on 83. -/
def Obligations.PartnerOpcodesComplete : Prop :=
  (∀ (r : Req) (s0 : State), Can.opPartSet r s0 = true →
    let p := r.payload
    let s := seen 0x2201 r s0
    let id := u16 p 0
    exec (.opPartSet r) s0 = .next (finish s0 (answered 0x2201 r .ok 0 [] (writePartner id p s)))) ∧
  (∀ (r : Req) (s0 : State), Can.opPartRemove r s0 = true →
    let p := r.payload
    let s := seen 0x2202 r s0
    let id := u16 p 0
    exec (.opPartRemove r) s0 = .next (finish s0 (answered 0x2202 r .ok 0 [] (removePartner id s)))) ∧
  (∀ (r : Req) (s0 : State), Can.opPartGet r s0 = true →
    let p := r.payload
    let s := seen 0x2203 r s0
    let id := u16 p 0
    exec (.opPartGet r) s0 = .next (finish s0 (answered 0x2203 r .ok 0 (entryBytes s id) s))) ∧
  (∀ (r : Req) (s0 : State), Can.opPartList r s0 = true →
    let p := r.payload
    let s := seen 0x2204 r s0
    let st := u8 p 0
    let want (id : Nat) : Bool := if st = 0xFF then partnerState s id != 0 else partnerState s id == st
    let ids := (((List.range 4096).drop (u16 p 2)).filter want).take 1000
    exec (.opPartList r) s0 = .next (finish s0 (answered 0x2204 r .ok 0 (le 2 ids.length ++ le 2 0 ++ ids.flatMap fun id => le 2 id) s))) ∧
  (∀ (r : Req) (s0 : State), Can.opPartSessionOpen r s0 = true →
    let p := r.payload
    let s := seen 0x2205 r s0
    let id := u16 p 0
    let c := (freeContext s).getD 0
    let pick (v d : Nat) : Nat := if v = 0 then d else v
    exec (.opPartSessionOpen r) s0 = .next (finish s0 (answered 0x2205 r .accepted c [] (sessOpen c id (pick (u8 p 3) 8) (pick (u32 p 4) 50) (pick (u32 p 8) 100000) s)))) ∧
  (∀ (r : Req) (s0 : State), Can.opPartSessionClose r s0 = true →
    let p := r.payload
    let s := seen 0x2205 r s0
    let c := (partner s (u16 p 0)).session
    exec (.opPartSessionClose r) s0 = .next (finish s0 (answered 0x2205 r .accepted c [] (closePump c (setSess c { sess s c with state := 3, closeBy := s.now + msT 100 } s))))) ∧
  (∀ (r : Req) (s0 : State), Can.opPartSessStatus r s0 = true →
    let p := r.payload
    let s := seen 0x220A r s0
    let c := u16 p 0
    let x := sess s c
    let free := x.state == 0
    let v (n : Nat) : Nat := if free then 0 else n
    exec (.opPartSessStatus r) s0 = .next (finish s0 (answered 0x220A r .ok 0 
                (le 2 (if free then 0xFFFF else x.partner) ++ le 1 x.state ++
          le 1 (v (clampI 0 64 (sdiff x.limit x.rcvNext)).toNat) ++ le 4 (v x.sndUna) ++ le 4 (v x.sndNext) ++
          le 4 (v x.peerLimit) ++ le 4 (v x.rcvNext) ++ leI 4 (if free then 0 else rnd x.srtt) ++ le 4 (v x.rto) ++
          le 8 (c64 s 0x220A c 32) ++ le 8 (c64 s 0x220A c 40) ++ le 4 (c32 s 0x220A c 48) ++ le 4 (c32 s 0x220A c 52) ++
          le 4 (c32 s 0x220A c 56) ++ le 4 (c32 s 0x220A 0 60)) s)))

/-- Each of SESSION_SEGMENT_RECEIVED, SESSION_RETX_TIMER, SESSION_ACK_DUE, SESSION_KEEPALIVE, SESSION_PROBE,
SESSION_OPEN_RETX, SESSION_CLOSE_RETX, AUTO_SESSION_RETRY, PARTNER_LIVENESS_TIMEOUT, TXN_SLOT_FREED completes: under the
conditions that its rules set on the state and the operands, exec answers the next state with its own effect, a request with
its reply besides, and changes nothing else before the end of the command: each timer or segment acts on its session as its
rule says. What of it rests on a log entry marked DEDUCED, PRESUMED or DESIGN CHOICE is the model's choice and no rule of
the spec: the instant of an event, the packet layer and the end of every command on log entries 2, 6, 7, 8, 9, 13, 20, 21,
22, 23, 41, 46, 58, 63, 68, 80, 89, 91, 102, 115, 118, 124, 151, 155, 172, 173 and 180; SESSION_SEGMENT_RECEIVED besides on
33, 34, 35, 69, 70, 71, 72, 73, 75, 76, 77, 88, 96, 97, 154, 177, 178 and 195; SESSION_RETX_TIMER besides on 84;
TXN_SLOT_FREED besides on 90. -/
def Obligations.SessionEventsComplete : Prop :=
  (∀ (t : Nat) (path : SegPath) (seg : List Byte) (pre : State), pre.pwr.inReset = false →
    let s := advance t pre
    exec (.sessionSegmentReceived t path seg) pre = .next (finish pre (
      match path with
      | .lane n => laneFrame n 7 seg s
      | .port n mac ip udp => if 3 < n ∨ ¬ (port s n).link then s else frameAt n (segmentFrame s n mac ip udp seg) s))) ∧
  (∀ (t : Nat) (ctx : Nat) (pre : State), Can.sessionRetxTimer t ctx pre = true →
    let s := advance t pre
    let x := sess s ctx
    ∀ u w1, x.unacked = u :: w1 →
    exec (.sessionRetxTimer t ctx) pre = .next (finish pre (
      if u.commit.isNone ∧ x.retryMax ≤ u.times then sessClose ctx 1 s
      else
        let rto := min x.rtoMax (2 * x.rto)
        let us := x.unacked.map fun v => if v.dueAt ≤ s.now then { v with dueAt := s.now + usT rto } else v
        resend ctx u (setSess ctx { x with rto := rto, unacked := us } s)))) ∧
  (∀ (t : Nat) (ctx : Nat) (pre : State), Can.sessionAckDue t ctx pre = true →
    let s := advance t pre
    let x := sess s ctx
    exec (.sessionAckDue t ctx) pre = .next (finish pre (
      sendSegment ctx 1 0 x.sndNext [] s))) ∧
  (∀ (t : Nat) (ctx : Nat) (pre : State), Can.sessionKeepalive t ctx pre = true →
    let s := advance t pre
    let x := sess s ctx
    exec (.sessionKeepalive t ctx) pre = .next (finish pre (
      sendSegment ctx 1 0 x.sndNext [] s))) ∧
  (∀ (t : Nat) (ctx : Nat) (pre : State), Can.sessionProbe t ctx pre = true →
    let s := advance t pre
    let x := sess s ctx
    exec (.sessionProbe t ctx) pre = .next (finish pre (
      sendSegment ctx 1 1 x.sndNext [] (setSess ctx { x with probeAt := s.now } s)))) ∧
  (∀ (t : Nat) (ctx : Nat) (pre : State), Can.sessionOpenRetx t ctx pre = true →
    let s := advance t pre
    let x := sess s ctx
    exec (.sessionOpenRetx t ctx) pre = .next (finish pre (
      if x.retryMax ≤ x.tries then sessClose ctx 1 s
      else
        let wait := min (usT x.rtoMax) (msT (2 ^ x.tries))
        bump 0x2203 x.partner 56
          (sendSegment ctx 2 0 x.ownInc [] (setSess ctx { x with tries := x.tries + 1, nextTry := s.now + wait } s))))) ∧
  (∀ (t : Nat) (ctx : Nat) (pre : State), Can.sessionCloseRetx t ctx pre = true →
    let s := advance t pre
    let x := sess s ctx
    exec (.sessionCloseRetx t ctx) pre = .next (finish pre (
      if due s x.closeBy then sessClose ctx 3 s
      else if x.closeSent ∧ due s x.nextTry ∧ x.tries < x.retryMax then
        bump 0x2203 x.partner 56
          (sendSegment ctx 4 0 x.sndNext [] (setSess ctx { x with tries := x.tries + 1, nextTry := s.now + usT x.rto } s))
      else s))) ∧
  (∀ (t : Nat) (partner_ : Nat) (pre : State), Can.autoSessionRetry t partner_ pre = true →
    let s := advance t pre
    let q := partner s partner_
    ∀ c, freeContext s = some c →
    exec (.autoSessionRetry t partner_) pre = .next (finish pre (
      sessOpen c partner_ 8 50 100000 s))) ∧
  (∀ (t : Nat) (partner_ : Nat) (pre : State), Can.partnerLivenessTimeout t partner_ pre = true →
    let s := advance t pre
    let q := partner s partner_
    let s1 := if q.state = 2 ∧ due s (q.lastSeen + msT q.liveTo) then
        raise 0x2202 partner_ [] (bump 0x2203 partner_ 52 (setPartner partner_ { q with state := 3 } s))
      else s
    exec (.partnerLivenessTimeout t partner_) pre = .next (finish pre (
      match pathDownAt s1 q with
      | some d => if q.session ≠ 0xFFFF ∧ due s1 (d + msT q.liveTo) then sessClose q.session 6 s1 else s1
      | none => s1))) ∧
  (∀ (t : Nat) (txn : Nat) (pre : State), Can.txnSlotFreed t txn pre = true →
    let s := advance t pre
    ∀ w r, s.part.waiting = w :: r →
    let open_ : State := { s with part := { s.part with waiting := [] } }
    let s1 := if w < 0x10000 then closePump w (sessPump 64 w open_) else nodeSetSend (w - 0x10000) open_
    exec (.txnSlotFreed t txn) pre = .next (finish pre (
      { s1 with part := { s1.part with waiting := r ++ s1.part.waiting } })))

/-- Each of OP_PART_GROUP, OP_PART_PREPARE, OP_PART_COMMIT, OP_PART_CANCEL, REPLY_PACKET_RECEIVED, GROUP_PREPARE_DEADLINE,
GROUP_COMMIT_ABANDON, GROUP_REPLY_DUE, GROUP_MEMBER_EXECUTE, PREPARED_TXN_EXPIRY completes: under the conditions that its
rules set on the state and the operands, exec answers the next state with its own effect, a request with its reply besides,
and changes nothing else before the end of the command: each moves its transaction as its rule says. What of it rests on a
log entry marked DEDUCED, PRESUMED or DESIGN CHOICE is the model's choice and no rule of the spec: the instant of an event,
the packet layer and the end of every command on log entries 2, 6, 7, 8, 9, 13, 20, 21, 22, 23, 41, 46, 58, 63, 68, 80, 89,
91, 102, 115, 118, 124, 151, 155, 172, 173 and 180; OP_PART_PREPARE besides on 3, 17, 25, 27, 39, 65, 86, 132, 133, 134,
136, 139, 141, 142, 149, 161, 163, 184 and 188; GROUP_PREPARE_DEADLINE besides on 85; GROUP_MEMBER_EXECUTE besides on 3, 17,
25, 27, 39, 65, 87, 132, 133, 134, 136, 139, 141, 142, 149, 161, 163, 184 and 188. -/
def Obligations.GroupCommandsComplete : Prop :=
  (∀ (r : Req) (s0 : State), Can.opPartGroup r s0 = true →
    let p := whole r s0
    let s := seen 0x2206 r s0
    let n := u16 p 0
    let inner := p.drop (20 + 2 * n)
    let ids := (List.range n).map fun k => u16 p (20 + 2 * k)
    exec (.opPartGroup r) s0 = .next (finish s0 (deferred 0x2206 r (groupStart (some (owedTo r 0x2206)) false ids inner (u8 p 2) (u32 p 4) (u32 p 8) s)))) ∧
  (∀ (r : Req) (s0 : State), Can.opPartPrepare r s0 = true →
    let p := whole r s0
    let s := seen 0x2207 r s0
    let packets := (splitPackets (u8 p 14) (p.drop 18)).getD []
    let z := dropExpired s
    let inner := packets.map fun b => (u16 b 2, (b.drop 16).take (u16 b 10))
    let h : Prepared := { txn := u16 p 0, from_ := r.org, texp := ntField p 4, inner := inner }
    let s1 := innerStage inner z
    exec (.opPartPrepare r) s0 = .next (finish s0 (answered 0x2207 r .ok 0 [] 
              { s1 with part := { s1.part with held := s1.part.held ++ [h],
                                               aborted := s1.part.aborted.filter fun x => x != (r.org, u16 p 0) } }))) ∧
  (∀ (r : Req) (s0 : State), Can.opPartCommit r s0 = true →
    let p := r.payload
    let s := dropExpired (seen 0x2208 r s0)
    let set (x : Prepared) : Prepared :=
      if x.from_ = r.org ∧ x.txn = u16 p 0 then { x with commit := some (ntField p 4, owedTo r 0x2208) } else x
    exec (.opPartCommit r) s0 = .next (finish s0 (deferred 0x2208 r { s with part := { s.part with held := s.part.held.map set } }))) ∧
  (∀ (r : Req) (s0 : State), Can.opPartCancel r s0 = true →
    let s := seen 0x2209 r s0
    let txn := u16 r.payload 0
    let s1 := dropHeld r.org txn s
    let s2 := match findHeld s r.org txn with
      | some h => (match h.commit with
        | some (_, w) => answer w .aborted 0 [] s1
        | none => s1)
      | none => s
    exec (.opPartCancel r) s0 = .next (finish s0 (answered 0x2209 r .ok 0 [] s2))) ∧
  (∀ (t : Nat) (org : Nat) (opcode : Nat) (tag : Nat) (payload : List Byte) (pre : State), Can.replyPacketReceived t org opcode tag payload pre = true →
    let s := advance t pre
    ∀ x, s.pkt.sent.find? fun x => x.1 == org && x.2.1 == opcode && x.2.2.1 == tag = some x →
    exec (.replyPacketReceived t org opcode tag payload) pre = .next (finish pre (
      groupAnswer org opcode x.2.2.2 (u16 payload 0) (dropSent org opcode tag s)))) ∧
  (∀ (t : Nat) (txn : Nat) (pre : State), Can.groupPrepareDeadline t txn pre = true →
    let s := advance t pre
    ∀ g, findGroup s txn = some g →
    exec (.groupPrepareDeadline t txn) pre = .next (finish pre (
      if g.allPrepared then (if groupHeld s g then s else groupCommit g s)
      else if g.prepared.length + g.failures.length = g.members.length ∨ due s g.deadline then groupAbort g s
      else s))) ∧
  (∀ (t : Nat) (txn : Nat) (pre : State), Can.groupCommitAbandon t txn pre = true →
    let s := advance t pre
    ∀ g, findGroup s txn = some g →
    exec (.groupCommitAbandon t txn) pre = .next (finish pre (
      setGroup { g with abandoned := true } (abandonCommits g s)))) ∧
  (∀ (t : Nat) (txn : Nat) (pre : State), Can.groupReplyDue t txn pre = true →
    let s := advance t pre
    ∀ g, findGroup s txn = some g →
    exec (.groupReplyDue t txn) pre = .next (finish pre (
      groupEnd g (if g.executed.length = g.members.length then .ok else .partial_) 0 s))) ∧
  (∀ (t : Nat) (txn : Nat) (pre : State), Can.groupMemberExecute t txn pre = true →
    let s := advance t pre
    let nt := ntAt s s.now
    let ready (h : Prepared) : Bool :=
      h.txn == txn && match h.commit with | some (x, _) => decide ((x : Rat) ≤ nt) | none => false
    ∀ h, s.part.held.find? ready = some h →
    ∀ x w, h.commit = some (x, w) →
    let r := innerAll false h.from_ (nt - x) h.inner (dropHeld h.from_ h.txn s)
    exec (.groupMemberExecute t txn) pre = .next (finish pre (
      match r.2 with
      | some (st, d) => answer w st d [] r.1
      | none => answer w .ok 0 [] r.1))) ∧
  (∀ (t : Nat) (txn : Nat) (pre : State), pre.pwr.inReset = false →
    let s := advance t pre
    let nt := ntAt s s.now
    exec (.preparedTxnExpiry t txn) pre = .next (finish pre (
      { s with part := { s.part with held := s.part.held.filter fun h => !(h.txn == txn && h.commit.isNone && decide ((h.texp : Rat) ≤ nt)) } })))

/-- Each of OP_NET_SET_PORT, OP_NET_SEND, OP_NET_TSQ_READ, OP_NET_GET_PORT, ETHERNET_LINK_CHANGE, PRP_SUPERVISION_TX,
PRP_NODE_FORGET, TX_TIMESTAMP, ETHERNET_FRAME_RECEIVED completes: under the conditions that its rules set on the state and
the operands, exec answers the next state with its own effect, a request with its reply besides, and changes nothing else
before the end of the command: each configures, sends on, reads or receives on its port. What of it rests on a log entry
marked DEDUCED, PRESUMED or DESIGN CHOICE is the model's choice and no rule of the spec: the instant of an event, the packet
layer and the end of every command on log entries 2, 6, 7, 8, 9, 13, 20, 21, 22, 23, 41, 46, 58, 63, 68, 80, 89, 91, 102,
115, 118, 124, 151, 155, 172, 173 and 180; OP_NET_TSQ_READ besides on 79; PRP_SUPERVISION_TX besides on 78; TX_TIMESTAMP
besides on 81; ETHERNET_FRAME_RECEIVED besides on 33, 34, 35, 69, 70, 71, 72, 73, 75, 76, 77, 88, 154, 177, 178 and 195. -/
def Obligations.PortsComplete : Prop :=
  (∀ (r : Req) (s0 : State), Can.opNetSetPort r s0 = true →
    let p := r.payload
    let s := seen 0x2301 r s0
    let n := u8 p 0
    let mode := u8 p 1
    let ctrl := u16 p 2
    let old := port s n
    let s1 := if old.mode = mode then s else endInjectionsOn 2 n (portLink n false s)
    let y := { port s1 n with mode := mode, prp := ctrl.testBit 0, tc := ctrl.testBit 1, icmp := ctrl.testBit 2,
                              mac := bytesAt 6 p 4, vlan := u16 p 10, ipv4 := u32 p 12, etype := u16 p 16,
                              udpPort := u16 p 18, maxFrame := u16 p 20 }
    exec (.opNetSetPort r) s0 = .next (finish s0 (answered 0x2301 r .ok 0 [] (prpJudge (n / 2) (setPort n y s1))))) ∧
  (∀ (r : Req) (s0 : State), Can.opNetSend r s0 = true →
    let p := whole r s0
    let s := seen 0x2302 r s0
    let n := u8 p 0
    let f := p.drop 4
    exec (.opNetSend r) s0 = .next (finish s0 (answered 0x2302 r .ok 0 [] (if (u8 p 1).testBit 0 then stamped (u16 p 2) (sendPorts s n) (sendFrame n f) s else sendFrame n f s)))) ∧
  (∀ (r : Req) (s0 : State), Can.opNetTsqRead r s0 = true →
    let p := r.payload
    let s := seen 0x2303 r s0
    let n := u8 p 0
    let x := port s n
    let out := x.stampq.take (u8 p 1)
    let data := le 1 out.length ++ le 1 (b2n x.ovf) ++ le 2 0 ++
      out.flatMap fun e => le 2 e.tsId ++ le 1 e.port ++ le 1 e.fine ++ le 8 e.tick ++ le 4 0
    exec (.opNetTsqRead r) s0 = .next (finish s0 (
      if s.clk.gateMask.testBit (4 + n) then
        (answered 0x2303 r .ok 0 (fit 4 []) (gatedAcc s))
      else
        (answered 0x2303 r .ok 0 data (setPort n { x with stampq := x.stampq.drop (u8 p 1), ovf := x.ovf && !(u8 p 2).testBit 0 } s))))) ∧
  (∀ (r : Req) (s0 : State), Can.opNetGetPort r s0 = true →
    let p := r.payload
    let s := seen 0x2308 r s0
    let n := u8 p 0
    exec (.opNetGetPort r) s0 = .next (finish s0 (answered 0x2308 r .ok 0 (portReply s n) s))) ∧
  (∀ (t : Nat) (port_ : Nat) (up : Bool) (pre : State), Can.ethernetLinkChange t port_ up pre = true →
    let s := advance t pre
    exec (.ethernetLinkChange t port_ up) pre = .next (finish pre (
      portLink port_ up s))) ∧
  (∀ (t : Nat) (pair : Nat) (pre : State), Can.prpSupervisionTx t pair pre = true →
    let s := advance t pre
    let p := port s (2 * pair)
    exec (.prpSupervisionTx t pair) pre = .next (finish pre (
      msgSend (2 * pair) { dst := be 6 0x01154E000100, vlan := p.vlan } (.prpSupervision p.mac) s))) ∧
  (∀ (t : Nat) (pair : Nat) (pre : State), Can.prpNodeForget t pair pre = true →
    let s := advance t pre
    let x := prpPair s pair
    let seen := x.seen.filter fun e => decide (s.now < e.2.2 + msT 400)
    let nodes := x.nodes.filter fun e => decide (s.now < e.2 + msT 60000)
    exec (.prpNodeForget t pair) pre = .next (finish pre (
      setPrp pair { x with seen := seen, nodes := nodes } s))) ∧
  (∀ (t : Nat) (port_ : Nat) (pre : State), Can.txTimestamp t port_ pre = true →
    let s := advance t pre
    let p := port s port_
    ∀ id r, p.stamping = id :: r →
    let d := drawNat s
    exec (.txTimestamp t port_) pre = .next (finish pre (
      if p.stampq.length < 64 then
        setPort port_ { p with stamping := r, stampq := p.stampq ++ [{ tsId := id, port := port_, fine := d.1 % 8, tick := s.now }] } d.2
      else
        let s1 := bump 0x2308 port_ 52 (setPort port_ { p with stamping := r, ovf := true } s)
        if p.ovf then s1 else raise 0x2303 port_ [] s1))) ∧
  (∀ (t : Nat) (port_ : Nat) (frame : List Byte) (pre : State), Can.ethernetFrameReceived t port_ frame pre = true →
    let s := advance t pre
    exec (.ethernetFrameReceived t port_ frame) pre = .next (finish pre (
      frameAt port_ frame s)))

/-- Each of OP_NET_GOOSE_PUB, OP_NET_GOOSE_VALUE, OP_NET_GOOSE_SUB, OP_NET_SV_PUB, GOOSE_REPEAT_TX, GOOSE_SUB_LOST,
SV_SAMPLE_PUBLISH, GOOSE_FRAME_RECEIVED completes: under the conditions that its rules set on the state and the operands,
exec answers the next state with its own effect, a request with its reply besides, and changes nothing else before the end
of the command: each configures, publishes or receives as its rule says. What of it rests on a log entry marked DEDUCED,
PRESUMED or DESIGN CHOICE is the model's choice and no rule of the spec: the instant of an event, the packet layer and the
end of every command on log entries 2, 6, 7, 8, 9, 13, 20, 21, 22, 23, 41, 46, 58, 63, 68, 80, 89, 91, 102, 115, 118, 124,
151, 155, 172, 173 and 180; OP_NET_GOOSE_SUB besides on 75; SV_SAMPLE_PUBLISH besides on 33; GOOSE_FRAME_RECEIVED besides on
33, 34, 35, 69, 70, 71, 72, 73, 75, 76, 77, 88, 154, 177, 178 and 195. -/
def Obligations.PublicationsComplete : Prop :=
  (∀ (r : Req) (s0 : State), Can.opNetGoosePub r s0 = true →
    let p := r.payload
    let s := seen 0x2304 r s0
    let n := u8 p 3
    let g : GPub :=
      { enable := (u8 p 1).testBit 0, stamp := (u8 p 1).testBit 1, ports := u8 p 2, dst := bytesAt 6 p 4, appid := u16 p 10,
        vlan := u16 p 12, confRev := u32 p 16, tMin := u16 p 20, tMax := u16 p 22, gocbRef := bytesAt 64 p 24,
        datSet := bytesAt 64 p 88, goId := bytesAt 64 p 152,
        mem := (List.range n).map fun k => (u16 p (216 + 8 * k), u8 p (218 + 8 * k), u32 p (220 + 8 * k)) }
    exec (.opNetGoosePub r) s0 = .next (finish s0 (answered 0x2304 r .ok 0 [] { s with net := { s.net with pub := s.net.pub.put (u8 p 0) g } }))) ∧
  (∀ (r : Req) (s0 : State), Can.opNetGooseValue r s0 = true →
    let p := r.payload
    let s := seen 0x2305 r s0
    exec (.opNetGooseValue r) s0 = .next (finish s0 (answered 0x2305 r .ok 0 [] { s with net := { s.net with hostVal := s.net.hostVal.put (u8 p 0) (u32 p 4) } }))) ∧
  (∀ (r : Req) (s0 : State), Can.opNetGooseSub r s0 = true →
    let p := r.payload
    let s := seen 0x2306 r s0
    let n := u8 p 3
    let g : GSub :=
      { enable := (u8 p 1).testBit 0, simOk := (u8 p 1).testBit 1, ports := u8 p 2, srcMac := bytesAt 6 p 4, appid := u16 p 10,
        confRev := u32 p 12, nMem := u8 p 16, gocbRef := bytesAt 64 p 20,
        binds := (List.range n).map fun b => (u8 p (84 + 4 * b), u8 p (85 + 4 * b), u8 p (86 + 4 * b)) }
    exec (.opNetGooseSub r) s0 = .next (finish s0 (answered 0x2306 r .ok 0 [] { s with net := { s.net with sub := s.net.sub.put (u8 p 0) g } }))) ∧
  (∀ (r : Req) (s0 : State), Can.opNetSvPub r s0 = true →
    let p := r.payload
    let s := seen 0x2307 r s0
    let n := u8 p 3
    let at_ := svFirst (svRate s (u8 p 4)) (ntAt s s.now)
    let v : SvPub :=
      { enable := (u8 p 1).testBit 0, ports := u8 p 2, rate := u8 p 4, noAsdu := u8 p 5, appid := u16 p 6, dst := bytesAt 6 p 8,
        vlan := u16 p 14, confRev := u32 p 16, svId := bytesAt 64 p 20,
        chans := (List.range n).map fun c => (u8 p (84 + 8 * c), u8 p (85 + 8 * c), u32 p (88 + 8 * c)),
        nextNs := if (u8 p 1).testBit 0 then some at_.1 else none, smpCnt := at_.2 }
    exec (.opNetSvPub r) s0 = .next (finish s0 (answered 0x2307 r .ok 0 [] { s with net := { s.net with sv := s.net.sv.put (u8 p 0) v } }))) ∧
  (∀ (t : Nat) (pub : Nat) (pre : State), Can.gooseRepeatTx t pub pre = true →
    let s := advance t pre
    ∀ g, Tbl.find pub s.net.pub = some g →
    let i := min g.tMax (2 * g.interval)
    let h := { g with sqNum := (g.sqNum + 1) % 2 ^ 32, interval := i, nextAt := s.now + msT i }
    exec (.gooseRepeatTx t pub) pre = .next (finish pre (
      gooseOut pub h (setPub pub h s)))) ∧
  (∀ (t : Nat) (sub : Nat) (pre : State), Can.gooseSubLost t sub pre = true →
    let s := advance t pre
    ∀ g, Tbl.find sub s.net.sub = some g →
    exec (.gooseSubLost t sub) pre = .next (finish pre (
      raise 0x2304 (det sub 0) [] (setSub sub { g with lost := true } s)))) ∧
  (∀ (t : Nat) (stream : Nat) (pre : State), Can.svSamplePublish t stream pre = true →
    let s := advance t pre
    ∀ v, Tbl.find stream s.net.sv = some v →
    ∀ x, (if v.enable ∧ tbRuns s then v.nextNs else none) = some x →
    let vals := v.chans.map (svValue s (ntTick s x))
    let r := vals.foldl
      (fun (a : List (Int × Nat) × State) o =>
        match o with
        | some (some q, f) => (a.1 ++ [(sgn 32 (uLE 4 (fieldI 7 4 (rnd q)) 0), f)], a.2)
        | _ => let d := drawNat a.2; (a.1 ++ [(sgn 32 (d.1 % 2 ^ 32), 2)], d.2)) ([], s)
    let asdus := v.asdus ++ [{ svId := v.svId, smpCnt := v.smpCnt, confRev := v.confRev, smpSynch := smpSynch s, values := r.1 }]
    let next := svFirst (svRate s v.rate) (x + 500000000 / svRate s v.rate)
    let full := decide (v.noAsdu ≤ asdus.length)
    let w := { v with nextNs := some next.1, smpCnt := next.2, asdus := if full then [] else asdus }
    let s1 := setSv stream w r.2
    exec (.svSamplePublish t stream) pre = .next (finish pre (
      if full then sendMsg v.ports { dst := v.dst, vlan := v.vlan } (.sv v.appid asdus) s1 else s1))) ∧
  (∀ (t : Nat) (port_ : Nat) (frame : GooseFrame) (pre : State), Can.gooseFrameReceived t port_ frame pre = true →
    let s := advance t pre
    exec (.gooseFrameReceived t port_ frame) pre = .next (finish pre (
      messageIn port_ frame.head (.goose frame.msg) s)))

/-- Each of OP_TWIN_SET_CONFIG, OP_TWIN_RELEASE, OP_TWIN_GET_STATUS, CAP_HEARTBEAT_PULSE, HEARTBEAT_STEP_WATCH,
CAP_IN_PULSE, LEASE_EXPIRY, CAP_TAKE, INITIAL_CAP_TAKE, RELEASE_TAKE_WAIT_END completes: under the conditions that its rules
set on the state and the operands, exec answers the next state with its own effect, a request with its reply besides, and
changes nothing else before the end of the command: each acts on the cap as its rule says. What of it rests on a log entry
marked DEDUCED, PRESUMED or DESIGN CHOICE is the model's choice and no rule of the spec: the instant of an event, the packet
layer and the end of every command on log entries 2, 6, 7, 8, 9, 13, 20, 21, 22, 23, 41, 46, 58, 63, 68, 80, 89, 91, 102,
115, 118, 124, 151, 155, 172, 173 and 180; OP_TWIN_GET_STATUS besides on 33 and 107; HEARTBEAT_STEP_WATCH besides on 104;
CAP_IN_PULSE besides on 17 and 105; CAP_TAKE, RELEASE_TAKE_WAIT_END besides on 56, 59, 61, 147 and 192; INITIAL_CAP_TAKE
besides on 56, 59, 61, 103, 147 and 192. -/
def Obligations.TwinOpcodesComplete : Prop :=
  (∀ (r : Req) (s0 : State), Can.opTwinSetConfig r s0 = true →
    let p := r.payload
    let s := seen 0x2401 r s0
    let c := u8 p 0
    let on := c.testBit 0
    let w := { s.twin with enable := on, takeUnready := c.testBit 1, mirrorMax := u8 p 1, cmpN := u16 p 2, lease := u32 p 4,
                           planH := u32 p 8, planTol := u32 p 12, cmpDi := u32 p 16, cmpDang := u32 p 20, holder := false,
                           releasing := false, lastIn := none, leaseFrom := none, relTold := none, quietFrom := s.now,
                           leaseOut := false, noTakeSaid := false,
                           mirror := none, mirrorSeen := false, mirrorAge := 0, applied := [], failRun := 0, checkOn := false,
                           linkUp := false }
    exec (.opTwinSetConfig r) s0 = .next (finish s0 (answered 0x2401 r .ok 0 [] (updReady (linkChanged 14 { s with twin := w }))))) ∧
  (∀ (r : Req) (s0 : State), Can.opTwinRelease r s0 = true →
    let p := r.payload
    let s := seen 0x2402 r s0
    let s1 := sayCap 2 false (twinSend (.opcode 0x2402 p) s)
    let s2 := dropCap s1
    exec (.opTwinRelease r) s0 = .next (finish s0 (answered 0x2402 r .accepted 0 [] (updReady { s2 with twin := { s2.twin with releasing := true } })))) ∧
  (∀ (r : Req) (s0 : State), Can.opTwinGetStatus r s0 = true →
    let s := seen 0x2403 r s0
    exec (.opTwinGetStatus r) s0 = .next (finish s0 (answered 0x2403 r .ok 0 ((if s.twin.own.isEmpty then healthReport s else s.twin.own) ++ fit 48 s.twin.rx) s))) ∧
  (∀ (t : Nat) (pre : State), Can.capHeartbeatPulse t pre = true →
    let s := advance t pre
    exec (.capHeartbeatPulse t) pre = .next (finish pre (
      notePins { s with twin := { s.twin with pulseTo := s.now + 13, releasing := false } }))) ∧
  (∀ (t : Nat) (pre : State), Can.heartbeatStepWatch t pre = true →
    let s := advance t pre
    exec (.heartbeatStepWatch t) pre = .next (finish pre (
      updReady (stopCap s)))) ∧
  (∀ (t : Nat) (width : Nat) (pre : State), Can.capInPulse t width pre = true →
    let s := advance t pre
    let inTo := s.now + (width + 624) / 625
    exec (.capInPulse t width) pre = .next (finish pre (
      if ¬ s.twin.holder then
        let told := match s.twin.relTold with | some 0 => some 1 | _ => none
        notePins { s with twin := { s.twin with lastIn := some s.now, inTo := inTo, leaseFrom := some s.now, relTold := told, leaseOut := false,
                                                noTakeSaid := false } }
      else
        let s1 := raiseClass 25 0x2402 0 [] s
        if s.twin.idB then
          let s2 := dropCap s1
          notePins (updReady (sayCap 4 false { s2 with twin := { s2.twin with lastIn := some s2.now, inTo := inTo } }))
        else notePins { s1 with twin := { s1.twin with epoch := nextEpoch s1, splitOn := true, lastIn := some s1.now, inTo := inTo } }))) ∧
  (∀ (t : Nat) (pre : State), Can.leaseExpiry t pre = true →
    let s := advance t pre
    exec (.leaseExpiry t) pre = .next (finish pre (
      { s with twin := { s.twin with leaseOut := true } }))) ∧
  (∀ (t : Nat) (pre : State), Can.capTake t pre = true →
    let s := advance t pre
    exec (.capTake t) pre = .next (finish pre (
      capOutcome 1 s))) ∧
  (∀ (t : Nat) (pre : State), Can.initialCapTake t pre = true →
    let s := advance t pre
    exec (.initialCapTake t) pre = .next (finish pre (
      takeCap (if s.twin.tookOnce then 1 else 3) false s))) ∧
  (∀ (t : Nat) (pre : State), Can.releaseTakeWaitEnd t pre = true →
    let s := advance t pre
    exec (.releaseTakeWaitEnd t) pre = .next (finish pre (
      capOutcome 2 s)))

/-- Each of MIRROR_UPDATE_RECEIVED, SHADOW_COMPARE, RELAYED_COMMAND_RECEIVED, FORWARDED_STATE_OPCODE, HEALTH_REPORT_TX,
HEALTH_REPORT_RECEIVED, PLAN_REFRESH_DUE completes: under the conditions that its rules set on the state and the operands,
exec answers the next state with its own effect, a request with its reply besides, and changes nothing else before the end
of the command: each acts on the standby or the holder as its rule says. What of it rests on a log entry marked DEDUCED,
PRESUMED or DESIGN CHOICE is the model's choice and no rule of the spec: the instant of an event, the packet layer and the
end of every command on log entries 2, 6, 7, 8, 9, 13, 20, 21, 22, 23, 41, 46, 58, 63, 68, 80, 89, 91, 102, 115, 118, 124,
151, 155, 172, 173 and 180; MIRROR_UPDATE_RECEIVED, FORWARDED_STATE_OPCODE, HEALTH_REPORT_RECEIVED besides on 108 and 174;
RELAYED_COMMAND_RECEIVED besides on 106; HEALTH_REPORT_TX besides on 33; PLAN_REFRESH_DUE besides on 24, 39, 52, 166, 175
and 182. -/
def Obligations.TwinLinkComplete : Prop :=
  (∀ (t : Nat) (m : Mirror) (pre : State), pre.pwr.inReset = false →
    let s := advance t pre
    exec (.mirrorUpdateReceived t m) pre = .next (finish pre (
      (twinIn (.mirror m)) s))) ∧
  (∀ (t : Nat) (pre : State), Can.shadowCompare t pre = true →
    let s := advance t pre
    ∀ m, s.twin.mirror = some m →
    exec (.shadowCompare t) pre = .next (finish pre (
      compareStep m s))) ∧
  (∀ (t : Nat) (f : List Byte) (pre : State), pre.pwr.inReset = false →
    let s := advance t pre
    let r := inject 1 14 1 { bytes := f, cls := if f.length = 16 then 8 else 1 } s
    exec (.relayedCommandReceived t f) pre = .next (finish pre (
      r.1.foldl (fun a b => relayIn b.bytes a) r.2))) ∧
  (∀ (t : Nat) (opcode : Nat) (p : List Byte) (pre : State), pre.pwr.inReset = false →
    let s := advance t pre
    exec (.forwardedStateOpcode t opcode p) pre = .next (finish pre (
      (twinIn (.opcode opcode p)) s))) ∧
  (∀ (t : Nat) (pre : State), Can.healthReportTx t pre = true →
    let s := advance t pre
    let b := healthReport s
    let s1 := twinSend (.report b) s
    exec (.healthReportTx t) pre = .next (finish pre (
      { s1 with twin := { s1.twin with own := b, nextReport := s1.now + msT 1, diMax := 0, dangMax := 0 } }))) ∧
  (∀ (t : Nat) (b : List Byte) (pre : State), pre.pwr.inReset = false →
    let s := advance t pre
    exec (.healthReportReceived t b) pre = .next (finish pre (
      (twinIn (.report b)) s))) ∧
  (∀ (t : Nat) (id : Nat) (pre : State), Can.planRefreshDue t id pre = true →
    let s := advance t pre
    ∀ a, armOf s id = some a →
    let c := cell s id
    let late (e : Nat × Nat) : Bool := decide (tickNs e.1 < tickNs s.now + refreshLead s id)
    let gone := (c.plan.filter late).map fun e => ({ cell := id, st := e.2, at_ := e.1, plan := true } : Relayed)
    let s1 := (gone.foldl (fun (x : Nat × State) e => (e.st, adoptEvent x.1 e x.2)) (cmdOf s id, s)).2
    let from_ := s1.now + armD s1 a
    let fc := match s1.chan.find? fun e => e.2.cfg.outType == 5 && e.2.cfg.arm == a with
      | some e => forecast (s1.twin.planH / 80 + 1) e.1 from_ (from_ + s1.twin.planH) s1
      | none => []
    exec (.planRefreshDue t id) pre = .next (finish pre (
      sendPlanned id (cmdOf s1 id) from_ (planFor fc id) s1)))

/-- Each of OP_DIAG_GET_SLACK, OP_DIAG_GET_CNT, OP_DIAG_CLEAR_CNT, OP_DIAG_SELFTEST, SELFTEST_CHECK_RUN, BALL_READBACK
completes: under the conditions that its rules set on the state and the operands, exec answers the next state with its own
effect, a request with its reply besides, and changes nothing else before the end of the command: each reads or clears what
its rule names. What of it rests on a log entry marked DEDUCED, PRESUMED or DESIGN CHOICE is the model's choice and no rule
of the spec: the instant of an event, the packet layer and the end of every command on log entries 2, 6, 7, 8, 9, 13, 20,
21, 22, 23, 41, 46, 58, 63, 68, 80, 89, 91, 102, 115, 118, 124, 151, 155, 172, 173 and 180; SELFTEST_CHECK_RUN besides on
126. -/
def Obligations.DiagnosticsComplete : Prop :=
  (∀ (r : Req) (s0 : State), Can.opDiagGetSlack r s0 = true →
    let p := r.payload
    let s := seen 0x3001 r s0
    let x := s.sys
    let d := sat32I x.minSlack ++ sat32I x.lastSlack ++ le 8 x.minTick ++ le 4 (c32 s 0x3001 0 20)
    exec (.opDiagGetSlack r) s0 = .next (finish s0 (answered 0x3001 r .ok 0 d (if (u8 p 0).testBit 0 then { s with sys := { x with slackFresh := true } } else s)))) ∧
  (∀ (r : Req) (s0 : State), Can.opDiagGetCnt r s0 = true →
    let s := seen 0x3002 r s0
    let l := s.test.sat
    exec (.opDiagGetCnt r) s0 = .next (finish s0 (answered 0x3002 r .ok 0 
                (le 2 l.length ++ le 1 (b2n s.test.listOvf) ++ le 1 0 ++
          l.flatMap fun k => le 2 (k / 2 ^ 32) ++ le 2 (k / 65536 % 65536) ++ le 2 (k % 65536) ++ le 2 0) s))) ∧
  (∀ (r : Req) (s0 : State), Can.opDiagClearCnt r s0 = true →
    let p := r.payload
    let s := seen 0x3003 r s0
    let op := u16 p 0
    let obj := u16 p 2
    let f (k : Nat) : Bool := !gated s (k / 2 ^ 32) (k / 65536 % 65536) && (op == 0xFFFF || counterIn s op obj k)
    exec (.opDiagClearCnt r) s0 = .next (finish s0 (answered 0x3003 r .ok 0 [] ((gatedObjects s op obj).foldl (fun a _ => gatedAcc a) (clearCounters f s))))) ∧
  (∀ (r : Req) (s0 : State), Can.opDiagSelftest r s0 = true →
    let s := seen 0x3004 r s0
    exec (.opDiagSelftest r) s0 = .next (finish s0 (answered 0x3004 r .ok 0 
                (le 2 s.test.fail ++ le 2 s.test.ball ++ le 4 (c32 s 0x3004 0 8) ++ le 4 (c32 s 0x3004 0 12) ++
          (List.range 7).flatMap fun k => le 8 (s.test.lastRun.getD k 0)) s))) ∧
  (∀ (t : Nat) (check : Nat) (pass : Bool) (pre : State), Can.selftestCheckRun t check pass pre = true →
    let s := advance t pre
    let engine := decide (16 ≤ check) && decide (check < 30)
    let bit := if engine then 4 else check
    let s1 := { s with test := { s.test with lastRun := s.test.lastRun.put bit s.now } }
    let s2 := if check = 0 then
        let a := drawNat s1
        let b := drawNat a.2
        let s3 := bumpN 0x3004 0 8 (a.1 % 2 ^ 32) b.2
        if pass then s3 else bumpN 0x3004 0 12 (1 + b.1 % 2 ^ 32) s3
      else s1
    let bad := if ¬ engine then s2.test.badEngines
      else
        let rest := s2.test.badEngines.filter (· != check - 16)
        if pass then rest else (check - 16) :: rest
    let s3 := { s2 with test := { s2.test with badEngines := bad } }
    let fails := if engine then !bad.isEmpty
      else !pass || ((check == 1 || check == 3) && s.test.fail.testBit check)
    exec (.selftestCheckRun t check pass) pre = .next (finish pre (
      updReady (setFail bit fails s3)))) ∧
  (∀ (t : Nat) (ball : Nat) (level : Bool) (pre : State), Can.ballReadback t ball level pre = true →
    let s := advance t pre
    ∀ d, (if s.sys.state = .boot then none else drivenLevel s ball) = some d →
    let s1 := { s with test := { s.test with lastRun := s.test.lastRun.put 6 s.now } }
    let l := s1.test.badBalls
    exec (.ballReadback t ball level) pre = .next (finish pre (
      if d ≠ level then
        updReady (setFail 6 true
          { s1 with test := { s1.test with badBalls := l.put ball 0, ball := if l.isEmpty then ballCode ball else s1.test.ball } })
      else
        match Tbl.find ball l with
        | none => s1
        | some n =>
          if n + 1 < 16 then { s1 with test := { s1.test with badBalls := l.put ball (n + 1) } }
          else
            let rest := Tbl.del ball l
            let first := match rest with | [] => 0xFFFF | e :: _ => ballCode e.1
            updReady (setFail 6 (!rest.isEmpty)
              { s1 with test := { s1.test with badBalls := rest, ball := if s1.test.ball = ballCode ball then first else s1.test.ball } }))))

/-- Each of OP_TEST_PERMIT_CHALLENGE, OP_TEST_PERMIT_GRANT, OP_TEST_PERMIT_REVOKE, TEST_PERMIT_EXPIRY, OP_TEST_INJECT,
OP_TEST_STOP, OP_TEST_STATUS, TEST_INJECTION_END, INJECTED_ITEM_RELEASE completes: under the conditions that its rules set
on the state and the operands, exec answers the next state with its own effect, a request with its reply besides, and
changes nothing else before the end of the command: each grants, ends, starts or stops as its rule says. What of it rests on
a log entry marked DEDUCED, PRESUMED or DESIGN CHOICE is the model's choice and no rule of the spec: the instant of an
event, the packet layer and the end of every command on log entries 2, 6, 7, 8, 9, 13, 20, 21, 22, 23, 41, 46, 58, 63, 68,
80, 89, 91, 102, 115, 118, 124, 151, 155, 172, 173 and 180; OP_TEST_PERMIT_GRANT, OP_TEST_PERMIT_REVOKE, TEST_PERMIT_EXPIRY
besides on 125; OP_TEST_INJECT besides on 92; INJECTED_ITEM_RELEASE besides on 33, 34, 35, 69, 70, 71, 72, 73, 75, 76, 77,
88, 96, 97, 106, 108, 154, 174, 177, 178 and 195. -/
def Obligations.TestsComplete : Prop :=
  (∀ (r : Req) (s0 : State), Can.opTestPermitChallenge r s0 = true →
    let s := seen 0x3101 r s0
    let d := drawBytes 32 s
    let c : Challenge := { nonce := d.1, level := 0, expires := d.2.now + msT 60000 }
    exec (.opTestPermitChallenge r) s0 = .next (finish s0 (answered 0x3101 r .ok 0 (d.1 ++ fit 8 Config.deviceId) { d.2 with test := { d.2.test with challenge := some c } }))) ∧
  (∀ (r : Req) (s0 : State), Can.opTestPermitGrant r s0 = true →
    let p := r.payload
    let s := seen 0x3101 r s0
    let s1 := { s with test := { s.test with challenge := none } }
    exec (.opTestPermitGrant r) s0 = .next (finish s0 (
      if grantOk p s then
        (answered 0x3101 r .ok 0 [] (permitTo (u8 p 1) (s.now + msT (1000 * u16 p 2)) s1))
      else
        (answered 0x3101 r .auth 0 [] s1)))) ∧
  (∀ (r : Req) (s0 : State), Can.opTestPermitRevoke r s0 = true →
    let s := seen 0x3101 r s0
    exec (.opTestPermitRevoke r) s0 = .next (finish s0 (answered 0x3101 r .ok 0 [] (permitTo 0 0 s)))) ∧
  (∀ (t : Nat) (pre : State), Can.testPermitExpiry t pre = true →
    let s := advance t pre
    exec (.testPermitExpiry t) pre = .next (finish pre (
      permitTo 0 0 s))) ∧
  (∀ (r : Req) (s0 : State), Can.opTestInject r s0 = true →
    let p := r.payload
    let s := seen 0x3102 r s0
    let type := u8 p 1
    let target := u16 p 2
    let kind := u8 p 4
    let i : Inject :=
      { type := type, target := target, kind := kind, dir := injDir p, filter := u16 p 6, everyN := u16 p 8, depth := u8 p 10,
        until_ := s.now + usT (u32 p 12), count := u32 p 16, delay := u32 p 20, inService := s.sys.state == .service }
    let key := cKey 0x3104 0 (16 + 16 * u8 p 0)
    let s1 := clearCounters (fun k => k == key) { s with test := { s.test with slot := s.test.slot.put (u8 p 0) i } }
    let s2 := raise 0x3101 (det (u8 p 0) 1) [] s1
    exec (.opTestInject r) s0 = .next (finish s0 (answered 0x3102 r .ok 0 [] (if kind = 1 then linkDrop type target s2 else s2)))) ∧
  (∀ (r : Req) (s0 : State), Can.opTestStop r s0 = true →
    let p := r.payload
    let s := seen 0x3103 r s0
    exec (.opTestStop r) s0 = .next (finish s0 (answered 0x3103 r .ok 0 [] ((bitsOf 8 (u8 p 0)).foldl (fun a k => endInjection k 4 a) s)))) ∧
  (∀ (r : Req) (s0 : State), Can.opTestStatus r s0 = true →
    let s := seen 0x3104 r s0
    let one (k : Nat) : Bytes := match Tbl.find k s.test.slot with
      | none => fit 16 []
      | some i => le 1 i.type ++ le 1 i.kind ++ le 2 i.target ++ le 4 (c32 s 0x3104 0 (16 + 16 * k)) ++
          le 4 (leftOf s i.until_ 1600) ++ le 4 0
    exec (.opTestStatus r) s0 = .next (finish s0 (answered 0x3104 r .ok 0 
                (le 1 s.test.scope ++ le 1 (maskOf s.test.slot.keys) ++ le 2 0 ++
          le 4 (if s.test.scope = 0 then 0 else leftOf s s.test.expires 1600000000) ++ (List.range 8).flatMap one) s))) ∧
  (∀ (t : Nat) (slot : Nat) (pre : State), Can.testInjectionEnd t slot pre = true →
    let s := advance t pre
    exec (.testInjectionEnd t slot) pre = .next (finish pre (
      endInjection slot 2 s))) ∧
  (∀ (t : Nat) (slot : Nat) (pre : State), pre.pwr.inReset = false →
    let s := advance t pre
    let go (h : Held) : Bool := due s h.at_
    let l := s.test.late.filter fun e => go e.2.2
    let s1 := { s with test := { s.test with late := s.test.late.filter fun e => !go e.2.2 } }
    let s2 := l.foldl (fun a e => releaseItem e.1 e.2.1 e.2.2 a) s1
    exec (.injectedItemRelease t slot) pre = .next (finish pre (
      match Tbl.find slot s2.test.slot with
      | none => s2
      | some i =>
        let j := { i with held := i.held.filter fun h => !go h }
        let s3 := { s2 with test := { s2.test with slot := s2.test.slot.put slot j } }
        let s4 := (i.held.filter go).foldl (fun a h => releaseItem i.type i.target h a) s3
        match Tbl.find slot s4.test.slot with
        | some k => if k.spent then endInjection slot 3 s4 else s4
        | none => s4)))

/-- T_step is 32,000 ticks and T_pub half of it after reset. In every state but IDLE and ARMED OP_SYS_SET_STEP is refused
with ST_BAD_STATE. In IDLE and ARMED, a T_step that is no multiple of 80 is refused with ST_BAD_PARAM and one outside 8,000
to 160,000 with ST_RANGE; a T_pub given that is no multiple of 80 is refused with ST_BAD_PARAM and one outside 25 % to 95 %
of T_step with ST_RANGE. Every refusal keeps both values. Else T_step becomes the value given, and T_pub the one given, or
half of a new T_step rounded down to a multiple of 80 where none is given. What of it rests on a log entry marked DEDUCED,
PRESUMED or DESIGN CHOICE is the model's choice and no rule of the spec: log entries 2, 8, 9, 13, 18, 21, 22, 23, 46, 58,
63, 68, 80, 89, 91, 102, 115, 118, 124, 151, 155, 172, 173, 180. -/
def Obligations.SetStepRules : Prop :=
  State.reset.sys.tStep = 32000 ∧ State.reset.sys.tPub = 16000 ∧
  ∀ (r : Req) (s : State), Can.inTurn { code := 0x0006, states := stIA } r s = true →
    served (orig s r.org) { code := 0x0006, states := stIA } = true → r.last = true →
    let a := u32 r.payload 0
    let p := u32 r.payload 4
    let refused (st : Status) (detail : Nat) : Prop :=
      let t := finish s (answered 0x0006 r st detail [] (seen 0x0006 r s))
      exec (.opSysSetStep r) s = .next t ∧ t.sys.tStep = s.sys.tStep ∧ t.sys.tPub = s.sys.tPub
    let set (b : Nat) : Prop := ∃ t, exec (.opSysSetStep r) s = .next t ∧ t.sys.tStep = a ∧ t.sys.tPub = b
    (s.sys.state ≠ .idle → s.sys.state ≠ .armed → refused .badState 0) ∧
    (s.sys.state = .idle ∨ s.sys.state = .armed → s.pkt.failing = false → r.payload.length = 8 →
      (a % 80 ≠ 0 → refused .badParam 0) ∧
      (a % 80 = 0 → a < 8000 ∨ 160000 < a → refused .range 0) ∧
      (a % 80 = 0 → 8000 ≤ a → a ≤ 160000 →
        (p % 80 ≠ 0 → refused .badParam 4) ∧
        (p ≠ 0 → p % 80 = 0 → 100 * p < 25 * a ∨ 95 * a < 100 * p → refused .range 4) ∧
        (p ≠ 0 → p % 80 = 0 → 25 * a ≤ 100 * p → 100 * p ≤ 95 * a → set p) ∧
        (p = 0 → a ≠ s.sys.tStep → set (a / 2 / 80 * 80)) ∧
        (p = 0 → a = s.sys.tStep → 25 * a ≤ 100 * s.sys.tPub → 100 * s.sys.tPub ≤ 95 * a → set s.sys.tPub)))

/-- A device held in reset executes no request. A request packet of any opcode whose turn has not come (a packet that goes
before it is in flight, the one before it of its originator has started and its reply is deferred, or a reply of its
originator waits for space) has no effect: it is held in flight and waits. A request of any opcode that comes in its turn,
in a device state that the opcode's row of Tables 17.1 to 17.5 does not list under any condition, is answered ST_BAD_STATE,
and nothing of it is executed: in BOOT this holds of every family but SYS and SEC. What of it rests on a log entry marked
DEDUCED, PRESUMED or DESIGN CHOICE is the model's choice and no rule of the spec: log entries 2, 8, 9, 13, 21, 22, 23, 46,
58, 63, 68, 80, 89, 91, 102, 115, 118, 124, 151, 155, 172, 173, 180. -/
def Obligations.RequestsWaitTheirTurnAndState : Prop :=
  ∀ (i : Instr) (op : Op) (r : Req) (s : State), Can.requestOf i = some (op, r) →
    (s.pwr.inReset = false → turn op.code r (entered op.code r s) = false →
      exec i s = .next (finish s (entered op.code r s))) ∧
    (s.pwr.inReset = true → exec i s = .next (finish s s)) ∧
    (Can.inTurn op r s = true → served (orig s r.org) op = true → op.states.contains s.sys.state = false →
      exec i s = .next (finish s (answered op.code r .badState 0 [] (seen op.code r s))))

/-- To an originator that negotiated a 2.x version the families ANGLE, TWIN and TEST and the nine opcodes of R389 are
answered ST_BAD_OPCODE and not executed, whatever the device state; every other opcode is served to it, and every opcode to
an originator at 3.x. What of it rests on a log entry marked DEDUCED, PRESUMED or DESIGN CHOICE is the model's choice and no
rule of the spec: log entries 2, 8, 9, 13, 21, 22, 23, 46, 58, 63, 68, 80, 89, 91, 102, 115, 118, 124, 151, 155, 172, 173,
180. -/
def Obligations.UnservedOpcodeIsRefused : Prop :=
  ∀ (i : Instr) (op : Op) (r : Req) (s : State), Can.requestOf i = some (op, r) →
    (Can.inTurn op r s = true → (orig s r.org).ver / 16 = 2 → Can.notIn2 op.code = true →
      exec i s = .next (finish s (answered op.code r .badOpcode 0 [] (seen op.code r s)))) ∧
    ((orig s r.org).ver / 16 = 2 → Can.notIn2 op.code = false → served (orig s r.org) op = true) ∧
    ((orig s r.org).ver / 16 = 3 → served (orig s r.org) op = true)

/-- A sound request packet that the QSPI host pushes while there is room is compared by the signed difference of its SEQ to
EXPECTED. OP_SYS_HELLO and OP_SYS_RESYNC always pass and move no reference. Any other enters flight, and EXPECTED becomes
SEQ + 1 modulo 2^32, where no reference is held or the difference is zero; where it is not, it is a gap or a duplicate: it
does not enter flight, and EXPECTED and all that the originators' own packets have come to stay. What of it rests on a log
entry marked DEDUCED, PRESUMED or DESIGN CHOICE is the model's choice and no rule of the spec: log entries 2, 6, 7, 8, 13,
20, 21, 23, 41, 46, 58, 63, 68, 80, 89, 91, 102, 115, 118, 124, 151, 155, 172, 173. -/
def Obligations.SequenceCheck : Prop :=
  ∀ (t : Nat) (b : Bytes) (pre : State),
    let s := advance t pre
    let o := orig s 0
    let seq := u32 b 4
    let flight : Flight := { org := 0, seq := seq, opcode := u16 b 2, tag := u16 b 8, bytes := b.length,
                             ackReq := (u8 b 1).testBit 0, abortOnErr := (u8 b 1).testBit 3, since := s.now }
    pre.pwr.inReset = false → s.win.ready = true → s.pkt.inFlight.length < 512 → b.length ≤ rxFree s → Can.sound b = true →
    ∃ s1, exec (.qspiPushPacket t b) pre = .next (finish pre s1) ∧
      (u16 b 2 = 1 ∨ u16 b 2 = 2 →
        s1.pkt.inFlight = s.pkt.inFlight ++ [flight] ∧ (orig s1 0).expected = o.expected) ∧
      (u16 b 2 ≠ 1 → u16 b 2 ≠ 2 → o.expected = none ∨ (∃ e, o.expected = some e ∧ sdiff seq e = 0) →
        s1.pkt.inFlight = s.pkt.inFlight ++ [flight] ∧ (orig s1 0).expected = some ((seq + 1) % 2 ^ 32)) ∧
      (u16 b 2 ≠ 1 → u16 b 2 ≠ 2 → ∀ e, o.expected = some e → sdiff seq e ≠ 0 → inbound s1 = inbound s)

/-- The value of a table at α takes k from bits 31 to 22 and frac from bits 21 to 0; with d the step from entry k to entry
(k + 1) mod 1024, formed without wrapping, it is entry k plus d · frac / 2^22 rounded as R7 says; it always lies between the
two entries, and entry 1,023 interpolates toward entry 0. -/
def Obligations.AngleInterpolation : Prop :=
  ∀ (x : AngTab) (alpha : Nat), alpha < 2 ^ 32 →
    let entry (k : Nat) : Int := x.act.getD k 0
    let k := alpha >>> 22
    let frac := alpha &&& 0x3FFFFF
    let next := if k = 1023 then 0 else k + 1
    let d : Int := entry next - entry k
    angValue x alpha = entry k + rnd ((d : Rat) * frac / 2 ^ 22) ∧
    min (entry k) (entry next) ≤ angValue x alpha ∧ angValue x alpha ≤ max (entry k) (entry next)

/-- What the ranker picks for a level change is a usable cell of the arm's list in the state that the change leaves: a zero
state for an insertion, which goes to +1 upward and to -1 downward, and -1 or +1 for a removal, which goes to a zero state.
An inserted cell is not excluded by its voltage; an excluded cell can still be removed. A cell that has not rested for 1/(2
F_CELL_MAX) is picked only where every such cell is resting, and then it is one that has rested longest. What of it rests on
a log entry marked DEDUCED, PRESUMED or DESIGN CHOICE is the model's choice and no rule of the spec: log entries 52, 166. -/
def Obligations.RankerPicksRightly : Prop :=
  ∀ (s : State) (a : Nat) (up : Bool) (i : Rat) (execAt id new : Nat) (woke : Bool),
    pick s a up i execAt = some (id, new, woke) →
    Can.mayMove s a up i id ∧
    (Can.inserts s a up = true → new = if up then 1 else 4) ∧ (Can.inserts s a up = false → new = 2 ∨ new = 3) ∧
    (woke = false → rested s (arm s a) execAt id = true) ∧
    (woke = true → ∀ j, Can.mayMove s a up i j → rested s (arm s a) execAt j = false ∧ cmdAt s id ≤ cmdAt s j)

/-- Counting on a 32-bit counter of a block that is not gated adds to it until 0xFFFF_FFFF, where it stops, lists the
counter once when it comes there, or says that the list of 256 was full, and changes no other counter; a counter of a gated
block does not count. What of it rests on a log entry marked DEDUCED, PRESUMED or DESIGN CHOICE is the model's choice and no
rule of the spec: log entries 21, 151. -/
def Obligations.CountersSaturate : Prop :=
  ∀ (op obj off n : Nat) (s : State),
    let t := count op obj off n s
    (gated s op obj = true → t = s) ∧
    (gated s op obj = false →
      c32 t op obj off = min 0xFFFFFFFF (c32 s op obj off + n) ∧
      (∀ k, k ≠ cKey op obj off → t.cnt.getD k 0 = s.cnt.getD k 0) ∧
      (c32 s op obj off = 0xFFFFFFFF → t.test.sat = s.test.sat) ∧
      (c32 s op obj off < 0xFFFFFFFF → 0xFFFFFFFF ≤ c32 s op obj off + n → s.test.sat.length < 256 →
        t.test.sat = s.test.sat ++ [cKey op obj off]) ∧
      (c32 s op obj off < 0xFFFFFFFF → 0xFFFFFFFF ≤ c32 s op obj off + n → 256 ≤ s.test.sat.length →
        t.test.sat = s.test.sat ∧ t.test.listOvf = true))

/-- Every request that only reads, executed or refused, in every device state in which no reaction waits, leaves the device
state, the clocks, the supplies, the images and fuses, MRAM, the Gauntlet, network time, the cells, the control laws, the
channels, the angle tables, the legs, the converters, the filter chains and the twin as they are: it changes the packet
layer, what is queued to others and the counters alone. What of it rests on a log entry marked DEDUCED, PRESUMED or DESIGN
CHOICE is the model's choice and no rule of the spec: log entries 2, 8, 9, 13, 21, 22, 23, 46, 58, 63, 68, 80, 89, 91, 102,
115, 118, 124, 151, 155, 172, 173, 180. -/
def Obligations.ReadsLeaveTheDevice : Prop :=
  ∀ (i : Instr) (s : State), Can.reads i = true → Safety.Inv s → quiet s = true →
    ∃ t, exec i s = .next t ∧ device t = device s

/-- Where OP_ANGLE_WRITE is executed, entries START to START + COUNT - 1 of the named table's shadow bank take the values of
the payload, and every other entry of every bank of every table, and every table's configuration, stays; where it is refused
or not executed for any reason, no entry of any table changes. OP_ANGLE_READ changes no entry. What of it rests on a log
entry marked DEDUCED, PRESUMED or DESIGN CHOICE is the model's choice and no rule of the spec: log entries 2, 8, 9, 13, 21,
22, 23, 46, 49, 58, 63, 68, 80, 89, 91, 102, 115, 118, 124, 151, 155, 172, 173, 180. -/
def Obligations.AngleWriteShadowOnly : Prop :=
  (∀ (r : Req) (s : State), ∃ t, exec (.opAngleWrite r) s = .next t ∧
    (Can.opAngleWrite r s = false → t.angle.tab = s.angle.tab) ∧
    (Can.opAngleWrite r s = true → ∀ n,
      let x := angTab s n
      let y := angTab t n
      (∀ k, y.sh.getD k 0 =
        if n = u8 r.payload 0 ∧ u16 r.payload 2 ≤ k ∧ k < u16 r.payload 2 + u16 r.payload 4 then
          i32 r.payload (8 + 4 * (k - u16 r.payload 2))
        else x.sh.getD k 0) ∧
      y.act = x.act ∧ y.src = x.src ∧ y.mult = x.mult ∧ y.offset = x.offset ∧ y.cfgPend = x.cfgPend)) ∧
  (∀ (r : Req) (s : State), ∃ t, exec (.opAngleRead r) s = .next t ∧ t.angle.tab = s.angle.tab)

/-- OP_GFM_SET_PARAM and OP_GRID_SET_PARAM, in every state and however they end, change no active target and no value in use
of either parameter set, and leave the other set and the channel map alone. An executed OP_GFM_DISCARD or OP_GRID_DISCARD
makes the staged values those of the active target; an executed OP_GFM_COMMIT or OP_GRID_COMMIT makes the active target the
staged values and moves no value in use before the next boundary. What of it rests on a log entry marked DEDUCED, PRESUMED
or DESIGN CHOICE is the model's choice and no rule of the spec: log entries 2, 8, 9, 13, 21, 22, 23, 27, 46, 58, 63, 68, 80,
89, 91, 102, 115, 118, 124, 151, 155, 172, 173, 180. -/
def Obligations.ParametersChangeByCommitOnly : Prop :=
  (∀ (r : Req) (s : State), ∃ t, exec (.opGfmSetParam r) s = .next t ∧ t.gfm.par.target = s.gfm.par.target ∧
    t.gfm.par.present = s.gfm.par.present ∧ t.gfm.map = s.gfm.map ∧ t.grid.par = s.grid.par) ∧
  (∀ (r : Req) (s : State), ∃ t, exec (.opGridSetParam r) s = .next t ∧ t.grid.par.target = s.grid.par.target ∧
    t.grid.par.present = s.grid.par.present ∧ t.gfm.map = s.gfm.map ∧ t.gfm.par = s.gfm.par) ∧
  (∀ (r : Req) (s : State), Can.opGfmDiscard r s = true → ∃ t, exec (.opGfmDiscard r) s = .next t ∧
    t.gfm.par.staged = s.gfm.par.target ∧ t.gfm.par.target = s.gfm.par.target ∧ t.gfm.par.present = s.gfm.par.present) ∧
  (∀ (r : Req) (s : State), Can.opGridDiscard r s = true → ∃ t, exec (.opGridDiscard r) s = .next t ∧
    t.grid.par.staged = s.grid.par.target ∧ t.grid.par.target = s.grid.par.target ∧ t.grid.par.present = s.grid.par.present) ∧
  (∀ (r : Req) (s : State), Can.opGfmCommit r s = true → ∃ t, exec (.opGfmCommit r) s = .next t ∧
    t.gfm.par.staged = s.gfm.par.staged ∧ t.gfm.par.target = s.gfm.par.staged ∧ t.gfm.par.present = s.gfm.par.present) ∧
  (∀ (r : Req) (s : State), Can.opGridCommit r s = true → ∃ t, exec (.opGridCommit r) s = .next t ∧
    t.grid.par.staged = s.grid.par.staged ∧ t.grid.par.target = s.grid.par.staged ∧ t.grid.par.present = s.grid.par.present)

/-- A power-on reset, a supply's reset, a POR_N reset and an OP_SEC_REBOOT that is executed, in whatever state they come,
bring the device to BOOT, in reset, with the timebase off, RESET_OUT_N driven low where the supplies drive it, FAULT_OUT_N
asserted, and the packet layer, the Gauntlet's table in force and the angle tables as after reset. Every leg is in mitten
and every gate deasserted, but that a leg's hold in progress, or one that its MIT_LATE setting starts, keeps the gates that
it names and that were asserted; a power-on reset keeps none. MRAM stays, but for what was being written or blown at that
instant: a boot record being written (each copy old, new or failing its CRC-32C), the ROLLBACK fuses being blown (between
the old value and the target), and the flag of an owner's key. The cell nodes' identities and states remain. The cause that
stands is that of the first reset: POWER, SAG with its supply, POR_N or REBOOT. The gates of a hold over a reset rest on log
entry 12, what is old and what new on log entries 2 and 196: the model's choices. What of it rests on a log entry marked
DEDUCED, PRESUMED or DESIGN CHOICE is the model's choice and no rule of the spec: log entries 2, 4, 8, 9, 12, 13, 21, 22,
23, 46, 58, 63, 65, 68, 80, 89, 91, 102, 110, 115, 118, 124, 151, 155, 172, 173, 180, 196, 197. -/
def Obligations.ResetKeepsMramAndMittens : Prop :=
  ∀ (c : Instr) (s u : State), Can.resetOf c s = some u → ∃ t, exec c s = .next t ∧
    t.sys.state = .boot ∧ t.pwr.inReset = true ∧ t.clk.tb = .off ∧ t.gnt.faultOut = true ∧ t.pkt = State.reset.pkt ∧
    t.gnt.table = none ∧ t.gnt.tableNext = none ∧ t.angle = State.reset.angle ∧
    (t.pwr.ioOff = false → ballLevel .resetOutN t = .low ∧ ballLevel .faultOutN t = .low) ∧
    (∀ n, (leg t n).mitten = true ∧
      (leg t n).gh = (decide (c ≠ .powerOn) && (leg u n).gh && Can.keepsGate (leg u n) 1) ∧
      (leg t n).gl = (decide (c ≠ .powerOn) && (leg u n).gl && Can.keepsGate (leg u n) 0)) ∧
    { t.mram with boot1 := u.mram.boot1, boot2 := u.mram.boot2, rollback := u.mram.rollback, partialOff := u.mram.partialOff } = u.mram ∧
    (u.sec.bootOld.map Prod.snd ≠ some u.now → t.mram.boot1 = u.mram.boot1 ∧ t.mram.boot2 = u.mram.boot2) ∧
    (∀ old, u.sec.bootOld = some (old, u.now) →
      (t.mram.boot1 = u.mram.boot1 ∨ t.mram.boot1 = some old ∨ t.mram.boot1 = none) ∧
      (t.mram.boot2 = u.mram.boot2 ∨ t.mram.boot2 = some old ∨ t.mram.boot2 = none) ∧
      (t.mram.boot1 ≠ none ∨ t.mram.boot2 ≠ none ∨ u.mram.boot1 = none ∨ u.mram.boot2 = none)) ∧
    (u.sec.blowing = none → t.mram.rollback = u.mram.rollback) ∧
    (∀ old at_, u.sec.blowing = some (old, at_) → old ≤ u.mram.rollback → old ≤ t.mram.rollback ∧ t.mram.rollback ≤ u.mram.rollback) ∧
    (u.sec.fusing = none → t.mram.partialOff = u.mram.partialOff) ∧
    (∀ n, (Tbl.find n t.node).map (fun x => (x.id, x.state, x.fault)) = (Tbl.find n u.node).map fun x => (x.id, x.state, x.fault)) ∧
    (u.pwr.inReset = false → u.pwr.low = [] → t.pwr.cause = Can.resetCause c) ∧
    (∀ k, u.pwr.inReset = false → u.pwr.low = [] → c = .sagReset k → t.pwr.sagSupply = k)
end

