-- ==== Sys2Proof/Laws/Word.lean ====
section
/-! SUPPORT. What reading a sparse table after a write gives. -/

namespace Sys2Proof

theorem Tbl.find_put_self {α : Type} (k : Nat) (x : α) (t : Tbl α) : Tbl.find k (Tbl.put k x t) = some x := by
  induction t with
  | nil => simp [Tbl.put, Tbl.find]
  | cons e r ih =>
    obtain ⟨j, y⟩ := e
    unfold Tbl.put
    split
    · simp [Tbl.find]
    · split
      · simp [Tbl.find]
      · simp [Tbl.find, *]

theorem Tbl.find_put_other {α : Type} {k j : Nat} (h : j ≠ k) (x : α) (t : Tbl α) :
    Tbl.find j (Tbl.put k x t) = Tbl.find j t := by
  induction t with
  | nil => simp [Tbl.put, Tbl.find, h.symm]
  | cons e r ih =>
    obtain ⟨i, y⟩ := e
    unfold Tbl.put
    split
    · subst_vars
      simp [Tbl.find, h.symm]
    · split
      · simp [Tbl.find, h.symm]
      · simp [Tbl.find, ih]

@[simp] theorem Tbl.getD_put_self {α : Type} (k : Nat) (x d : α) (t : Tbl α) : Tbl.getD (Tbl.put k x t) k d = x := by
  simp [Tbl.getD, Tbl.find_put_self]

theorem Tbl.getD_put_other {α : Type} {k j : Nat} (h : j ≠ k) (x d : α) (t : Tbl α) :
    Tbl.getD (Tbl.put k x t) j d = Tbl.getD t j d := by
  simp [Tbl.getD, Tbl.find_put_other h]

theorem Tbl.find_del_self {α : Type} (k : Nat) (t : Tbl α) : Tbl.find k (Tbl.del k t) = none := by
  induction t with
  | nil => rfl
  | cons e r ih =>
    obtain ⟨j, y⟩ := e
    by_cases h : j = k <;> simp_all [Tbl.del, Tbl.find]

theorem Tbl.find_del_other {α : Type} {k j : Nat} (h : j ≠ k) (t : Tbl α) : Tbl.find j (Tbl.del k t) = Tbl.find j t := by
  induction t with
  | nil => rfl
  | cons e r ih =>
    obtain ⟨i, y⟩ := e
    by_cases hi : i = k
    · subst hi
      simp_all [Tbl.del, Tbl.find, h.symm]
    · simp_all [Tbl.del, Tbl.find]

@[simp] theorem Tbl.getD_del_self {α : Type} (k : Nat) (d : α) (t : Tbl α) : Tbl.getD (Tbl.del k t) k d = d := by
  simp [Tbl.getD, Tbl.find_del_self]

theorem Tbl.getD_del_other {α : Type} {k j : Nat} (h : j ≠ k) (d : α) (t : Tbl α) :
    Tbl.getD (Tbl.del k t) j d = Tbl.getD t j d := by
  simp [Tbl.getD, Tbl.find_del_other h]

theorem Tbl.sorted_cons {α : Type} (e : Nat × α) (t : Tbl α) :
    Tbl.sorted (e :: t) = true ↔ (∀ f ∈ t.head?, e.1 < f.1) ∧ Tbl.sorted t = true := by
  cases t <;> simp [Tbl.sorted]

theorem Tbl.put_head {α : Type} (k : Nat) (x : α) (t : Tbl α) :
    ∃ y, (Tbl.put k x t).head? = some y ∧ (y.1 = k ∨ ∃ z ∈ t.head?, y.1 = z.1) := by
  cases t with
  | nil => simp [Tbl.put]
  | cons e r =>
    obtain ⟨j, y⟩ := e
    unfold Tbl.put
    split
    · simp
    · split <;> simp

/-- A write keeps the keys rising. -/
theorem Tbl.sorted_put {α : Type} (k : Nat) (x : α) {t : Tbl α} (h : Tbl.sorted t = true) : Tbl.sorted (Tbl.put k x t) = true := by
  induction t with
  | nil => rfl
  | cons e r ih =>
    obtain ⟨j, y⟩ := e
    have hs := (Tbl.sorted_cons _ _).mp h
    unfold Tbl.put
    split
    · subst_vars
      exact (Tbl.sorted_cons _ _).mpr hs
    · split
      · exact (Tbl.sorted_cons _ _).mpr ⟨by simpa, h⟩
      · refine (Tbl.sorted_cons _ _).mpr ⟨?_, ih hs.2⟩
        obtain ⟨z, hz, hk⟩ := Tbl.put_head k x r
        intro f hf
        rw [hz] at hf
        cases hf
        rcases hk with hk | ⟨w, hw, hk⟩
        · simp only; omega
        · rw [hk]
          exact hs.1 w hw

end Sys2Proof
end

