-- ==== Sys2Proof/Laws/Run.lean ====
section
/-! SUPPORT. What a request packet does when it reaches its chapter (16_command_transport.md R366 to R369). -/

namespace Sys2Proof.Machine

open Sys2Proof Sys2Proof.Safety

@[simp] theorem orig_setOrig_self (id : Nat) (o : Orig) (s : State) : orig (setOrig id o s) id = o := by
  simp [orig, setOrig]

theorem orig_setOrig_other {id j : Nat} (h : j ≠ id) (o : Orig) (s : State) : orig (setOrig id o s) j = orig s j := by
  simp [orig, setOrig, Tbl.getD_put_other h]

/-- An event reaches a device that is not held in reset. -/
theorem ev_live {t : Nat} {s : State} {f : State → State} (h : s.pwr.inReset = false) :
    ev t s f = .next (finish s (f (advance t s))) := by
  simp [ev, h]

/-- An event does not reach a device held in reset. -/
theorem ev_reset {t : Nat} {s : State} {f : State → State} (h : s.pwr.inReset = true) : ev t s f = .next (finish s s) := by
  simp [ev, h]

/-- The first failing check refuses; where none fails, the request is executed. -/
theorem chk_passes {l : List (Bool × Status × Nat)} (h : passes l = true) (k : Unit → Ans) : chk l k = k () := by
  have hn : l.find? (fun c => c.1) = none := by
    rw [List.find?_eq_none]
    intro c hc
    have := List.all_eq_true.mp h c hc
    simpa using this
  simp [chk, hn]

/-! ### What entering flight leaves alone -/

@[simp] theorem entered_orig (code : Nat) (r : Req) (s : State) (id : Nat) : orig (entered code r s) id = orig s id := by
  unfold entered; split <;> rfl

@[simp] theorem entered_sys (code : Nat) (r : Req) (s : State) : (entered code r s).sys = s.sys := by
  unfold entered; split <;> rfl

@[simp] theorem entered_pwr (code : Nat) (r : Req) (s : State) : (entered code r s).pwr = s.pwr := by
  unfold entered; split <;> rfl

@[simp] theorem entered_failing (code : Nat) (r : Req) (s : State) : (entered code r s).pkt.failing = s.pkt.failing := by
  unfold entered; split <;> rfl

@[simp] theorem seen_sys (code : Nat) (r : Req) (s : State) : (seen code r s).sys = s.sys := entered_sys code r s

@[simp] theorem seen_pwr (code : Nat) (r : Req) (s : State) : (seen code r s).pwr = s.pwr := entered_pwr code r s

@[simp] theorem seen_orig_self (code : Nat) (r : Req) (s : State) :
    orig (seen code r s) r.org = { orig s r.org with aborting := none } := by
  simp [seen]

/-- A packet that reaches its chapter, the last of its request, is answered with what the chapter gives. -/
theorem runReq_reaches {op : Op} {r : Req} {s : State} (h : reaches op r s = true) (ho : outside op = false)
    (part body : Bytes → State → Ans) :
    runReq op r s part body =
      conclude (owedTo r op.code) (body (if op.chained then whole r s else r.payload) (seen op.code r s)) (seen op.code r s) := by
  have ho0 : orig (entered op.code r s) r.org = orig s r.org := entered_orig ..
  have hf0 : (entered op.code r s).pkt.failing = s.pkt.failing := entered_failing ..
  simp only [reaches, ho, Bool.false_or, Bool.and_eq_true, Bool.not_eq_true', bne_iff_ne, ne_eq] at h
  obtain ⟨⟨⟨⟨⟨⟨hr, ht⟩, hf⟩, ⟨ha, hd⟩, hx⟩, hs⟩, hst⟩, hl⟩ := h
  have hx' : otherChain (orig (seen op.code r s) r.org) op r = false := by
    simpa [seen, otherChain] using hx
  have hs' : served (orig (seen op.code r s) r.org) op = true := by simpa [seen, served] using hs
  have hst' : op.states.contains (seen op.code r s).sys.state = true := by
    rw [seen_sys]; exact hst
  have hd' : (orig (seen op.code r s) r.org).deadChain ≠ some (op.code, r.tag) := by simpa [seen] using hd
  have hf' : (seen op.code r s).pkt.failing = false := by
    simp only [seen, setOrig]; rw [hf0]; exact hf
  have hp : chainPayload (orig (seen op.code r s) r.org) ++ r.payload = whole r s := by simp [seen, whole, chainPayload]
  have he : setOrig r.org { orig (entered op.code r s) r.org with aborting := none } (entered op.code r s) = seen op.code r s := by
    rw [ho0]; rfl
  have ha' : ¬ ((orig (entered op.code r s) r.org).aborting = some r.tag) := by rw [ho0]; exact ha
  unfold runReq
  simp only [hr, ht, ho, he, ha', hl, hd', hx', hs', hst', hf', if_false, not_true_eq_false, Bool.false_eq_true, and_false, false_and,
    not_false_eq_true]
  rw [hp]

/-- RESYNC stands outside batch aborts and chains, and HELLO comes through them. -/
theorem runReq_outside {op : Op} {r : Req} {s : State} (h : reaches op r s = true) (ho : outside op = true)
    (hc : op.chained = false) (part body : Bytes → State → Ans) :
    runReq op r s part body =
      conclude (owedTo r op.code) (body r.payload (entered op.code r s)) (entered op.code r s) := by
  have ho0 : orig (entered op.code r s) r.org = orig s r.org := entered_orig ..
  have hs0 : (entered op.code r s).sys = s.sys := entered_sys ..
  have hf0 : (entered op.code r s).pkt.failing = s.pkt.failing := entered_failing ..
  simp only [reaches, ho, Bool.true_or, Bool.and_true, Bool.and_eq_true, Bool.not_eq_true'] at h
  obtain ⟨⟨⟨⟨⟨hr, ht⟩, hf⟩, hs⟩, hst⟩, hl⟩ := h
  have hs' : served (orig (entered op.code r s) r.org) op = true := by rw [ho0]; exact hs
  have hst' : op.states.contains (entered op.code r s).sys.state = true := by rw [hs0]; exact hst
  have hf' : (entered op.code r s).pkt.failing = false := by rw [hf0]; exact hf
  unfold runReq
  simp only [hr, ht, ho, hl, hs', hst', hf', hc, if_false, if_true, not_true_eq_false, Bool.false_eq_true, false_and]

/-- A device held in reset executes no request. -/
theorem runReq_reset {op : Op} {r : Req} {s : State} (h : s.pwr.inReset = true) (part body : Bytes → State → Ans) :
    runReq op r s part body = s := by
  simp [runReq, h]

/-- A packet whose turn has not come is held in flight. -/
theorem runReq_waits {op : Op} {r : Req} {s : State} (h0 : s.pwr.inReset = false)
    (h : turn op.code r (entered op.code r s) = false) (part body : Bytes → State → Ans) :
    runReq op r s part body = entered op.code r s := by
  simp [runReq, h0, h]

/-- A packet in its turn whose opcode is not served, or not in this device state, is refused. -/
theorem runReq_refuses {op : Op} {r : Req} {s : State} {st : Status} (h0 : s.pwr.inReset = false)
    (ht : turn op.code r (entered op.code r s) = true) (ho : outside op = false)
    (ha : (orig s r.org).aborting ≠ some r.tag) (hd : (orig s r.org).deadChain ≠ some (op.code, r.tag))
    (hx : otherChain (orig s r.org) op r = false)
    (hst : served (orig s r.org) op = false ∧ st = .badOpcode ∨
      served (orig s r.org) op = true ∧ op.states.contains s.sys.state = false ∧ st = .badState)
    (part body : Bytes → State → Ans) :
    runReq op r s part body = answered op.code r st 0 [] (seen op.code r s) := by
  have hc : op.code ≠ 1 ∧ op.code ≠ 2 := by simpa [outside] using ho
  have hx' : otherChain { orig s r.org with aborting := none } op r = false := by simpa [otherChain] using hx
  have hs' : served { orig s r.org with aborting := none } op = served (orig s r.org) op := rfl
  have he : setOrig r.org { orig s r.org with aborting := none } (entered op.code r s) = seen op.code r s := rfl
  have hn (d : Nat) : conclude (owedTo r op.code) (.no st d) (seen op.code r s) = answered op.code r st d [] (seen op.code r s) := by
    simp [conclude, answered, owedTo, hc.1, hc.2]
  unfold runReq
  rcases hst with ⟨h1, rfl⟩ | ⟨h1, h2, rfl⟩
  · simp only [h0, ht, ho, entered_orig, he, ha, seen_orig_self, hd, hx', hs', h1, hn, if_false, if_true, not_true_eq_false,
      not_false_eq_true, Bool.false_eq_true, and_false]
  · simp only [h0, ht, ho, entered_orig, he, ha, seen_orig_self, seen_sys, hd, hx', hs', h1, h2, hn, if_false, if_true,
      not_true_eq_false, not_false_eq_true, Bool.false_eq_true, and_false]

/-! ### How a request that its chapter has taken is answered -/

theorem conclude_ite (o : Owed) (p : Prop) [Decidable p] (a b : Ans) (s : State) :
    conclude o (if p then a else b) s = if p then conclude o a s else conclude o b s :=
  apply_ite (conclude o · s) p a b

theorem conclude_no {c : Nat} (h1 : c ≠ 1) (h : c ≠ 2) (r : Req) (st : Status) (d : Nat) (s : State) :
    conclude (owedTo r c) (.no st d) s = answered c r st d [] s := by
  simp [conclude, answered, owedTo, h1, h]

theorem conclude_yes {c : Nat} (h : c ≠ 2) (r : Req) (s1 : State) (st : Status) (d : Nat) (data : Bytes) (s : State) :
    conclude (owedTo r c) (.yes s1 st d data) s = answered c r st d data s1 := by
  simp [conclude, answered, owedTo, h]

theorem conclude_done {c : Nat} (h : c ≠ 2) (r : Req) (s1 s : State) :
    conclude (owedTo r c) (.done s1) s = answered c r .ok 0 [] s1 := conclude_yes h r s1 .ok 0 [] s

theorem conclude_give {c : Nat} (h : c ≠ 2) (r : Req) (s1 : State) (data : Bytes) (s : State) :
    conclude (owedTo r c) (.give s1 data) s = answered c r .ok 0 data s1 := conclude_yes h r s1 .ok 0 data s

theorem conclude_chain {c : Nat} (h : c ≠ 2) (r : Req) (s1 : State) (data : Bytes) (s : State) :
    conclude (owedTo r c) (.chain s1 data) s = answeredChain c r data s1 := by
  simp [conclude, answeredChain, owedTo, h]

theorem conclude_later {c : Nat} (h : c ≠ 2) (r : Req) (s1 s : State) :
    conclude (owedTo r c) (.later s1) s = deferred c r s1 := by
  simp [conclude, deferred, owedTo, h]

end Sys2Proof.Machine
end

