-- ==== Sys2Proof/Laws/Finish.lean ====
section
/-! SUPPORT. What the end of a command leaves alone, whatever it has to answer, to send and to settle. -/

namespace Sys2Proof.Machine

open Sys2Proof Sys2Proof.Safety

@[simp] theorem keptSys_mk (x : Sys) (state_ : DevState) (mode_ : GridMode) (trans_ : Option Trans) :
    keptSys ⟨state_, mode_, trans_, x.tStep, x.tPub, x.stepStart, x.late, x.stepDone, x.pubFor, x.doneAt, x.missRun,
    x.minSlack, x.lastSlack, x.minTick, x.slackFresh, x.halted⟩ = keptSys x := id rfl

@[simp] theorem keptClk_mk (x : Clk) (ready_ : Tbl Nat) (xoSettling_ : Bool) (xoFrom_ : Nat) (xoSettled_ : Bool) (oscSet_ : Nat) (tb_ :
    TbState) (fromCoast_ : Bool) (source_ : Nat) (tripAt_ : Option Nat) (everRan_ : Bool) (holdValid_ : Bool) (word_ held_ : Int)
    (speed_ recSince_ : Nat) (lockedTicks_ : Nat) (lockTick_ : Nat) (holdSince_ : Nat) (netLock_ : Bool) :
    keptClk ⟨x.list, x.auto, x.revert, x.xoMode, x.xoKhz, x.tolPpm, x.peTh, x.fslew, ready_, xoSettling_, xoFrom_, xoSettled_,
    oscSet_, tb_, fromCoast_, source_, tripAt_, everRan_, holdValid_, word_, held_, speed_, recSince_, lockedTicks_, lockTick_, holdSince_,
    x.refout, x.gateMask, x.gatePend, netLock_⟩ = keptClk x := id rfl

@[simp] theorem keptSec_mk (x : Sec) (journalQ_ : List (Nat × Bytes)) :
    keptSec ⟨x.slotA, x.slotB, x.running, x.tryRun, x.verifying, x.verifyQ, x.loadWait, x.debug, x.dbgChallenge, x.dbgFails,
    x.dbgLocked, x.saving, x.fusing, x.bootOld, x.blowing, journalQ_⟩ = keptSec x := id rfl

@[simp] theorem keptGfm_mk (x : Gfm) (obs_ : Observer) (far_ : Observer) (run_ : Run) (work_ : Option Run) (inForce_ : Pub)
    (ready_ : Option Pub) (hist_ : List (Nat × Rat × Rat × Rat)) (io_ : Rat × Rat) (vdq_ : Rat × Rat) (vPos_ : Rat) (thetaV_
    : Rat) (vLineMin_ : Rat) (vLineMax_ : Rat) (thetaI_ : Rat) (thetaIAt_ : Nat) (opened_ : Option (Nat × Option Rat)) (boundary_ : Nat) :
    keptGfm ⟨x.par, x.map, obs_, far_, run_, work_, inForce_, ready_, hist_, io_, vdq_, vPos_, thetaV_, vLineMin_,
    vLineMax_, thetaI_, thetaIAt_, x.dfSec, x.dfTarget, x.secAt, x.secStale, x.socMean, opened_, boundary_⟩ = keptGfm x := id rfl

@[simp] theorem keptGrid_mk (x : Grid) (timer_ : Tbl EnvTimer) (envV_ : Bool) (envF_ : Bool) (fHist_ : List (Nat × Rat))
    (rocof_ : Rat) (rocofHi_ : Bool) (rocofOkSince_ : Option Nat) (rocofArmed_ : Bool) (jumpLast_ : Int) (island_ : Bool)
    (clHold_ : Bool) (bs_ : Option BsRun) (seen_ seenWork_ : EvSeen) :
    keptGrid ⟨x.par, x.env, timer_, envV_, envF_, fHist_, rocof_, rocofHi_, rocofOkSince_, rocofArmed_, jumpLast_, island_,
    clHold_, x.sync, x.bsGroup, x.bsProg, bs_, seen_, seenWork_⟩ = keptGrid x := id rfl

@[simp] theorem keptAngle_mk (x : Angle) (inj_ : Option InjRun) (reporting_ : Option (Bytes × InjRun)) :
    keptAngle ⟨x.tab, x.bind, x.swaps, x.copying, x.injCfg, inj_, x.corr, reporting_, x.report⟩ = keptAngle x := id rfl

@[simp] theorem keptTest_mk (x : Test) (slot_ : Tbl Inject) (late_ : List (Nat × Nat × Held)) (fail_ : Nat) (ball_ : Nat)
    (badBalls_ : Tbl Nat) (lastRun_ : Tbl Nat) (badEngines_ : List Nat) (sat_ : List Nat) (listOvf_ : Bool) (satNew_ : List Nat) :
    keptTest ⟨x.scope, x.expires, x.challenge, slot_, late_, fail_, ball_, badBalls_, lastRun_, badEngines_, sat_, listOvf_, satNew_⟩
    = keptTest x := id rfl

@[simp] theorem kept_mk (s : State) {sys : Sys} {pkt : Pkt} {win : Win} {clk : Clk} {sec : Sec} {test : Test} {gnt : Gnt} {part : Part}
    {net : Net} {lane : Lanes} {strand : Tbl Strand} {cell : Tbl Cell} {gfm : Gfm} {grid : Grid} {chan : Tbl Chan}
    {arm : Tbl Arm} {angle : Angle} {leg : Tbl Leg} {twin : Twin} {pond : Pond} {balls : Balls} {occ : List Occ}
    {onceLast : List (Nat × Nat)} {cnt cnt64 : Tbl Nat} {once : List (Nat × Nat)} {draws : Nat} {pending : List Instr}
    (hs : keptSys sys = keptSys s.sys) (hc : keptClk clk = keptClk s.clk) (he : keptSec sec = keptSec s.sec)
    (ht : keptTest test = keptTest s.test) (hg : keptGfm gfm = keptGfm s.gfm) (hr : keptGrid grid = keptGrid s.grid)
    (ha : keptAngle angle = keptAngle s.angle) :
    kept ⟨s.now, sys, pkt, win, clk, s.pwr, sec, s.mram, test, gnt, part, net, s.time, lane, strand, cell, s.node, gfm, grid, chan,
      arm, angle, leg, s.conv, s.pair, s.filt, twin, pond, balls, occ, onceLast, cnt, cnt64, once, draws, pending⟩ = kept s := by
  simp [kept, hs, hc, he, ht, hg, hr, ha]

theorem kept_foldl {α : Type} (l : List α) (g : State → α → State) (s : State) (h : ∀ a x, kept (g a x) = kept a) :
    kept (l.foldl g s) = kept s := by
  induction l generalizing s with
  | nil => rfl
  | cons x r ih => exact (ih (g s x)).trans (h s x)

@[simp] theorem kept_ite (c : Prop) [Decidable c] (a b : State) : kept (if c then a else b) = if c then kept a else kept b :=
  apply_ite kept c a b

@[simp] theorem kept_pondNote (type sel inst val : Nat) (s : State) : kept (pondNote type sel inst val s) = kept s := by
  unfold pondNote
  dsimp only
  (repeat' split) <;> simp

@[simp] theorem kept_notePins (s : State) : kept (notePins s) = kept s := by
  unfold notePins
  dsimp only
  exact (kept_foldl _ _ _ fun a x => by simp).trans (by simp)

@[simp] theorem kept_setFinput (n : Nat) (x : FInput) (s : State) : kept (setFinput n x s) = kept s := by
  simp [setFinput]

@[simp] theorem kept_openBlank (input sel tick : Nat) (s : State) : kept (openBlank input sel tick s) = kept s := by
  simp [openBlank]

@[simp] theorem kept_setChop (n : Nat) (x : Chop) (s : State) : kept (setChop n x s) = kept s := by
  simp [setChop]

@[simp] theorem kept_chopBall (n : Nat) (on : Bool) (s : State) : kept (chopBall n on s) = kept s := by
  simp [chopBall]

@[simp] theorem kept_chopMitten (n : Nat) (s : State) : kept (chopMitten n s) = kept s := by
  simp [chopMitten]

@[simp] theorem kept_chopsMitten (l : List Nat) (s : State) : kept (chopsMitten l s) = kept s := by
  unfold chopsMitten
  exact kept_foldl _ _ _ fun a x => by simp

@[simp] theorem kept_count (op obj off n : Nat) (s : State) : kept (count op obj off n s) = kept s := by
  simp [count]

@[simp] theorem kept_journal (kind : Nat) (body : Bytes) (s : State) : kept (journal kind body s) = kept s := by
  simp [journal]

@[simp] theorem kept_setOrig (id : Nat) (o : Orig) (s : State) : kept (setOrig id o s) = kept s := by
  simp [setOrig]

@[simp] theorem kept_countLost (id : Nat) (s : State) : kept (countLost id s) = kept s := by
  simp [countLost]

@[simp] theorem kept_enqueue (id : Nat) (reqSeq : Option Nat) (store : Bool) (k : OutPkt) (s : State) : kept (enqueue id reqSeq store k s) = kept s := by
  simp [enqueue]

@[simp] theorem kept_offerEvent (code : Nat) (payload : Bytes) (s : State) (id : Nat) : kept (offerEvent code payload s id) = kept s := by
  simp [offerEvent]

@[simp] theorem kept_raiseOnce (code detail : Nat) (data : Bytes) (s : State) : kept (raiseOnce code detail data s) = kept s := by
  unfold raiseOnce
  dsimp only
  refine (kept_foldl _ _ _ fun a x => ?_).trans ?_ <;> (try dsimp only) <;> (repeat' split) <;> simp

@[simp] theorem kept_raiseSats (s : State) : kept (raiseSats s) = kept s := by
  unfold raiseSats
  exact (kept_foldl _ _ _ fun a x => by simp).trans (kept_mk s rfl rfl rfl rfl rfl rfl rfl)

@[simp] theorem kept_raiseSat (s : State) : kept (raiseSat s) = kept s := by
  unfold raiseSat
  split <;> simp

@[simp] theorem kept_bump (op obj off : Nat) (s : State) : kept (bump op obj off s) = kept s := by
  simp [bump]

@[simp] theorem kept_occur (cls event detail : Nat) (s : State) : kept (occur cls event detail s) = kept s := by
  simp [occur]

@[simp] theorem kept_raise (code detail : Nat) (data : Bytes) (s : State) : kept (raise code detail data s) = kept s := by
  simp [raise]

@[simp] theorem kept_raiseClass (cls code detail : Nat) (data : Bytes) (s : State) : kept (raiseClass cls code detail data s) = kept s := by
  simp [raiseClass]

@[simp] theorem kept_mark (code obj : Nat) (s : State) : kept (mark code obj s) = kept s := by
  simp [mark]

@[simp] theorem kept_raiseStep (code obj detail : Nat) (data : Bytes) (s : State) : kept (raiseStep code obj detail data s) = kept s := by
  simp [raiseStep]

@[simp] theorem kept_setLeg (n : Nat) (x : Leg) (s : State) : kept (setLeg n x s) = kept s := by
  simp [setLeg]

@[simp] theorem kept_overlap (n : Nat) (s : State) : kept (overlap n s) = kept s := by
  simp [overlap]

@[simp] theorem kept_noteGates (n inst : Nat) (h l : Bool) (s : State) : kept (noteGates n inst h l s) = kept s := by
  simp [noteGates]

@[simp] theorem kept_setBalls (n fine : Nat) (h l : Bool) (s : State) : kept (setBalls n fine h l s) = kept s := by
  simp [setBalls]

@[simp] theorem kept_request (n fine : Nat) (h l : Bool) (s : State) : kept (request n fine h l s) = kept s := by
  simp [request]

@[simp] theorem kept_applyPattern (n fine : Nat) (s : State) : kept (applyPattern n fine s) = kept s := by
  simp [applyPattern]

@[simp] theorem kept_enterMitten (n tick : Nat) (s : State) : kept (enterMitten n tick s) = kept s := by
  simp [enterMitten]

@[simp] theorem kept_disableOne (n cause tick : Nat) (s : State) : kept (disableOne n cause tick s) = kept s := by
  simp [disableOne]

@[simp] theorem kept_disableIf (n cause tick : Nat) (said : Bool) (s : State) : kept (disableIf n cause tick said s) = kept s := by
  simp [disableIf]

@[simp] theorem kept_setChan (n : Nat) (x : Chan) (s : State) : kept (setChan n x s) = kept s := by
  simp [setChan]

@[simp] theorem kept_dropPending (ch : Nat) (s : State) : kept (dropPending ch s) = kept s := by
  simp [dropPending]

@[simp] theorem kept_disableMap (ls : List Nat) (tick : Nat) (s : State) (c : Nat) : kept (disableMap ls tick s c) = kept s := by
  unfold disableMap
  exact kept_foldl _ _ _ fun a x => by simp

@[simp] theorem kept_disableLegs (ls : List Nat) (cause tick : Nat) (said : Bool) (s : State) : kept (disableLegs ls cause tick said s) = kept s := by
  unfold disableLegs
  exact (kept_foldl _ _ _ fun a x => by simp).trans (kept_foldl _ _ _ fun a x => by simp)

@[simp] theorem kept_legsMitten (l : List Nat) (s : State) : kept (legsMitten l s) = kept s := by
  simp [legsMitten]

@[simp] theorem kept_applyMitten (e : Entry) (acts cls detail legMap : Nat) (s : State) : kept (applyMitten e acts cls detail legMap s) = kept s := by
  simp [applyMitten]

@[simp] theorem kept_trigOut (k : Nat) (s : State) : kept (trigOut k s) = kept s := by
  simp [trigOut]

@[simp] theorem kept_bumpN (op obj off n : Nat) (s : State) : kept (bumpN op obj off n s) = kept s := by
  simp [bumpN]

@[simp] theorem kept_setLane (n : Nat) (x : Lane) (s : State) : kept (setLane n x s) = kept s := by
  simp [setLane]

@[simp] theorem kept_notTrained (id : Nat) (s : State) : kept (notTrained id s) = kept s := by
  simp [notTrained]

@[simp] theorem kept_bump64 (op obj off n : Nat) (s : State) : kept (bump64 op obj off n s) = kept s := by
  simp [bump64]

@[simp] theorem kept_laneOut (n hdr : Nat) (b : Bytes) (s : State) : kept (laneOut n hdr b s) = kept s := by
  simp [laneOut]

@[simp] theorem kept_ownBlock (n : Nat) (b : Bytes) (s : State) : kept (ownBlock n b s) = kept s := by
  simp [ownBlock]

@[simp] theorem kept_startAttempt (n : Nat) (s : State) : kept (startAttempt n s) = kept s := by
  have h (l : List Nat) (t : State) : kept (l.foldl (fun a id => notTrained id a) t) = kept t := kept_foldl _ _ _ fun a x => by simp
  unfold startAttempt
  dsimp only
  (repeat' split) <;> simp [h]

@[simp] theorem kept_retryNow (n : Nat) (s : State) : kept (retryNow n s) = kept s := by
  simp [retryNow]

@[simp] theorem kept_endInjection (slot cause : Nat) (s : State) : kept (endInjection slot cause s) = kept s := by
  unfold endInjection
  dsimp only
  (repeat' split) <;> simp

@[simp] theorem kept_putInject (slot : Nat) (old new : Inject) (s : State) : kept (putInject slot old new s) = kept s := by
  simp [putInject]

@[simp] theorem kept_inject (type target dir : Nat) (item : Item) (s : State) : kept (inject type target dir item s).2 = kept s := by
  have one (e : Nat × Inject) (l : List Item) (acc : List Item × State) :
      kept (l.foldl
        (fun (b : List Item × State) (it : Item) =>
          match Tbl.find e.1 b.2.test.slot with
          | none => (b.1 ++ [it], b.2)
          | some i =>
            let r := injectOne b.2.now b.2.draws dir i it
            (b.1 ++ r.2, putInject e.1 i r.1 { b.2 with draws := b.2.draws + 1 })) acc).2 = kept acc.2 := by
    induction l generalizing acc with
    | nil => rfl
    | cons x r ih => exact (ih _).trans (by dsimp only; split <;> simp)
  have all (l : List (Nat × Inject)) (acc : List Item × State) :
      kept (l.foldl
        (fun (acc : List Item × State) (e : Nat × Inject) =>
          if injectHits s type target dir e.2 then
            acc.1.foldl
              (fun (b : List Item × State) (it : Item) =>
                match Tbl.find e.1 b.2.test.slot with
                | none => (b.1 ++ [it], b.2)
                | some i =>
                  let r := injectOne b.2.now b.2.draws dir i it
                  (b.1 ++ r.2, putInject e.1 i r.1 { b.2 with draws := b.2.draws + 1 }))
              ([], acc.2)
          else acc) acc).2 = kept acc.2 := by
    induction l generalizing acc with
    | nil => rfl
    | cons x r ih =>
      refine (ih _).trans ?_
      dsimp only
      split
      · exact one x _ _
      · rfl
  exact all _ _

@[simp] theorem kept_laneQueue (n : Nat) (f : LFrame) (s : State) : kept (laneQueue n f s) = kept s := by
  unfold laneQueue
  dsimp only
  split <;> simp

@[simp] theorem kept_laneItem (n : Nat) (it : Item) (s : State) : kept (laneItem n it s) = kept s := by
  unfold laneItem
  (repeat' split) <;> simp

@[simp] theorem kept_laneSend (n : Nat) (f : LFrame) (s : State) : kept (laneSend n f s) = kept s := by
  unfold laneSend
  dsimp only
  refine (kept_foldl _ _ _ fun a x => ?_).trans ?_ <;> (try dsimp only) <;> (repeat' split) <;> simp

@[simp] theorem kept_commandOut (n : Nat) (f : LFrame) (s : State) : kept (commandOut n f s) = kept s := by
  have h : kept (((heads s n).filter fun h => (lane s h).up).foldl (fun a h => laneSend h f a) s) = kept s :=
    kept_foldl _ _ _ fun a x => by simp
  unfold commandOut
  dsimp only
  split
  · exact (kept_laneSend _ _ _).trans h
  · exact h

@[simp] theorem kept_setCell (id : Nat) (x : Cell) (s : State) : kept (setCell id x s) = kept s := by
  simp [setCell]

@[simp] theorem kept_setPartner (id : Nat) (x : Partner) (s : State) : kept (setPartner id x s) = kept s := by
  simp [setPartner]

@[simp] theorem kept_sendUnicast (id st execAt : Nat) (plans : List (Nat × Nat)) (s : State) : kept (sendUnicast id st execAt plans s) = kept s := by
  simp [sendUnicast]

@[simp] theorem kept_setStrand (n : Nat) (x : Strand) (s : State) : kept (setStrand n x s) = kept s := by
  simp [setStrand]

@[simp] theorem kept_broadcastOn (a st execAt n : Nat) (s : State) : kept (broadcastOn a st execAt n s) = kept s := by
  unfold broadcastOn
  dsimp only
  refine (kept_foldl _ _ _ fun a x => ?_).trans ?_ <;> (try dsimp only) <;> (repeat' split) <;> simp

@[simp] theorem kept_broadcastArm (a st execAt : Nat) (s : State) : kept (broadcastArm a st execAt s) = kept s := by
  unfold broadcastArm
  exact (kept_foldl _ _ _ fun a x => by simp).trans (kept_foldl _ _ _ fun a x => by simp)

@[simp] theorem kept_setArm (n : Nat) (x : Arm) (s : State) : kept (setArm n x s) = kept s := by
  simp [setArm]

@[simp] theorem kept_armSafe (a : Nat) (s : State) : kept (armSafe a s) = kept s := by
  simp [armSafe]

@[simp] theorem kept_chopperOn (mask : Nat) (s : State) : kept (chopperOn mask s) = kept s := by
  unfold chopperOn
  exact kept_foldl _ _ _ fun a x => by simp

@[simp] theorem kept_endFlight (org seq opcode : Nat) (s : State) : kept (endFlight org seq opcode s) = kept s := by
  simp [endFlight]

@[simp] theorem kept_beginFlight (org seq opcode : Nat) (s : State) : kept (beginFlight org seq opcode s) = kept s := by
  simp [beginFlight]

@[simp] theorem kept_queueReply (id : Nat) (reqSeq : Option Nat) (k : OutPkt) (s : State) : kept (queueReply id reqSeq k s) = kept s := by
  unfold queueReply
  dsimp only
  (repeat' split) <;> simp

@[simp] theorem kept_enqueueReply (id : Nat) (reqSeq : Nat) (k : OutPkt) (s : State) : kept (enqueueReply id reqSeq k s) = kept s := by
  simp [enqueueReply]

@[simp] theorem kept_noteFailure (o : Owed) (st : Status) (s : State) : kept (noteFailure o st s) = kept s := by
  simp [noteFailure]

@[simp] theorem kept_answer (o : Owed) (st : Status) (detail : Nat) (data : Bytes) (s : State) : kept (answer o st detail data s) = kept s := by
  simp [answer]

@[simp] theorem kept_cancelHeld (s : State) : kept (cancelHeld s) = kept s := by
  unfold cancelHeld
  refine kept_foldl _ _ _ fun a x => ?_
  dsimp only
  (repeat' split) <;> simp

@[simp] theorem kept_disableAll (cause : Nat) (s : State) : kept (disableAll cause s) = kept s := by
  unfold disableAll
  exact kept_foldl _ _ _ fun a x => by simp

@[simp] theorem kept_allSafe (s : State) : kept (allSafe s) = kept s := by
  unfold allSafe
  exact kept_foldl _ _ _ fun a x => by simp

@[simp] theorem kept_chopSettle (s : State) : kept (chopSettle s) = kept s := by
  unfold chopSettle
  exact kept_foldl _ _ _ fun a x => by simp

@[simp] theorem kept_endExtest (s : State) : kept (endExtest s) = kept s := by
  unfold endExtest
  split
  · rfl
  · exact (kept_foldl _ _ _ fun a x => by simp).trans (kept_mk s rfl rfl rfl rfl rfl rfl rfl)

@[simp] theorem kept_endInjections (cause : Nat) (s : State) : kept (endInjections cause s) = kept s := by
  unfold endInjections
  exact kept_foldl _ _ _ fun a x => by simp

@[simp] theorem kept_twinOut (m : TwinMsg) (s : State) : kept (twinOut m s) = kept s := by
  simp [twinOut]

@[simp] theorem kept_twinSend (m : TwinMsg) (s : State) : kept (twinSend m s) = kept s := by
  unfold twinSend
  dsimp only
  split
  · refine (kept_foldl _ _ _ fun a x => ?_).trans (by simp)
    split <;> simp
  · rfl

@[simp] theorem kept_exchangeD (m own : Nat) (s : State) : kept (exchangeD m own s) = kept s := by
  simp [exchangeD]

@[simp] theorem kept_recomputeD (n : Nat) (s : State) : kept (recomputeD n s) = kept s := by
  have h (g : Nat → Bool) (l : List Nat) (t : State) :
      kept (l.foldl (fun a id => setCell id { cell a id with dShort := g id } a) t) = kept t := kept_foldl _ _ _ fun a x => by simp
  unfold recomputeD
  dsimp only
  generalize hu : exchangeD _ _ s = u
  have hk : kept u = kept s := by rw [← hu]; simp
  rw [apply_ite kept, kept_raise, h, ite_self, kept_setStrand, hk]

@[simp] theorem kept_stopObserver (s : State) : kept (stopObserver s) = kept s := by
  simp [stopObserver]

@[simp] theorem kept_stopTests (s : State) : kept (stopTests s) = kept s := by
  simp [stopTests]

@[simp] theorem kept_enterState (new : DevState) (s : State) : kept (enterState new s) = kept s := by
  have h (l : List Nat) (t : State) : kept (l.foldl (fun a n => recomputeD n a) t) = kept t := kept_foldl _ _ _ fun a x => by simp
  unfold enterState
  dsimp only
  (repeat' split) <;> simp [h]

@[simp] theorem kept_enqueueOwn (id : Nat) (k : OutPkt) (s : State) : kept (enqueueOwn id k s) = kept s := by
  simp [enqueueOwn]

@[simp] theorem kept_askPartner (id opcode txn : Nat) (payload : Bytes) (s : State) : kept (askPartner id opcode txn payload s) = kept s := by
  unfold askPartner
  exact kept_foldl _ _ _ fun a x => by simp

@[simp] theorem kept_cancelTo (ids : List Nat) (txn : Nat) (s : State) : kept (cancelTo ids txn s) = kept s := by
  unfold cancelTo
  exact kept_foldl _ _ _ fun a x => by simp

@[simp] theorem kept_groupEnd (g : Group) (st : Status) (detail : Nat) (s : State) : kept (groupEnd g st detail s) = kept s := by
  unfold groupEnd
  dsimp only
  (repeat' split) <;> simp

@[simp] theorem kept_groupAbort (g : Group) (s : State) : kept (groupAbort g s) = kept s := by
  simp [groupAbort]

@[simp] theorem kept_bsEnd (s : State) : kept (bsEnd s) = kept s := by
  unfold bsEnd
  dsimp only
  (repeat' split) <;> simp

@[simp] theorem kept_dropHandOver (s : State) : kept (dropHandOver s) = kept s := by
  unfold dropHandOver
  dsimp only
  (repeat' split) <;> simp

@[simp] theorem kept_injAbort (bit : Nat) (s : State) : kept (injAbort bit s) = kept s := by
  unfold injAbort
  split
  · rfl
  · dsimp only
    split
    · split
      · exact kept_mk s rfl rfl rfl rfl rfl rfl rfl
      · rfl
    · exact (kept_raise _ _ _ _).trans (kept_mk s rfl rfl rfl rfl rfl rfl rfl)

@[simp] theorem kept_leaveRun (s : State) : kept (leaveRun s) = kept s := by
  simp [leaveRun]

@[simp] theorem kept_enterTripped (s : State) : kept (enterTripped s) = kept s := by
  unfold enterTripped
  dsimp only
  (repeat' split) <;> simp

@[simp] theorem kept_updRecord (n : Nat) (f : FRec → FRec) (s : State) : kept (updRecord n f s) = kept s := by
  simp [updRecord]

@[simp] theorem kept_pinRecord (n : Nat) (s : State) : kept (pinRecord n s) = kept s := by
  simp [pinRecord]

@[simp] theorem kept_raiseFirst (code obj detail : Nat) (data : Bytes) (s : State) : kept (raiseFirst code obj detail data s) = kept s := by
  simp [raiseFirst]

@[simp] theorem kept_pondMissed (s : State) : kept (pondMissed s) = kept s := by
  simp [pondMissed]

@[simp] theorem kept_pondTrig (source inst detail recNo : Nat) (s : State) : kept (pondTrig source inst detail recNo s) = kept s := by
  simp [pondTrig]

@[simp] theorem kept_startHold (s : State) : kept (startHold s) = kept s := by
  simp [startHold]

@[simp] theorem kept_applyRest (e : Entry) (acts recNo ref : Nat) (s : State) : kept (applyRest e acts recNo ref s) = kept s := by
  have safe (l : List Nat) (t : State) : kept (l.foldl (fun a k => if armDefined a k then armSafe k a else a) t) = kept t :=
    kept_foldl _ _ _ fun a x => by split <;> simp
  simp only [applyRest, apply_ite kept, kept_pinRecord, kept_enterTripped, kept_injAbort, kept_pondTrig, kept_mk, kept_startHold,
    kept_chopperOn, safe, keptGrid_mk, ite_self]

@[simp] theorem kept_applyActions (e : Entry) (acts cls detail legMap recNo ref : Nat) (s : State) : kept (applyActions e acts cls detail legMap recNo ref s) = kept s := by
  simp [applyActions]

@[simp] theorem kept_closeRecord (n : Nat) (s : State) : kept (closeRecord n s) = kept s := by
  unfold closeRecord
  (repeat' split) <;> simp

@[simp] theorem kept_noteApplied (recNo cls legMap : Nat) (s : State) : kept (noteApplied recNo cls legMap s) = kept s := by
  simp [noteApplied]

@[simp] theorem kept_putRecord (r : FRec) (s : State) : kept (putRecord r s) = kept s := by
  simp [putRecord]

@[simp] theorem kept_react (o : Occ) (s : State) : kept (react o s) = kept s := by
  simp [react]

@[simp] theorem kept_drain (fuel : Nat) (s : State) : kept (drain fuel s) = kept s := by
  induction fuel generalizing s with
  | zero => rfl
  | succ k ih =>
    unfold drain
    split
    · rfl
    · rw [ih, kept_react, kept_mk] <;> rfl

@[simp] theorem kept_matchEvents (s : State) : kept (matchEvents s) = kept s := by
  unfold matchEvents
  exact kept_foldl _ _ _ fun a x => by simp

@[simp] theorem kept_setTb (x : TbState) (s : State) : kept (setTb x s) = kept s := by
  simp [setTb]

@[simp] theorem kept_acquire (s : State) : kept (acquire s) = kept s := by
  unfold acquire
  dsimp only
  (repeat' split) <;> simp

@[simp] theorem kept_reacquire (s : State) : kept (reacquire s) = kept s := by
  simp [reacquire]

@[simp] theorem kept_refoutsHeld (s : State) : kept (refoutsHeld s) = kept s := by
  have h (l : Tbl Refout) (c : Nat → Refout → Bool) :
      (l.map fun e => (e.1, if c e.1 e.2 then e.2 else { e.2 with level := false })).map
        (fun e => (e.1, ({ e.2 with level := false } : Refout))) = l.map fun e => (e.1, ({ e.2 with level := false } : Refout)) := by
    rw [List.map_map]
    refine List.map_congr_left fun e _ => ?_
    simp only [Function.comp_apply]
    split <;> rfl
  have hc : keptClk (refoutsHeld s).clk = keptClk s.clk := by
    have := h s.clk.refout fun _ x => decide (x.src = 0 ∨ x.src = 1 ∨ refSource s x.src = true)
    simp only [decide_eq_true_eq] at this
    simp only [keptClk, refoutsHeld, this]
  exact kept_mk s rfl hc rfl rfl rfl rfl rfl

@[simp] theorem kept_holdOver (trip : Bool) (s : State) : kept (holdOver trip s) = kept s := by
  simp [holdOver]

@[simp] theorem kept_sayLeft (s : State) : kept (sayLeft s) = kept s := by
  simp [sayLeft]

@[simp] theorem kept_enterRecovering (src : Nat) (s : State) : kept (enterRecovering src s) = kept s := by
  simp [enterRecovering]

@[simp] theorem kept_switchTo (src : Nat) (s : State) : kept (switchTo src s) = kept s := by
  simp [switchTo]

@[simp] theorem kept_wellspringLost (s : State) : kept (wellspringLost s) = kept s := by
  unfold wellspringLost
  dsimp only
  (repeat' split) <;> simp

@[simp] theorem kept_sourceLost (src cause : Nat) (s : State) : kept (sourceLost src cause s) = kept s := by
  unfold sourceLost
  dsimp only
  (repeat' split) <;> simp

@[simp] theorem kept_pathLosses (s : State) : kept (pathLosses s) = kept s := by
  unfold pathLosses
  exact kept_foldl _ _ _ fun a x => by simp

@[simp] theorem kept_updHeld (n : Nat) (f : PRec → PRec) (s : State) : kept (updHeld n f s) = kept s := by
  simp [updHeld]

@[simp] theorem kept_streamFill (fuel : Nat) (s : State) : kept (streamFill fuel s) = kept s := by
  induction fuel generalizing s with
  | zero => rfl
  | succ k ih =>
    unfold streamFill
    dsimp only
    (repeat' split) <;> simp [ih]

@[simp] theorem kept_pondFinish (s : State) : kept (pondFinish s) = kept s := by
  simp [pondFinish]

@[simp] theorem kept_setPort (n : Nat) (x : Port) (s : State) : kept (setPort n x s) = kept s := by
  simp [setPort]

@[simp] theorem kept_lineOut (n : Nat) (x : TxItem) (s : State) : kept (lineOut n x s) = kept s := by
  simp [lineOut]

@[simp] theorem kept_itemOut (n : Nat) (x : Item) (s : State) : kept (itemOut n x s) = kept s := by
  unfold itemOut
  dsimp only
  (repeat' split) <;> simp

@[simp] theorem kept_frameOut (n : Nat) (f : Bytes) (s : State) : kept (frameOut n f s) = kept s := by
  have h (t : State) (l : List Item) : kept (l.foldl (fun a x => itemOut n x a) t) = kept t := kept_foldl _ _ _ fun a x => by simp
  unfold frameOut
  split
  · rfl
  · dsimp only
    rw [h]
    simp

@[simp] theorem kept_setPrp (k : Nat) (x : Prp) (s : State) : kept (setPrp k x s) = kept s := by
  simp [setPrp]

@[simp] theorem kept_sendFrame (n : Nat) (f : Bytes) (s : State) : kept (sendFrame n f s) = kept s := by
  simp [sendFrame]

@[simp] theorem kept_segmentOut (id : Nat) (b : Bytes) (s : State) : kept (segmentOut id b s) = kept s := by
  unfold segmentOut
  dsimp only
  (repeat' split) <;> simp

@[simp] theorem kept_setSess (c : Nat) (x : Sess) (s : State) : kept (setSess c x s) = kept s := by
  simp [setSess]

@[simp] theorem kept_sendSegment (c kind flags seq : Nat) (p : Bytes) (s : State) : kept (sendSegment c kind flags seq p s) = kept s := by
  unfold sendSegment
  dsimp only
  refine (kept_foldl _ _ _ fun a x => ?_).trans ?_ <;> (try dsimp only) <;> (repeat' split) <;> simp

@[simp] theorem kept_endInjectionsOn (type target : Nat) (s : State) : kept (endInjectionsOn type target s) = kept s := by
  exact kept_foldl _ _ _ fun a x => by simp

@[simp] theorem kept_partnerAbsent (id cause : Nat) (s : State) : kept (partnerAbsent id cause s) = kept s := by
  simp [partnerAbsent]

@[simp] theorem kept_restream (x : Sess) (s : State) : kept (restream x s) = kept s := by
  simp [restream]

@[simp] theorem kept_sessClose (c cause : Nat) (s : State) : kept (sessClose c cause s) = kept s := by
  simp [sessClose]

@[simp] theorem kept_closePump (c : Nat) (s : State) : kept (closePump c s) = kept s := by
  simp [closePump]

@[simp] theorem kept_hostError (org off : Nat) (s : State) : kept (hostError org off s) = kept s := by
  simp [hostError]

@[simp] theorem kept_hostSeq (org off : Nat) (s : State) : kept (hostSeq org off s) = kept s := by
  simp [hostSeq]

@[simp] theorem kept_refuseArrival (org opcode tag : Nat) (st : Status) (data : Bytes) (s : State) : kept (refuseArrival org opcode tag st data s) = kept s := by
  simp [refuseArrival]

@[simp] theorem kept_requeue (id : Nat) (k : OutPkt) (s : State) : kept (requeue id k s) = kept s := by
  simp [requeue]

@[simp] theorem kept_replay (org : Nat) (k : OutPkt) (s : State) : kept (replay org k s) = kept s := by
  unfold replay
  (repeat' split) <;> simp

@[simp] theorem kept_arrive (org : Nat) (path : Option Nat) (b : Bytes) (s : State) : kept (arrive org path b s) = kept s := by
  have h (l : List OutPkt) (t : State) : kept (l.foldl (fun a k => replay org k a) t) = kept t := kept_foldl _ _ _ fun a x => by simp
  unfold arrive
  dsimp only
  cases (orig s org).expected <;> simp only [kept_ite, kept_setOrig, kept_hostError, kept_hostSeq, kept_refuseArrival, kept_bump, h, ite_self, kept_mk]

@[simp] theorem kept_deliver (fuel c : Nat) (s : State) : kept (deliver fuel c s) = kept s := by
  induction fuel generalizing s with
  | zero => rfl
  | succ k ih =>
    unfold deliver
    dsimp only
    (repeat' split) <;> simp [ih]

@[simp] theorem kept_admitWaiting (fuel id : Nat) (s : State) : kept (admitWaiting fuel id s) = kept s := by
  induction fuel generalizing s with
  | zero => rfl
  | succ k ih =>
    unfold admitWaiting
    dsimp only
    (repeat' split) <;> simp [ih]

@[simp] theorem kept_waitTxn (who : Nat) (s : State) : kept (waitTxn who s) = kept s := by
  simp [waitTxn]

@[simp] theorem kept_sessPump (fuel c : Nat) (s : State) : kept (sessPump fuel c s) = kept s := by
  induction fuel generalizing s with
  | zero => rfl
  | succ k ih =>
    unfold sessPump
    dsimp only
    (repeat' split) <;> simp [ih]

theorem kept_sendPacket {id : Nat} {k : OutPkt} {s s1 : State} (h : sendPacket id k s = some s1) : kept s1 = kept s := by
  unfold sendPacket at h
  dsimp only at h
  (repeat' split at h) <;> cases h <;> simp

@[simp] theorem kept_pumpOne (fuel id : Nat) (s : State) : kept (pumpOne fuel id s) = kept s := by
  induction fuel generalizing s with
  | zero => rfl
  | succ k ih =>
    unfold pumpOne
    dsimp only
    split
    · rfl
    · split
      · rfl
      · rename_i h
        simp [ih, kept_sendPacket h]

@[simp] theorem kept_pumpAll (s : State) : kept (pumpAll s) = kept s := by
  unfold pumpAll
  refine kept_foldl _ _ _ fun a x => ?_
  split <;> simp

@[simp] theorem kept_refuseCode (f : Flight) (s : State) : kept (refuseCode f s) = kept s := by
  simp [refuseCode]

@[simp] theorem kept_refuseUnknown (fuel org : Nat) (s : State) : kept (refuseUnknown fuel org s) = kept s := by
  induction fuel generalizing s with
  | zero => rfl
  | succ k ih =>
    unfold refuseUnknown
    (repeat' split) <;> simp [ih]

@[simp] theorem kept_pump (s : State) : kept (pump s) = kept s := by
  unfold pump
  dsimp only
  refine (kept_foldl _ _ _ fun a x => by simp).trans ?_
  rw [kept_pumpAll]
  exact (kept_foldl _ _ _ fun a x => by simp).trans (kept_foldl _ _ _ fun a x => by simp)

@[simp] theorem kept_settle (s : State) : kept (settle s) = kept s := by
  simp [settle]

@[simp] theorem kept_updReady (s : State) : kept (updReady s) = kept s := by
  simp [updReady]

@[simp] theorem kept_withCauses (a b : State) : kept (withCauses a b) = kept b := by
  simp [withCauses]

/-- The end of a command leaves these parts as they are. -/
theorem kept_finish (a b : State) : kept (finish a b) = kept b := by
  simp [finish]

end Sys2Proof.Machine
end

