-- ==== Sys2Proof/Laws/Ends.lean ====
section
/-! SUPPORT. Every command ends in a next state: the end of a command, or a reset. -/

namespace Sys2Proof.Machine

open Sys2Proof Sys2Proof.Safety

/-- A next state that the end of a command gives, from the state it started in. -/
def Ends (s : State) (o : Out) : Prop := ∃ b, o = .next (finish s b)

/-- A next state that a reset gives: the outside state of before goes through `resetDevice`, and only supplies follow. -/
def Resets (s : State) (o : Out) : Prop :=
  ∃ cause supply z, (o = .next (resetDevice cause supply z) ∨ ∃ p, o = .next { resetDevice cause supply z with pwr := p }) ∧
    z.pending = s.pending ∧ (gatesApart s → gatesApart z)

theorem interlocked_apart (x : Leg) : ¬ (x.interlocked.gh = true ∧ x.interlocked.gl = true) := by
  unfold Leg.interlocked
  split
  · simp
  · rename_i h
    exact fun hb => h (by simp [hb.1, hb.2])

/-- At the end of a command no leg has both gates asserted (06_legs_pwm.md R158). -/
theorem gatesApart_finish (a b : State) : gatesApart (finish a b) := by
  have key (x : State) (q : List Instr) : gatesApart { withCauses a (settle x) with pending := q } := by
    intro e he
    simp only [withCauses, settle, List.mem_map] at he
    obtain ⟨x, -, rfl⟩ := he
    exact interlocked_apart x.2
  exact key _ _

/-- No command reaches the queue of waiting commands. -/
theorem pending_finish (a b : State) : (finish a b).pending = a.pending :=
  have key (x : State) (q : List Instr) : ({ withCauses a (settle x) with pending := q } : State).pending = q := rfl
  key _ _

/-- At the end of a command FAULT_OUT_N is deasserted in ARMED and RUN alone (22_balls.md R468). -/
theorem faultOut_finish (a b : State) : faultOutRight (finish a b) :=
  have key (x : State) (q : List Instr) : faultOutRight { withCauses a (settle x) with pending := q } := rfl
  key _ _

/-- At the end of a command a grid mode is in force in RUN only (01_architecture.md Table 1.4). -/
theorem mode_finish (a b : State) : modeOnlyInRun (finish a b) := by
  have key (x : State) (q : List Instr) : modeOnlyInRun { withCauses a (settle x) with pending := q } := fun h => if_neg h
  exact key _ _

/-- The gates that a reset holds are among those asserted before. -/
theorem resetLeg_gates (x : Leg) : ((resetLeg x).gh = true → x.gh = true) ∧ ((resetLeg x).gl = true → x.gl = true) := by
  have key (h k : Nat) (hh : h &&& (b2n x.gl + 2 * b2n x.gh) = k) :
      (k.testBit 1 = true → x.gh = true) ∧ (k.testBit 0 = true → x.gl = true) := by
    subst hh
    simp only [Nat.testBit_and]
    generalize h.testBit 1 = u
    generalize h.testBit 0 = v
    cases x.gh <;> cases x.gl <;> revert u v <;> decide
  have zero : ((0 : Nat).testBit 1 = true → x.gh = true) ∧ ((0 : Nat).testBit 0 = true → x.gl = true) := by simp
  simp only [resetLeg]
  unfold resetHold
  dsimp only
  split
  · exact key _ _ rfl
  · split
    · exact key _ _ rfl
    · exact zero

theorem gatesApart_resetDevice {s : State} (h : gatesApart s) (cause supply : Nat) : gatesApart (resetDevice cause supply s) := by
  intro e he
  simp only [resetDevice, List.mem_map] at he
  obtain ⟨x, hx, rfl⟩ := he
  have hg := resetLeg_gates x.2
  exact fun ⟨h1, h2⟩ => h x hx ⟨hg.1 h1, hg.2 h2⟩

theorem ends_ev (t : Nat) (s : State) (f : State → State) : Ends s (ev t s f) := ⟨_, rfl⟩

theorem ends_ev0 (s : State) (f : State → State) : Ends s (ev0 s f) := ⟨_, rfl⟩

theorem ends_runOp (op : Op) (r : Req) (s : State) (body : Bytes → State → Ans) : Ends s (runOp op r s body) := ⟨_, rfl⟩

/-- What every command does, seen from its end. -/
theorem exec_ends (c : Instr) (s : State) : Ends s (exec c s) ∨ Resets s (exec c s) := by
  cases c
  case opSecReboot r =>
    simp only [exec, execOpSecReboot]
    split
    · exact .inr ⟨4, 0, _, .inl rfl, pending_finish _ _, fun _ => gatesApart_finish _ _⟩
    · exact .inl ⟨_, rfl⟩
  case sagReset supply =>
    simp only [exec, execSagReset]
    split
    · exact .inl ⟨_, rfl⟩
    · generalize (if s.pwr.low.contains supply = true then s.pwr.low else supply :: s.pwr.low) = low
      generalize (s.pwr.ioOff || (low.contains 1 && Config.freeNat s.draws % 2 == 1)) = off
      refine .inr ⟨2, supply, { s with draws := s.draws + 1, pwr := { s.pwr with low := low, ioOff := off } }, ?_, rfl, fun h => h⟩
      split
      · exact .inr ⟨_, rfl⟩
      · exact .inl rfl
  case porNReset => exact .inr ⟨3, 0, _, .inl rfl, rfl, fun h => h⟩
  case powerOn =>
    refine .inr ⟨1, 0, _, .inr ⟨_, rfl⟩, rfl, fun _ => ?_⟩
    intro e he
    simp only [List.mem_map] at he
    obtain ⟨x, -, rfl⟩ := he
    simp
  all_goals exact .inl ⟨_, rfl⟩

end Sys2Proof.Machine
end

