-- ==== Sys2Proof/Laws/Inbound.lean ====
section
/-! SUPPORT. Raising events, counting, and answering a packet that is not executed leave the inbound side of the packet
layer alone (16_command_transport.md R366, R371). -/

namespace Sys2Proof.Machine

open Sys2Proof Sys2Proof.Safety

theorem inbound_of_pkt {s t : State} (h : t.pkt = s.pkt) : inbound t = inbound s := by simp [inbound, orig, h]

theorem inbound_of_orig {s t : State} (h : t.pkt.orig = s.pkt.orig) (hf : t.pkt.inFlight = s.pkt.inFlight) :
    inbound t = inbound s := by
  simp [inbound, orig, h, hf]

/-- Writing an originator whose inbound side is as before. -/
theorem inbound_setOrig {id : Nat} {o : Orig} {s : State} (h : heard o = heard (orig s id)) :
    inbound (setOrig id o s) = inbound s := by
  have hf : (setOrig id o s).pkt.inFlight = s.pkt.inFlight := rfl
  simp only [inbound, hf, Prod.mk.injEq, true_and]
  funext j
  by_cases hj : j = id
  · subst hj
    simpa using h
  · rw [orig_setOrig_other hj]

@[simp] theorem inbound_count (op obj off n : Nat) (s : State) : inbound (count op obj off n s) = inbound s := by
  unfold count
  dsimp only
  (repeat' split) <;> rfl

@[simp] theorem inbound_journal (kind : Nat) (body : Bytes) (s : State) : inbound (journal kind body s) = inbound s := by
  unfold journal
  split <;> rfl

@[simp] theorem inbound_countLost (id : Nat) (s : State) : inbound (countLost id s) = inbound s := by
  have key (n : Nat) : inbound (setOrig id { orig s id with evLost := n } s) = inbound s := inbound_setOrig rfl
  have h := key (min 0xFFFFFFFF ((orig s id).evLost + 1))
  unfold countLost
  dsimp only
  split
  · have hc := (inbound_count 0 0 0x58 1 _).trans h
    generalize count 0 0 0x58 1 _ = u at hc ⊢
    exact (inbound_of_pkt rfl).trans hc
  · exact h

@[simp] theorem inbound_enqueue (id : Nat) (rs : Option Nat) (store : Bool) (k : OutPkt) (s : State) :
    inbound (enqueue id rs store k s) = inbound s := by
  have key (n : Nat) (q : List OutPkt) : inbound (setOrig id { orig s id with nextOut := n, outq := q } s) = inbound s :=
    inbound_setOrig rfl
  unfold enqueue
  dsimp only
  generalize ((orig s id).nextOut + 1) % 2 ^ 32 = n
  generalize (orig s id).outq ++ _ = q
  have h := key n q
  generalize setOrig id _ s = u at h ⊢
  split
  · exact (inbound_of_orig (s := u) (by rfl) (by rfl)).trans h
  · exact h

@[simp] theorem inbound_offerEvent (code : Nat) (p : Bytes) (s : State) (id : Nat) :
    inbound (offerEvent code p s id) = inbound s := by
  unfold offerEvent
  dsimp only
  split <;> simp

theorem inbound_foldl {α : Type} (l : List α) (g : State → α → State) (s : State)
    (h : ∀ a x, inbound (g a x) = inbound a) : inbound (l.foldl g s) = inbound s := by
  induction l generalizing s with
  | nil => rfl
  | cons x r ih => exact (ih (g s x)).trans (h s x)

@[simp] theorem inbound_raiseOnce (code detail : Nat) (data : Bytes) (s : State) :
    inbound (raiseOnce code detail data s) = inbound s := by
  unfold raiseOnce
  dsimp only
  refine Eq.trans (inbound_of_pkt rfl) ((inbound_foldl _ _ _ fun a x => inbound_offerEvent _ _ a x).trans ?_)
  split <;> simp

@[simp] theorem inbound_raiseSats (s : State) : inbound (raiseSats s) = inbound s := by
  unfold raiseSats
  exact (inbound_foldl _ _ _ fun a x => by simp).trans (inbound_of_pkt rfl)

@[simp] theorem inbound_raiseSat (s : State) : inbound (raiseSat s) = inbound s := by
  unfold raiseSat
  split <;> simp

@[simp] theorem inbound_bump (op obj off : Nat) (s : State) : inbound (bump op obj off s) = inbound s := by
  simp [bump]

@[simp] theorem inbound_enqueueOwn (id : Nat) (k : OutPkt) (s : State) : inbound (enqueueOwn id k s) = inbound s := by
  unfold enqueueOwn
  dsimp only
  split
  · simp
  · exact inbound_setOrig rfl

@[simp] theorem inbound_hostSeq (org off : Nat) (s : State) : inbound (hostSeq org off s) = inbound s := by
  unfold hostSeq
  dsimp only
  split
  · exact Eq.trans (b := inbound (bump 0 0 off s)) (inbound_of_pkt rfl) (by simp)
  · simp

@[simp] theorem inbound_refuseArrival (org opcode tag : Nat) (st : Status) (data : Bytes) (s : State) :
    inbound (refuseArrival org opcode tag st data s) = inbound s := by
  simp [refuseArrival]

@[simp] theorem inbound_requeue (id : Nat) (k : OutPkt) (s : State) : inbound (requeue id k s) = inbound s :=
  inbound_setOrig rfl

@[simp] theorem inbound_replay (org : Nat) (k : OutPkt) (s : State) : inbound (replay org k s) = inbound s := by
  have key (q : List (OutPkt × Option Nat)) : inbound (setOrig org { orig s org with waitq := q } s) = inbound s := inbound_setOrig rfl
  unfold replay
  dsimp only
  split
  · simp
  · exact key _

end Sys2Proof.Machine
end

