-- ==== Sys2Proof/Laws/Operands.lean ====
section
/-! SUPPORT. What reading a field gives of bytes that were written, and how large fields and check values are
(00_scope.md R1, 16_command_transport.md R365). -/

namespace Sys2Proof.Machine

open Sys2Proof

@[simp] theorem length_le (n v : Nat) : (le n v).length = n := by
  induction n generalizing v with
  | zero => rfl
  | succ k ih => simp [le, ih]

theorem u8_lt (p : Bytes) (o : Nat) : u8 p o < 256 := (p.getD o 0).isLt

theorem u8_append_left {a : Bytes} (b : Bytes) {o : Nat} (h : o < a.length) : u8 (a ++ b) o = u8 a o := by
  simp [u8, List.getElem?_append_left h]

theorem u8_append_right (a b : Bytes) (o : Nat) : u8 (a ++ b) (a.length + o) = u8 b o := by
  simp [u8, List.getElem?_append_right]

theorem uLE_append_left {a : Bytes} (b : Bytes) (n : Nat) {o : Nat} (h : o + n ≤ a.length) :
    uLE n (a ++ b) o = uLE n a o := by
  induction n generalizing o with
  | zero => rfl
  | succ k ih => simp only [uLE]; rw [u8_append_left b (by omega), ih (by omega)]

theorem uLE_append_right (a b : Bytes) (n o : Nat) : uLE n (a ++ b) (a.length + o) = uLE n b o := by
  induction n generalizing o with
  | zero => rfl
  | succ k ih => simp only [uLE]; rw [u8_append_right, Nat.add_assoc, ih]

theorem uLE_cons (x : Byte) (p : Bytes) (n o : Nat) : uLE n (x :: p) (o + 1) = uLE n p o := by
  have := uLE_append_right [x] p n o
  rwa [List.singleton_append, List.length_singleton, Nat.add_comm] at this

/-- A field read back from the bytes that a value was written as. -/
theorem uLE_le (n v : Nat) (r : Bytes) : uLE n (le n v ++ r) 0 = v % 256 ^ n := by
  induction n generalizing v with
  | zero => simp [uLE, Nat.mod_one]
  | succ k ih =>
    simp only [le, List.cons_append, uLE, uLE_cons, ih]
    have : u8 (BitVec.ofNat 8 v :: (le k (v / 256) ++ r)) 0 = v % 256 := by simp [u8]
    rw [this, Nat.pow_succ', Nat.mod_mul]

theorem uLE_lt (n : Nat) (p : Bytes) (o : Nat) : uLE n p o < 256 ^ n := by
  induction n generalizing o with
  | zero => simp [uLE]
  | succ k ih =>
    have h1 := u8_lt p o
    have h2 := ih (o + 1)
    simp only [uLE, Nat.pow_succ]
    omega

/-- `n` bytes from an offset where they stand between two byte strings. -/
theorem bytesAt_mid (a b c : Bytes) : bytesAt b.length (a ++ b ++ c) a.length = b := by
  apply List.ext_getElem
  · simp [bytesAt]
  · intro i h1 h2
    simp [bytesAt, List.getElem?_append_right, List.getElem?_append_left h2, h2]

/-- A step of the CRC-32C register stays within 32 bits. -/
theorem crc32cByte_lt {c : Nat} (h : c < 2 ^ 32) (x : Byte) : crc32cByte c x < 2 ^ 32 := by
  have step (d : Nat) (hd : d < 2 ^ 32) : (if d.testBit 0 then (d >>> 1) ^^^ 0x82F63B78 else d >>> 1) < 2 ^ 32 := by
    have hs : d >>> 1 < 2 ^ 32 := Nat.lt_of_le_of_lt (Nat.shiftRight_le d 1) hd
    split
    · exact Nat.xor_lt_two_pow hs (by norm_num)
    · exact hs
  have iter (n d : Nat) (hd : d < 2 ^ 32) :
      Nat.iterate (fun d => if d.testBit 0 then (d >>> 1) ^^^ 0x82F63B78 else d >>> 1) n d < 2 ^ 32 := by
    induction n generalizing d with
    | zero => exact hd
    | succ k ih => exact ih _ (step d hd)
  exact iter 8 _ (Nat.xor_lt_two_pow h (Nat.lt_of_lt_of_le x.isLt (by norm_num)))

theorem crc32c_lt (p : Bytes) : crc32c p < 2 ^ 32 := by
  have fold (p : Bytes) (c : Nat) (h : c < 2 ^ 32) : p.foldl crc32cByte c < 2 ^ 32 := by
    induction p generalizing c with
    | nil => exact h
    | cons x r ih => exact ih _ (crc32cByte_lt h x)
  exact Nat.xor_lt_two_pow (fold p _ (by norm_num)) (by norm_num)

/-- A packet's check value is read back whole (R365). -/
theorem u32_crc32c (p r : Bytes) : u32 (le 4 (crc32c p) ++ r) 0 = crc32c p := by
  rw [u32, uLE_le]
  exact Nat.mod_eq_of_lt (crc32c_lt p)

end Sys2Proof.Machine
end

