-- ==== Sys2Proof/Laws/Outbound.lean ====
section
/-! SUPPORT. What sending, Pond's part and the reads of the end of a command leave alone: the whole power stage. -/

namespace Sys2Proof.Machine

open Sys2Proof Sys2Proof.Safety

@[simp] theorem device_mk (s : State) {pkt : Pkt} {win : Win} {sec : Sec} {test : Test} {part : Part} {net : Net} {lane : Lanes}
    {pond : Pond} {occ : List Occ} {onceLast : List (Nat × Nat)} {cnt cnt64 : Tbl Nat} {once : List (Nat × Nat)} {draws : Nat}
    {pending : List Instr} (he : keptSec sec = keptSec s.sec) :
    device ⟨s.now, s.sys, pkt, win, s.clk, s.pwr, sec, s.mram, test, s.gnt, part, net, s.time, lane, s.strand, s.cell, s.node, s.gfm,
      s.grid, s.chan, s.arm, s.angle, s.leg, s.conv, s.pair, s.filt, s.twin, pond, s.balls, occ, onceLast, cnt, cnt64, once, draws,
      pending⟩ = device s := by
  simp [device, he]

theorem device_foldl {α : Type} (l : List α) (g : State → α → State) (s : State) (h : ∀ a x, device (g a x) = device a) :
    device (l.foldl g s) = device s := by
  induction l generalizing s with
  | nil => rfl
  | cons x r ih => exact (ih (g s x)).trans (h s x)

@[simp] theorem device_ite (c : Prop) [Decidable c] (a b : State) :
    device (if c then a else b) = if c then device a else device b :=
  apply_ite device c a b

@[simp] theorem device_journal (kind : Nat) (body : Bytes) (s : State) : device (journal kind body s) = device s := by
  simp [journal]

@[simp] theorem device_count (op obj off n : Nat) (s : State) : device (count op obj off n s) = device s := by
  simp [count]

@[simp] theorem device_setOrig (id : Nat) (o : Orig) (s : State) : device (setOrig id o s) = device s := by
  simp [setOrig]

@[simp] theorem device_countLost (id : Nat) (s : State) : device (countLost id s) = device s := by
  simp [countLost]

@[simp] theorem device_enqueue (id : Nat) (reqSeq : Option Nat) (store : Bool) (k : OutPkt) (s : State) : device (enqueue id reqSeq store k s) = device s := by
  simp [enqueue]

@[simp] theorem device_offerEvent (code : Nat) (payload : Bytes) (s : State) (id : Nat) : device (offerEvent code payload s id) = device s := by
  simp [offerEvent]

@[simp] theorem device_raiseOnce (code detail : Nat) (data : Bytes) (s : State) : device (raiseOnce code detail data s) = device s := by
  unfold raiseOnce
  dsimp only
  refine (device_foldl _ _ _ fun a x => ?_).trans ?_ <;> (try dsimp only) <;> (repeat' split) <;> simp

@[simp] theorem device_raiseSats (s : State) : device (raiseSats s) = device s := by
  unfold raiseSats
  exact (device_foldl _ _ _ fun a x => by simp).trans (device_mk s rfl)

@[simp] theorem device_raiseSat (s : State) : device (raiseSat s) = device s := by
  unfold raiseSat
  split <;> simp

@[simp] theorem device_raise (code detail : Nat) (data : Bytes) (s : State) : device (raise code detail data s) = device s := by
  simp [raise]

@[simp] theorem device_bumpN (op obj off n : Nat) (s : State) : device (bumpN op obj off n s) = device s := by
  simp [bumpN]

@[simp] theorem device_setLane (n : Nat) (x : Lane) (s : State) : device (setLane n x s) = device s := by
  simp [setLane]

@[simp] theorem device_notTrained (id : Nat) (s : State) : device (notTrained id s) = device s := by
  simp [notTrained]

@[simp] theorem device_bump64 (op obj off n : Nat) (s : State) : device (bump64 op obj off n s) = device s := by
  simp [bump64]

@[simp] theorem device_laneOut (n hdr : Nat) (b : Bytes) (s : State) : device (laneOut n hdr b s) = device s := by
  simp [laneOut]

@[simp] theorem device_ownBlock (n : Nat) (b : Bytes) (s : State) : device (ownBlock n b s) = device s := by
  simp [ownBlock]

@[simp] theorem device_startAttempt (n : Nat) (s : State) : device (startAttempt n s) = device s := by
  have h (l : List Nat) (t : State) : device (l.foldl (fun a id => notTrained id a) t) = device t := device_foldl _ _ _ fun a x => by simp
  unfold startAttempt
  dsimp only
  (repeat' split) <;> simp [h]

@[simp] theorem device_retryNow (n : Nat) (s : State) : device (retryNow n s) = device s := by
  simp [retryNow]

@[simp] theorem device_endInjection (slot cause : Nat) (s : State) : device (endInjection slot cause s) = device s := by
  unfold endInjection
  dsimp only
  (repeat' split) <;> simp

@[simp] theorem device_putInject (slot : Nat) (old new : Inject) (s : State) : device (putInject slot old new s) = device s := by
  simp [putInject]

@[simp] theorem device_inject (type target dir : Nat) (item : Item) (s : State) : device (inject type target dir item s).2 = device s := by
  have one (e : Nat × Inject) (l : List Item) (acc : List Item × State) :
      device (l.foldl
        (fun (b : List Item × State) (it : Item) =>
          match Tbl.find e.1 b.2.test.slot with
          | none => (b.1 ++ [it], b.2)
          | some i =>
            let r := injectOne b.2.now b.2.draws dir i it
            (b.1 ++ r.2, putInject e.1 i r.1 { b.2 with draws := b.2.draws + 1 })) acc).2 = device acc.2 := by
    induction l generalizing acc with
    | nil => rfl
    | cons x r ih => exact (ih _).trans (by dsimp only; split <;> simp)
  have all (l : List (Nat × Inject)) (acc : List Item × State) :
      device (l.foldl
        (fun (acc : List Item × State) (e : Nat × Inject) =>
          if injectHits s type target dir e.2 then
            acc.1.foldl
              (fun (b : List Item × State) (it : Item) =>
                match Tbl.find e.1 b.2.test.slot with
                | none => (b.1 ++ [it], b.2)
                | some i =>
                  let r := injectOne b.2.now b.2.draws dir i it
                  (b.1 ++ r.2, putInject e.1 i r.1 { b.2 with draws := b.2.draws + 1 }))
              ([], acc.2)
          else acc) acc).2 = device acc.2 := by
    induction l generalizing acc with
    | nil => rfl
    | cons x r ih =>
      refine (ih _).trans ?_
      dsimp only
      split
      · exact one x _ _
      · rfl
  exact all _ _

@[simp] theorem device_bump (op obj off : Nat) (s : State) : device (bump op obj off s) = device s := by
  simp [bump]

@[simp] theorem device_laneQueue (n : Nat) (f : LFrame) (s : State) : device (laneQueue n f s) = device s := by
  unfold laneQueue
  dsimp only
  split <;> simp

@[simp] theorem device_laneItem (n : Nat) (it : Item) (s : State) : device (laneItem n it s) = device s := by
  unfold laneItem
  (repeat' split) <;> simp

@[simp] theorem device_laneSend (n : Nat) (f : LFrame) (s : State) : device (laneSend n f s) = device s := by
  unfold laneSend
  dsimp only
  refine (device_foldl _ _ _ fun a x => ?_).trans ?_ <;> (try dsimp only) <;> (repeat' split) <;> simp

@[simp] theorem device_setPort (n : Nat) (x : Port) (s : State) : device (setPort n x s) = device s := by
  simp [setPort]

@[simp] theorem device_lineOut (n : Nat) (x : TxItem) (s : State) : device (lineOut n x s) = device s := by
  simp [lineOut]

@[simp] theorem device_itemOut (n : Nat) (x : Item) (s : State) : device (itemOut n x s) = device s := by
  unfold itemOut
  dsimp only
  (repeat' split) <;> simp

@[simp] theorem device_frameOut (n : Nat) (f : Bytes) (s : State) : device (frameOut n f s) = device s := by
  have h (t : State) (l : List Item) : device (l.foldl (fun a x => itemOut n x a) t) = device t := device_foldl _ _ _ fun a x => by simp
  unfold frameOut
  split
  · rfl
  · dsimp only
    rw [h]
    simp

@[simp] theorem device_setPrp (k : Nat) (x : Prp) (s : State) : device (setPrp k x s) = device s := by
  simp [setPrp]

@[simp] theorem device_sendFrame (n : Nat) (f : Bytes) (s : State) : device (sendFrame n f s) = device s := by
  simp [sendFrame]

@[simp] theorem device_segmentOut (id : Nat) (b : Bytes) (s : State) : device (segmentOut id b s) = device s := by
  unfold segmentOut
  dsimp only
  (repeat' split) <;> simp

@[simp] theorem device_setSess (c : Nat) (x : Sess) (s : State) : device (setSess c x s) = device s := by
  simp [setSess]

@[simp] theorem device_sendSegment (c kind flags seq : Nat) (p : Bytes) (s : State) : device (sendSegment c kind flags seq p s) = device s := by
  unfold sendSegment
  dsimp only
  refine (device_foldl _ _ _ fun a x => ?_).trans ?_ <;> (try dsimp only) <;> (repeat' split) <;> simp

@[simp] theorem device_endInjectionsOn (type target : Nat) (s : State) : device (endInjectionsOn type target s) = device s := by
  exact device_foldl _ _ _ fun a x => by simp

@[simp] theorem device_setPartner (id : Nat) (x : Partner) (s : State) : device (setPartner id x s) = device s := by
  simp [setPartner]

@[simp] theorem device_partnerAbsent (id cause : Nat) (s : State) : device (partnerAbsent id cause s) = device s := by
  simp [partnerAbsent]

@[simp] theorem device_restream (x : Sess) (s : State) : device (restream x s) = device s := by
  simp [restream]

@[simp] theorem device_sessClose (c cause : Nat) (s : State) : device (sessClose c cause s) = device s := by
  simp [sessClose]

@[simp] theorem device_closePump (c : Nat) (s : State) : device (closePump c s) = device s := by
  simp [closePump]

@[simp] theorem device_hostError (org off : Nat) (s : State) : device (hostError org off s) = device s := by
  simp [hostError]

@[simp] theorem device_hostSeq (org off : Nat) (s : State) : device (hostSeq org off s) = device s := by
  simp [hostSeq]

@[simp] theorem device_enqueueOwn (id : Nat) (k : OutPkt) (s : State) : device (enqueueOwn id k s) = device s := by
  simp [enqueueOwn]

@[simp] theorem device_refuseArrival (org opcode tag : Nat) (st : Status) (data : Bytes) (s : State) : device (refuseArrival org opcode tag st data s) = device s := by
  simp [refuseArrival]

@[simp] theorem device_requeue (id : Nat) (k : OutPkt) (s : State) : device (requeue id k s) = device s := by
  simp [requeue]

@[simp] theorem device_replay (org : Nat) (k : OutPkt) (s : State) : device (replay org k s) = device s := by
  unfold replay
  (repeat' split) <;> simp

@[simp] theorem device_arrive (org : Nat) (path : Option Nat) (b : Bytes) (s : State) : device (arrive org path b s) = device s := by
  have h (l : List OutPkt) (t : State) : device (l.foldl (fun a k => replay org k a) t) = device t := device_foldl _ _ _ fun a x => by simp
  unfold arrive
  dsimp only
  cases (orig s org).expected <;> simp only [device_ite, device_setOrig, device_hostError, device_hostSeq, device_refuseArrival, device_bump, h, ite_self, device_mk]

@[simp] theorem device_deliver (fuel c : Nat) (s : State) : device (deliver fuel c s) = device s := by
  induction fuel generalizing s with
  | zero => rfl
  | succ k ih =>
    unfold deliver
    dsimp only
    (repeat' split) <;> simp [ih]

@[simp] theorem device_endFlight (org seq opcode : Nat) (s : State) : device (endFlight org seq opcode s) = device s := by
  simp [endFlight]

@[simp] theorem device_queueReply (id : Nat) (reqSeq : Option Nat) (k : OutPkt) (s : State) : device (queueReply id reqSeq k s) = device s := by
  unfold queueReply
  dsimp only
  (repeat' split) <;> simp

@[simp] theorem device_admitWaiting (fuel id : Nat) (s : State) : device (admitWaiting fuel id s) = device s := by
  induction fuel generalizing s with
  | zero => rfl
  | succ k ih =>
    unfold admitWaiting
    dsimp only
    (repeat' split) <;> simp [ih]

@[simp] theorem device_waitTxn (who : Nat) (s : State) : device (waitTxn who s) = device s := by
  simp [waitTxn]

@[simp] theorem device_sessPump (fuel c : Nat) (s : State) : device (sessPump fuel c s) = device s := by
  induction fuel generalizing s with
  | zero => rfl
  | succ k ih =>
    unfold sessPump
    dsimp only
    (repeat' split) <;> simp [ih]

theorem device_sendPacket {id : Nat} {k : OutPkt} {s s1 : State} (h : sendPacket id k s = some s1) : device s1 = device s := by
  unfold sendPacket at h
  dsimp only at h
  (repeat' split at h) <;> cases h <;> simp

@[simp] theorem device_pumpOne (fuel id : Nat) (s : State) : device (pumpOne fuel id s) = device s := by
  induction fuel generalizing s with
  | zero => rfl
  | succ k ih =>
    unfold pumpOne
    dsimp only
    split
    · rfl
    · split
      · rfl
      · rename_i h
        simp [ih, device_sendPacket h]

@[simp] theorem device_pumpAll (s : State) : device (pumpAll s) = device s := by
  unfold pumpAll
  refine device_foldl _ _ _ fun a x => ?_
  split <;> simp

@[simp] theorem device_beginFlight (org seq opcode : Nat) (s : State) : device (beginFlight org seq opcode s) = device s := by
  simp [beginFlight]

@[simp] theorem device_enqueueReply (id : Nat) (reqSeq : Nat) (k : OutPkt) (s : State) : device (enqueueReply id reqSeq k s) = device s := by
  simp [enqueueReply]

@[simp] theorem device_noteFailure (o : Owed) (st : Status) (s : State) : device (noteFailure o st s) = device s := by
  simp [noteFailure]

@[simp] theorem device_answer (o : Owed) (st : Status) (detail : Nat) (data : Bytes) (s : State) : device (answer o st detail data s) = device s := by
  simp [answer]

@[simp] theorem device_refuseCode (f : Flight) (s : State) : device (refuseCode f s) = device s := by
  simp [refuseCode]

@[simp] theorem device_refuseUnknown (fuel org : Nat) (s : State) : device (refuseUnknown fuel org s) = device s := by
  induction fuel generalizing s with
  | zero => rfl
  | succ k ih =>
    unfold refuseUnknown
    (repeat' split) <;> simp [ih]

@[simp] theorem device_pump (s : State) : device (pump s) = device s := by
  unfold pump
  dsimp only
  refine (device_foldl _ _ _ fun a x => by simp).trans ?_
  rw [device_pumpAll]
  exact (device_foldl _ _ _ fun a x => by simp).trans (device_foldl _ _ _ fun a x => by simp)

@[simp] theorem device_mark (code obj : Nat) (s : State) : device (mark code obj s) = device s := by
  simp [mark]

@[simp] theorem device_raiseFirst (code obj detail : Nat) (data : Bytes) (s : State) : device (raiseFirst code obj detail data s) = device s := by
  simp [raiseFirst]

@[simp] theorem device_pondMissed (s : State) : device (pondMissed s) = device s := by
  simp [pondMissed]

@[simp] theorem device_pondTrig (source inst detail recNo : Nat) (s : State) : device (pondTrig source inst detail recNo s) = device s := by
  simp [pondTrig]

@[simp] theorem device_matchEvents (s : State) : device (matchEvents s) = device s := by
  unfold matchEvents
  exact device_foldl _ _ _ fun a x => by simp

@[simp] theorem device_updHeld (n : Nat) (f : PRec → PRec) (s : State) : device (updHeld n f s) = device s := by
  simp [updHeld]

@[simp] theorem device_streamFill (fuel : Nat) (s : State) : device (streamFill fuel s) = device s := by
  induction fuel generalizing s with
  | zero => rfl
  | succ k ih =>
    unfold streamFill
    dsimp only
    (repeat' split) <;> simp [ih]

@[simp] theorem device_pondFinish (s : State) : device (pondFinish s) = device s := by
  simp [pondFinish]

/-! ### The end of a quiet command -/

theorem pathLosses_quiet {s : State} (h : s.clk.ready.keys.all (srcPath s) = true) : pathLosses s = s := by
  have hall : ∀ x ∈ s.clk.ready.keys, srcPath s x = true := List.all_eq_true.mp h
  have fold (l : List Nat) (hl : ∀ x ∈ l, srcPath s x = true) :
      l.foldl (fun a src => if srcPath a src then a else sourceLost src 3 a) s = s := by
    induction l with
    | nil => rfl
    | cons x r ih =>
      simp only [List.foldl_cons, hl x (by simp), if_true]
      exact ih fun y hy => hl y (by simp [hy])
  exact fold _ hall

theorem updReady_quiet {s : State} (h : (readyNow s == s.twin.ready) = true) : updReady s = s := by
  have h1 : readyNow s = s.twin.ready := beq_iff_eq.mp h
  simp [updReady, h1]

theorem drain_quiet {s : State} (n : Nat) (h : s.occ = []) : drain n s = s := by
  cases n with
  | zero => rfl
  | succ k => simp [drain, h]

/-- At the end of a quiet command the power stage is as the command left it, but for what follows from the device state. -/
theorem device_finish_quiet {a b : State} (h : quiet b = true) : device (finish a b) = device (settle b) := by
  simp only [quiet, Bool.and_eq_true, List.isEmpty_iff] at h
  have hd : device (matchEvents (matchEvents (pump (pondFinish (updReady (drain 64 (pathLosses b))))))) = device b := by
    rw [pathLosses_quiet h.1.2, drain_quiet 64 h.1.1, updReady_quiet h.2, device_matchEvents, device_matchEvents, device_pump,
      device_pondFinish]
  have hsys := congrArg State.sys hd
  have hgnt := congrArg State.gnt hd
  have hleg := congrArg State.leg hd
  simp only [device] at hd hsys hgnt hleg ⊢
  simp only [finish, withCauses, settle, State.mk.injEq] at hd ⊢
  obtain ⟨h1, h2, -, -, h3, h4, h5, h6, h7, h8, -, -, h9, -, h10, h11, h12, h13, h14, h15, h16, h17, h18, h19, h20, h21, h22, -, h23,
    -⟩ := hd
  simp [*]

/-- Where the gates, the mode and FAULT_OUT_N already stand right, settling changes nothing. -/
theorem device_settle {s : State} (hg : gatesApart s) (hm : modeOnlyInRun s) (hf : faultOutRight s) :
    device (settle s) = device s := by
  have hleg : s.leg.map (fun e => (e.1, e.2.interlocked)) = s.leg := by
    conv_rhs => rw [← List.map_id s.leg]
    refine List.map_congr_left fun e he => ?_
    have := hg e he
    have hn : (e.2.gh && e.2.gl) = false := by
      cases h1 : e.2.gh <;> cases h2 : e.2.gl <;> simp_all
    simp [Leg.interlocked, hn]
  have hmode : (if s.sys.state = .run then s.sys.mode else .none) = s.sys.mode := by
    split
    · rfl
    · exact (hm ‹_›).symm
  have hfo : s.gnt.faultOut = !(s.sys.state == .armed || s.sys.state == .run) := hf
  simp only [device, settle, hleg, hmode, ← hfo]

end Sys2Proof.Machine
end

