-- ==== Sys2Proof/Laws/State.lean ====
section
/-! SUPPORT. What writing one object of the state leaves as it is, and what reading it back gives. -/

namespace Sys2Proof.Machine

open Sys2Proof

/-- `setConv` writes the field `conv` alone. -/
@[simp] theorem setConv_rest (n : Nat) (x : Conv) (s : State) :
    (setConv n x s).now = s.now ∧ (setConv n x s).sys = s.sys ∧ (setConv n x s).pkt = s.pkt ∧ (setConv n x s).win = s.win ∧
    (setConv n x s).clk = s.clk ∧ (setConv n x s).pwr = s.pwr ∧ (setConv n x s).sec = s.sec ∧ (setConv n x s).mram = s.mram ∧
    (setConv n x s).test = s.test ∧ (setConv n x s).gnt = s.gnt ∧ (setConv n x s).part = s.part ∧ (setConv n x s).net = s.net ∧
    (setConv n x s).time = s.time ∧ (setConv n x s).lane = s.lane ∧ (setConv n x s).strand = s.strand ∧
    (setConv n x s).cell = s.cell ∧ (setConv n x s).node = s.node ∧ (setConv n x s).gfm = s.gfm ∧
    (setConv n x s).grid = s.grid ∧ (setConv n x s).chan = s.chan ∧ (setConv n x s).arm = s.arm ∧
    (setConv n x s).angle = s.angle ∧ (setConv n x s).leg = s.leg ∧ (setConv n x s).pair = s.pair ∧
    (setConv n x s).filt = s.filt ∧ (setConv n x s).twin = s.twin ∧ (setConv n x s).pond = s.pond ∧
    (setConv n x s).balls = s.balls ∧ (setConv n x s).occ = s.occ ∧ (setConv n x s).onceLast = s.onceLast ∧
    (setConv n x s).cnt = s.cnt ∧ (setConv n x s).cnt64 = s.cnt64 ∧ (setConv n x s).once = s.once ∧
    (setConv n x s).draws = s.draws ∧ (setConv n x s).pending = s.pending :=
  ⟨rfl, rfl, rfl, rfl, rfl, rfl, rfl, rfl, rfl, rfl, rfl, rfl, rfl, rfl, rfl, rfl, rfl, rfl, rfl, rfl, rfl, rfl, rfl, rfl, rfl, rfl, rfl, rfl, rfl, rfl, rfl, rfl, rfl, rfl, rfl⟩

@[simp] theorem conv_setConv (n : Nat) (x : Conv) (s : State) : conv (setConv n x s) n = x := by
  simp [conv, setConv]

theorem conv_setConv_other (x : Conv) (s : State) {n j : Nat} (h : j ≠ n) : conv (setConv n x s) j = conv s j := by
  simp [conv, setConv, Tbl.getD_put_other h]

/-- `setPair` writes the field `pair` alone. -/
@[simp] theorem setPair_rest (p : Nat) (x : ConvPair) (s : State) :
    (setPair p x s).now = s.now ∧ (setPair p x s).sys = s.sys ∧ (setPair p x s).pkt = s.pkt ∧ (setPair p x s).win = s.win ∧
    (setPair p x s).clk = s.clk ∧ (setPair p x s).pwr = s.pwr ∧ (setPair p x s).sec = s.sec ∧ (setPair p x s).mram = s.mram ∧
    (setPair p x s).test = s.test ∧ (setPair p x s).gnt = s.gnt ∧ (setPair p x s).part = s.part ∧ (setPair p x s).net = s.net ∧
    (setPair p x s).time = s.time ∧ (setPair p x s).lane = s.lane ∧ (setPair p x s).strand = s.strand ∧
    (setPair p x s).cell = s.cell ∧ (setPair p x s).node = s.node ∧ (setPair p x s).gfm = s.gfm ∧
    (setPair p x s).grid = s.grid ∧ (setPair p x s).chan = s.chan ∧ (setPair p x s).arm = s.arm ∧
    (setPair p x s).angle = s.angle ∧ (setPair p x s).leg = s.leg ∧ (setPair p x s).conv = s.conv ∧
    (setPair p x s).filt = s.filt ∧ (setPair p x s).twin = s.twin ∧ (setPair p x s).pond = s.pond ∧
    (setPair p x s).balls = s.balls ∧ (setPair p x s).occ = s.occ ∧ (setPair p x s).onceLast = s.onceLast ∧
    (setPair p x s).cnt = s.cnt ∧ (setPair p x s).cnt64 = s.cnt64 ∧ (setPair p x s).once = s.once ∧
    (setPair p x s).draws = s.draws ∧ (setPair p x s).pending = s.pending :=
  ⟨rfl, rfl, rfl, rfl, rfl, rfl, rfl, rfl, rfl, rfl, rfl, rfl, rfl, rfl, rfl, rfl, rfl, rfl, rfl, rfl, rfl, rfl, rfl, rfl, rfl, rfl, rfl, rfl, rfl, rfl, rfl, rfl, rfl, rfl, rfl⟩

@[simp] theorem pair_setPair (p : Nat) (x : ConvPair) (s : State) : pair (setPair p x s) p = x := by
  simp [pair, setPair]

theorem pair_setPair_other (x : ConvPair) (s : State) {p j : Nat} (h : j ≠ p) : pair (setPair p x s) j = pair s j := by
  simp [pair, setPair, Tbl.getD_put_other h]

/-- `setFchain` writes the field `filt` alone. -/
@[simp] theorem setFchain_rest (n : Nat) (x : FChain) (s : State) :
    (setFchain n x s).now = s.now ∧ (setFchain n x s).sys = s.sys ∧ (setFchain n x s).pkt = s.pkt ∧
    (setFchain n x s).win = s.win ∧ (setFchain n x s).clk = s.clk ∧ (setFchain n x s).pwr = s.pwr ∧
    (setFchain n x s).sec = s.sec ∧ (setFchain n x s).mram = s.mram ∧ (setFchain n x s).test = s.test ∧
    (setFchain n x s).gnt = s.gnt ∧ (setFchain n x s).part = s.part ∧ (setFchain n x s).net = s.net ∧
    (setFchain n x s).time = s.time ∧ (setFchain n x s).lane = s.lane ∧ (setFchain n x s).strand = s.strand ∧
    (setFchain n x s).cell = s.cell ∧ (setFchain n x s).node = s.node ∧ (setFchain n x s).gfm = s.gfm ∧
    (setFchain n x s).grid = s.grid ∧ (setFchain n x s).chan = s.chan ∧ (setFchain n x s).arm = s.arm ∧
    (setFchain n x s).angle = s.angle ∧ (setFchain n x s).leg = s.leg ∧ (setFchain n x s).conv = s.conv ∧
    (setFchain n x s).pair = s.pair ∧ (setFchain n x s).twin = s.twin ∧ (setFchain n x s).pond = s.pond ∧
    (setFchain n x s).balls = s.balls ∧ (setFchain n x s).occ = s.occ ∧ (setFchain n x s).onceLast = s.onceLast ∧
    (setFchain n x s).cnt = s.cnt ∧ (setFchain n x s).cnt64 = s.cnt64 ∧ (setFchain n x s).once = s.once ∧
    (setFchain n x s).draws = s.draws ∧ (setFchain n x s).pending = s.pending :=
  ⟨rfl, rfl, rfl, rfl, rfl, rfl, rfl, rfl, rfl, rfl, rfl, rfl, rfl, rfl, rfl, rfl, rfl, rfl, rfl, rfl, rfl, rfl, rfl, rfl, rfl, rfl, rfl, rfl, rfl, rfl, rfl, rfl, rfl, rfl, rfl⟩

@[simp] theorem fchain_setFchain (n : Nat) (x : FChain) (s : State) : fchain (setFchain n x s) n = x := by
  simp [fchain, setFchain]

theorem fchain_setFchain_other (x : FChain) (s : State) {n j : Nat} (h : j ≠ n) : fchain (setFchain n x s) j = fchain s j := by
  simp [fchain, setFchain, Tbl.getD_put_other h]

/-- `setAngTab` writes the field `angle` alone. -/
@[simp] theorem setAngTab_rest (n : Nat) (x : AngTab) (s : State) :
    (setAngTab n x s).now = s.now ∧ (setAngTab n x s).sys = s.sys ∧ (setAngTab n x s).pkt = s.pkt ∧
    (setAngTab n x s).win = s.win ∧ (setAngTab n x s).clk = s.clk ∧ (setAngTab n x s).pwr = s.pwr ∧
    (setAngTab n x s).sec = s.sec ∧ (setAngTab n x s).mram = s.mram ∧ (setAngTab n x s).test = s.test ∧
    (setAngTab n x s).gnt = s.gnt ∧ (setAngTab n x s).part = s.part ∧ (setAngTab n x s).net = s.net ∧
    (setAngTab n x s).time = s.time ∧ (setAngTab n x s).lane = s.lane ∧ (setAngTab n x s).strand = s.strand ∧
    (setAngTab n x s).cell = s.cell ∧ (setAngTab n x s).node = s.node ∧ (setAngTab n x s).gfm = s.gfm ∧
    (setAngTab n x s).grid = s.grid ∧ (setAngTab n x s).chan = s.chan ∧ (setAngTab n x s).arm = s.arm ∧
    (setAngTab n x s).leg = s.leg ∧ (setAngTab n x s).conv = s.conv ∧ (setAngTab n x s).pair = s.pair ∧
    (setAngTab n x s).filt = s.filt ∧ (setAngTab n x s).twin = s.twin ∧ (setAngTab n x s).pond = s.pond ∧
    (setAngTab n x s).balls = s.balls ∧ (setAngTab n x s).occ = s.occ ∧ (setAngTab n x s).onceLast = s.onceLast ∧
    (setAngTab n x s).cnt = s.cnt ∧ (setAngTab n x s).cnt64 = s.cnt64 ∧ (setAngTab n x s).once = s.once ∧
    (setAngTab n x s).draws = s.draws ∧ (setAngTab n x s).pending = s.pending :=
  ⟨rfl, rfl, rfl, rfl, rfl, rfl, rfl, rfl, rfl, rfl, rfl, rfl, rfl, rfl, rfl, rfl, rfl, rfl, rfl, rfl, rfl, rfl, rfl, rfl, rfl, rfl, rfl, rfl, rfl, rfl, rfl, rfl, rfl, rfl, rfl⟩

@[simp] theorem angTab_setAngTab (n : Nat) (x : AngTab) (s : State) : angTab (setAngTab n x s) n = x := by
  simp [angTab, setAngTab]

theorem angTab_setAngTab_other (x : AngTab) (s : State) {n j : Nat} (h : j ≠ n) : angTab (setAngTab n x s) j = angTab s j := by
  simp [angTab, setAngTab, Tbl.getD_put_other h]

/-- `setLeg` writes the field `leg` alone. -/
@[simp] theorem setLeg_rest (n : Nat) (x : Leg) (s : State) :
    (setLeg n x s).now = s.now ∧ (setLeg n x s).sys = s.sys ∧ (setLeg n x s).pkt = s.pkt ∧ (setLeg n x s).win = s.win ∧
    (setLeg n x s).clk = s.clk ∧ (setLeg n x s).pwr = s.pwr ∧ (setLeg n x s).sec = s.sec ∧ (setLeg n x s).mram = s.mram ∧
    (setLeg n x s).test = s.test ∧ (setLeg n x s).gnt = s.gnt ∧ (setLeg n x s).part = s.part ∧ (setLeg n x s).net = s.net ∧
    (setLeg n x s).time = s.time ∧ (setLeg n x s).lane = s.lane ∧ (setLeg n x s).strand = s.strand ∧
    (setLeg n x s).cell = s.cell ∧ (setLeg n x s).node = s.node ∧ (setLeg n x s).gfm = s.gfm ∧ (setLeg n x s).grid = s.grid ∧
    (setLeg n x s).chan = s.chan ∧ (setLeg n x s).arm = s.arm ∧ (setLeg n x s).angle = s.angle ∧ (setLeg n x s).conv = s.conv ∧
    (setLeg n x s).pair = s.pair ∧ (setLeg n x s).filt = s.filt ∧ (setLeg n x s).twin = s.twin ∧ (setLeg n x s).pond = s.pond ∧
    (setLeg n x s).balls = s.balls ∧ (setLeg n x s).occ = s.occ ∧ (setLeg n x s).onceLast = s.onceLast ∧
    (setLeg n x s).cnt = s.cnt ∧ (setLeg n x s).cnt64 = s.cnt64 ∧ (setLeg n x s).once = s.once ∧
    (setLeg n x s).draws = s.draws ∧ (setLeg n x s).pending = s.pending :=
  ⟨rfl, rfl, rfl, rfl, rfl, rfl, rfl, rfl, rfl, rfl, rfl, rfl, rfl, rfl, rfl, rfl, rfl, rfl, rfl, rfl, rfl, rfl, rfl, rfl, rfl, rfl, rfl, rfl, rfl, rfl, rfl, rfl, rfl, rfl, rfl⟩

@[simp] theorem leg_setLeg (n : Nat) (x : Leg) (s : State) : leg (setLeg n x s) n = x := by
  simp [leg, setLeg]

theorem leg_setLeg_other (x : Leg) (s : State) {n j : Nat} (h : j ≠ n) : leg (setLeg n x s) j = leg s j := by
  simp [leg, setLeg, Tbl.getD_put_other h]

/-- `setChan` writes the field `chan` alone. -/
@[simp] theorem setChan_rest (n : Nat) (x : Chan) (s : State) :
    (setChan n x s).now = s.now ∧ (setChan n x s).sys = s.sys ∧ (setChan n x s).pkt = s.pkt ∧ (setChan n x s).win = s.win ∧
    (setChan n x s).clk = s.clk ∧ (setChan n x s).pwr = s.pwr ∧ (setChan n x s).sec = s.sec ∧ (setChan n x s).mram = s.mram ∧
    (setChan n x s).test = s.test ∧ (setChan n x s).gnt = s.gnt ∧ (setChan n x s).part = s.part ∧ (setChan n x s).net = s.net ∧
    (setChan n x s).time = s.time ∧ (setChan n x s).lane = s.lane ∧ (setChan n x s).strand = s.strand ∧
    (setChan n x s).cell = s.cell ∧ (setChan n x s).node = s.node ∧ (setChan n x s).gfm = s.gfm ∧
    (setChan n x s).grid = s.grid ∧ (setChan n x s).arm = s.arm ∧ (setChan n x s).angle = s.angle ∧
    (setChan n x s).leg = s.leg ∧ (setChan n x s).conv = s.conv ∧ (setChan n x s).pair = s.pair ∧
    (setChan n x s).filt = s.filt ∧ (setChan n x s).twin = s.twin ∧ (setChan n x s).pond = s.pond ∧
    (setChan n x s).balls = s.balls ∧ (setChan n x s).occ = s.occ ∧ (setChan n x s).onceLast = s.onceLast ∧
    (setChan n x s).cnt = s.cnt ∧ (setChan n x s).cnt64 = s.cnt64 ∧ (setChan n x s).once = s.once ∧
    (setChan n x s).draws = s.draws ∧ (setChan n x s).pending = s.pending :=
  ⟨rfl, rfl, rfl, rfl, rfl, rfl, rfl, rfl, rfl, rfl, rfl, rfl, rfl, rfl, rfl, rfl, rfl, rfl, rfl, rfl, rfl, rfl, rfl, rfl, rfl, rfl, rfl, rfl, rfl, rfl, rfl, rfl, rfl, rfl, rfl⟩

@[simp] theorem chan_setChan (n : Nat) (x : Chan) (s : State) : chan (setChan n x s) n = x := by
  simp [chan, setChan]

theorem chan_setChan_other (x : Chan) (s : State) {n j : Nat} (h : j ≠ n) : chan (setChan n x s) j = chan s j := by
  simp [chan, setChan, Tbl.getD_put_other h]

/-- `setArm` writes the field `arm` alone. -/
@[simp] theorem setArm_rest (n : Nat) (x : Arm) (s : State) :
    (setArm n x s).now = s.now ∧ (setArm n x s).sys = s.sys ∧ (setArm n x s).pkt = s.pkt ∧ (setArm n x s).win = s.win ∧
    (setArm n x s).clk = s.clk ∧ (setArm n x s).pwr = s.pwr ∧ (setArm n x s).sec = s.sec ∧ (setArm n x s).mram = s.mram ∧
    (setArm n x s).test = s.test ∧ (setArm n x s).gnt = s.gnt ∧ (setArm n x s).part = s.part ∧ (setArm n x s).net = s.net ∧
    (setArm n x s).time = s.time ∧ (setArm n x s).lane = s.lane ∧ (setArm n x s).strand = s.strand ∧
    (setArm n x s).cell = s.cell ∧ (setArm n x s).node = s.node ∧ (setArm n x s).gfm = s.gfm ∧ (setArm n x s).grid = s.grid ∧
    (setArm n x s).chan = s.chan ∧ (setArm n x s).angle = s.angle ∧ (setArm n x s).leg = s.leg ∧ (setArm n x s).conv = s.conv ∧
    (setArm n x s).pair = s.pair ∧ (setArm n x s).filt = s.filt ∧ (setArm n x s).twin = s.twin ∧ (setArm n x s).pond = s.pond ∧
    (setArm n x s).balls = s.balls ∧ (setArm n x s).occ = s.occ ∧ (setArm n x s).onceLast = s.onceLast ∧
    (setArm n x s).cnt = s.cnt ∧ (setArm n x s).cnt64 = s.cnt64 ∧ (setArm n x s).once = s.once ∧
    (setArm n x s).draws = s.draws ∧ (setArm n x s).pending = s.pending :=
  ⟨rfl, rfl, rfl, rfl, rfl, rfl, rfl, rfl, rfl, rfl, rfl, rfl, rfl, rfl, rfl, rfl, rfl, rfl, rfl, rfl, rfl, rfl, rfl, rfl, rfl, rfl, rfl, rfl, rfl, rfl, rfl, rfl, rfl, rfl, rfl⟩

@[simp] theorem arm_setArm (n : Nat) (x : Arm) (s : State) : arm (setArm n x s) n = x := by
  simp [arm, setArm]

theorem arm_setArm_other (x : Arm) (s : State) {n j : Nat} (h : j ≠ n) : arm (setArm n x s) j = arm s j := by
  simp [arm, setArm, Tbl.getD_put_other h]

/-- `setChop` writes the field `gnt` alone. -/
@[simp] theorem setChop_rest (n : Nat) (x : Chop) (s : State) :
    (setChop n x s).now = s.now ∧ (setChop n x s).sys = s.sys ∧ (setChop n x s).pkt = s.pkt ∧ (setChop n x s).win = s.win ∧
    (setChop n x s).clk = s.clk ∧ (setChop n x s).pwr = s.pwr ∧ (setChop n x s).sec = s.sec ∧ (setChop n x s).mram = s.mram ∧
    (setChop n x s).test = s.test ∧ (setChop n x s).part = s.part ∧ (setChop n x s).net = s.net ∧
    (setChop n x s).time = s.time ∧ (setChop n x s).lane = s.lane ∧ (setChop n x s).strand = s.strand ∧
    (setChop n x s).cell = s.cell ∧ (setChop n x s).node = s.node ∧ (setChop n x s).gfm = s.gfm ∧
    (setChop n x s).grid = s.grid ∧ (setChop n x s).chan = s.chan ∧ (setChop n x s).arm = s.arm ∧
    (setChop n x s).angle = s.angle ∧ (setChop n x s).leg = s.leg ∧ (setChop n x s).conv = s.conv ∧
    (setChop n x s).pair = s.pair ∧ (setChop n x s).filt = s.filt ∧ (setChop n x s).twin = s.twin ∧
    (setChop n x s).pond = s.pond ∧ (setChop n x s).balls = s.balls ∧ (setChop n x s).occ = s.occ ∧
    (setChop n x s).onceLast = s.onceLast ∧ (setChop n x s).cnt = s.cnt ∧ (setChop n x s).cnt64 = s.cnt64 ∧
    (setChop n x s).once = s.once ∧ (setChop n x s).draws = s.draws ∧ (setChop n x s).pending = s.pending :=
  ⟨rfl, rfl, rfl, rfl, rfl, rfl, rfl, rfl, rfl, rfl, rfl, rfl, rfl, rfl, rfl, rfl, rfl, rfl, rfl, rfl, rfl, rfl, rfl, rfl, rfl, rfl, rfl, rfl, rfl, rfl, rfl, rfl, rfl, rfl, rfl⟩

@[simp] theorem chop_setChop (n : Nat) (x : Chop) (s : State) : chop (setChop n x s) n = x := by
  simp [chop, setChop]

theorem chop_setChop_other (x : Chop) (s : State) {n j : Nat} (h : j ≠ n) : chop (setChop n x s) j = chop s j := by
  simp [chop, setChop, Tbl.getD_put_other h]

/-- `setFinput` writes the field `gnt` alone. -/
@[simp] theorem setFinput_rest (n : Nat) (x : FInput) (s : State) :
    (setFinput n x s).now = s.now ∧ (setFinput n x s).sys = s.sys ∧ (setFinput n x s).pkt = s.pkt ∧
    (setFinput n x s).win = s.win ∧ (setFinput n x s).clk = s.clk ∧ (setFinput n x s).pwr = s.pwr ∧
    (setFinput n x s).sec = s.sec ∧ (setFinput n x s).mram = s.mram ∧ (setFinput n x s).test = s.test ∧
    (setFinput n x s).part = s.part ∧ (setFinput n x s).net = s.net ∧ (setFinput n x s).time = s.time ∧
    (setFinput n x s).lane = s.lane ∧ (setFinput n x s).strand = s.strand ∧ (setFinput n x s).cell = s.cell ∧
    (setFinput n x s).node = s.node ∧ (setFinput n x s).gfm = s.gfm ∧ (setFinput n x s).grid = s.grid ∧
    (setFinput n x s).chan = s.chan ∧ (setFinput n x s).arm = s.arm ∧ (setFinput n x s).angle = s.angle ∧
    (setFinput n x s).leg = s.leg ∧ (setFinput n x s).conv = s.conv ∧ (setFinput n x s).pair = s.pair ∧
    (setFinput n x s).filt = s.filt ∧ (setFinput n x s).twin = s.twin ∧ (setFinput n x s).pond = s.pond ∧
    (setFinput n x s).balls = s.balls ∧ (setFinput n x s).occ = s.occ ∧ (setFinput n x s).onceLast = s.onceLast ∧
    (setFinput n x s).cnt = s.cnt ∧ (setFinput n x s).cnt64 = s.cnt64 ∧ (setFinput n x s).once = s.once ∧
    (setFinput n x s).draws = s.draws ∧ (setFinput n x s).pending = s.pending :=
  ⟨rfl, rfl, rfl, rfl, rfl, rfl, rfl, rfl, rfl, rfl, rfl, rfl, rfl, rfl, rfl, rfl, rfl, rfl, rfl, rfl, rfl, rfl, rfl, rfl, rfl, rfl, rfl, rfl, rfl, rfl, rfl, rfl, rfl, rfl, rfl⟩

@[simp] theorem finput_setFinput (n : Nat) (x : FInput) (s : State) : finput (setFinput n x s) n = x := by
  simp [finput, setFinput]

theorem finput_setFinput_other (x : FInput) (s : State) {n j : Nat} (h : j ≠ n) : finput (setFinput n x s) j = finput s j := by
  simp [finput, setFinput, Tbl.getD_put_other h]

/-- `setDomain` writes the field `time` alone. -/
@[simp] theorem setDomain_rest (d : Nat) (x : Dom) (s : State) :
    (setDomain d x s).now = s.now ∧ (setDomain d x s).sys = s.sys ∧ (setDomain d x s).pkt = s.pkt ∧
    (setDomain d x s).win = s.win ∧ (setDomain d x s).clk = s.clk ∧ (setDomain d x s).pwr = s.pwr ∧
    (setDomain d x s).sec = s.sec ∧ (setDomain d x s).mram = s.mram ∧ (setDomain d x s).test = s.test ∧
    (setDomain d x s).gnt = s.gnt ∧ (setDomain d x s).part = s.part ∧ (setDomain d x s).net = s.net ∧
    (setDomain d x s).lane = s.lane ∧ (setDomain d x s).strand = s.strand ∧ (setDomain d x s).cell = s.cell ∧
    (setDomain d x s).node = s.node ∧ (setDomain d x s).gfm = s.gfm ∧ (setDomain d x s).grid = s.grid ∧
    (setDomain d x s).chan = s.chan ∧ (setDomain d x s).arm = s.arm ∧ (setDomain d x s).angle = s.angle ∧
    (setDomain d x s).leg = s.leg ∧ (setDomain d x s).conv = s.conv ∧ (setDomain d x s).pair = s.pair ∧
    (setDomain d x s).filt = s.filt ∧ (setDomain d x s).twin = s.twin ∧ (setDomain d x s).pond = s.pond ∧
    (setDomain d x s).balls = s.balls ∧ (setDomain d x s).occ = s.occ ∧ (setDomain d x s).onceLast = s.onceLast ∧
    (setDomain d x s).cnt = s.cnt ∧ (setDomain d x s).cnt64 = s.cnt64 ∧ (setDomain d x s).once = s.once ∧
    (setDomain d x s).draws = s.draws ∧ (setDomain d x s).pending = s.pending :=
  ⟨rfl, rfl, rfl, rfl, rfl, rfl, rfl, rfl, rfl, rfl, rfl, rfl, rfl, rfl, rfl, rfl, rfl, rfl, rfl, rfl, rfl, rfl, rfl, rfl, rfl, rfl, rfl, rfl, rfl, rfl, rfl, rfl, rfl, rfl, rfl⟩

@[simp] theorem domain_setDomain (d : Nat) (x : Dom) (s : State) : domain (setDomain d x s) d = x := by
  simp [domain, setDomain]

theorem domain_setDomain_other (x : Dom) (s : State) {d j : Nat} (h : j ≠ d) : domain (setDomain d x s) j = domain s j := by
  simp [domain, setDomain, Tbl.getD_put_other h]

/-- `setPort` writes the field `net` alone. -/
@[simp] theorem setPort_rest (n : Nat) (x : Port) (s : State) :
    (setPort n x s).now = s.now ∧ (setPort n x s).sys = s.sys ∧ (setPort n x s).pkt = s.pkt ∧ (setPort n x s).win = s.win ∧
    (setPort n x s).clk = s.clk ∧ (setPort n x s).pwr = s.pwr ∧ (setPort n x s).sec = s.sec ∧ (setPort n x s).mram = s.mram ∧
    (setPort n x s).test = s.test ∧ (setPort n x s).gnt = s.gnt ∧ (setPort n x s).part = s.part ∧
    (setPort n x s).time = s.time ∧ (setPort n x s).lane = s.lane ∧ (setPort n x s).strand = s.strand ∧
    (setPort n x s).cell = s.cell ∧ (setPort n x s).node = s.node ∧ (setPort n x s).gfm = s.gfm ∧
    (setPort n x s).grid = s.grid ∧ (setPort n x s).chan = s.chan ∧ (setPort n x s).arm = s.arm ∧
    (setPort n x s).angle = s.angle ∧ (setPort n x s).leg = s.leg ∧ (setPort n x s).conv = s.conv ∧
    (setPort n x s).pair = s.pair ∧ (setPort n x s).filt = s.filt ∧ (setPort n x s).twin = s.twin ∧
    (setPort n x s).pond = s.pond ∧ (setPort n x s).balls = s.balls ∧ (setPort n x s).occ = s.occ ∧
    (setPort n x s).onceLast = s.onceLast ∧ (setPort n x s).cnt = s.cnt ∧ (setPort n x s).cnt64 = s.cnt64 ∧
    (setPort n x s).once = s.once ∧ (setPort n x s).draws = s.draws ∧ (setPort n x s).pending = s.pending :=
  ⟨rfl, rfl, rfl, rfl, rfl, rfl, rfl, rfl, rfl, rfl, rfl, rfl, rfl, rfl, rfl, rfl, rfl, rfl, rfl, rfl, rfl, rfl, rfl, rfl, rfl, rfl, rfl, rfl, rfl, rfl, rfl, rfl, rfl, rfl, rfl⟩

@[simp] theorem port_setPort (n : Nat) (x : Port) (s : State) : port (setPort n x s) n = x := by
  simp [port, setPort]

theorem port_setPort_other (x : Port) (s : State) {n j : Nat} (h : j ≠ n) : port (setPort n x s) j = port s j := by
  simp [port, setPort, Tbl.getD_put_other h]

/-- `setPrp` writes the field `net` alone. -/
@[simp] theorem setPrp_rest (k : Nat) (x : Prp) (s : State) :
    (setPrp k x s).now = s.now ∧ (setPrp k x s).sys = s.sys ∧ (setPrp k x s).pkt = s.pkt ∧ (setPrp k x s).win = s.win ∧
    (setPrp k x s).clk = s.clk ∧ (setPrp k x s).pwr = s.pwr ∧ (setPrp k x s).sec = s.sec ∧ (setPrp k x s).mram = s.mram ∧
    (setPrp k x s).test = s.test ∧ (setPrp k x s).gnt = s.gnt ∧ (setPrp k x s).part = s.part ∧ (setPrp k x s).time = s.time ∧
    (setPrp k x s).lane = s.lane ∧ (setPrp k x s).strand = s.strand ∧ (setPrp k x s).cell = s.cell ∧
    (setPrp k x s).node = s.node ∧ (setPrp k x s).gfm = s.gfm ∧ (setPrp k x s).grid = s.grid ∧ (setPrp k x s).chan = s.chan ∧
    (setPrp k x s).arm = s.arm ∧ (setPrp k x s).angle = s.angle ∧ (setPrp k x s).leg = s.leg ∧ (setPrp k x s).conv = s.conv ∧
    (setPrp k x s).pair = s.pair ∧ (setPrp k x s).filt = s.filt ∧ (setPrp k x s).twin = s.twin ∧ (setPrp k x s).pond = s.pond ∧
    (setPrp k x s).balls = s.balls ∧ (setPrp k x s).occ = s.occ ∧ (setPrp k x s).onceLast = s.onceLast ∧
    (setPrp k x s).cnt = s.cnt ∧ (setPrp k x s).cnt64 = s.cnt64 ∧ (setPrp k x s).once = s.once ∧
    (setPrp k x s).draws = s.draws ∧ (setPrp k x s).pending = s.pending :=
  ⟨rfl, rfl, rfl, rfl, rfl, rfl, rfl, rfl, rfl, rfl, rfl, rfl, rfl, rfl, rfl, rfl, rfl, rfl, rfl, rfl, rfl, rfl, rfl, rfl, rfl, rfl, rfl, rfl, rfl, rfl, rfl, rfl, rfl, rfl, rfl⟩

@[simp] theorem prpPair_setPrp (k : Nat) (x : Prp) (s : State) : prpPair (setPrp k x s) k = x := by
  simp [prpPair, setPrp]

theorem prpPair_setPrp_other (x : Prp) (s : State) {k j : Nat} (h : j ≠ k) : prpPair (setPrp k x s) j = prpPair s j := by
  simp [prpPair, setPrp, Tbl.getD_put_other h]

/-- `setStrand` writes the field `strand` alone. -/
@[simp] theorem setStrand_rest (n : Nat) (x : Strand) (s : State) :
    (setStrand n x s).now = s.now ∧ (setStrand n x s).sys = s.sys ∧ (setStrand n x s).pkt = s.pkt ∧
    (setStrand n x s).win = s.win ∧ (setStrand n x s).clk = s.clk ∧ (setStrand n x s).pwr = s.pwr ∧
    (setStrand n x s).sec = s.sec ∧ (setStrand n x s).mram = s.mram ∧ (setStrand n x s).test = s.test ∧
    (setStrand n x s).gnt = s.gnt ∧ (setStrand n x s).part = s.part ∧ (setStrand n x s).net = s.net ∧
    (setStrand n x s).time = s.time ∧ (setStrand n x s).lane = s.lane ∧ (setStrand n x s).cell = s.cell ∧
    (setStrand n x s).node = s.node ∧ (setStrand n x s).gfm = s.gfm ∧ (setStrand n x s).grid = s.grid ∧
    (setStrand n x s).chan = s.chan ∧ (setStrand n x s).arm = s.arm ∧ (setStrand n x s).angle = s.angle ∧
    (setStrand n x s).leg = s.leg ∧ (setStrand n x s).conv = s.conv ∧ (setStrand n x s).pair = s.pair ∧
    (setStrand n x s).filt = s.filt ∧ (setStrand n x s).twin = s.twin ∧ (setStrand n x s).pond = s.pond ∧
    (setStrand n x s).balls = s.balls ∧ (setStrand n x s).occ = s.occ ∧ (setStrand n x s).onceLast = s.onceLast ∧
    (setStrand n x s).cnt = s.cnt ∧ (setStrand n x s).cnt64 = s.cnt64 ∧ (setStrand n x s).once = s.once ∧
    (setStrand n x s).draws = s.draws ∧ (setStrand n x s).pending = s.pending :=
  ⟨rfl, rfl, rfl, rfl, rfl, rfl, rfl, rfl, rfl, rfl, rfl, rfl, rfl, rfl, rfl, rfl, rfl, rfl, rfl, rfl, rfl, rfl, rfl, rfl, rfl, rfl, rfl, rfl, rfl, rfl, rfl, rfl, rfl, rfl, rfl⟩

@[simp] theorem strand_setStrand (n : Nat) (x : Strand) (s : State) : strand (setStrand n x s) n = x := by
  simp [strand, setStrand]

theorem strand_setStrand_other (x : Strand) (s : State) {n j : Nat} (h : j ≠ n) : strand (setStrand n x s) j = strand s j := by
  simp [strand, setStrand, Tbl.getD_put_other h]

/-- `setCell` writes the field `cell` alone. -/
@[simp] theorem setCell_rest (id : Nat) (x : Cell) (s : State) :
    (setCell id x s).now = s.now ∧ (setCell id x s).sys = s.sys ∧ (setCell id x s).pkt = s.pkt ∧ (setCell id x s).win = s.win ∧
    (setCell id x s).clk = s.clk ∧ (setCell id x s).pwr = s.pwr ∧ (setCell id x s).sec = s.sec ∧
    (setCell id x s).mram = s.mram ∧ (setCell id x s).test = s.test ∧ (setCell id x s).gnt = s.gnt ∧
    (setCell id x s).part = s.part ∧ (setCell id x s).net = s.net ∧ (setCell id x s).time = s.time ∧
    (setCell id x s).lane = s.lane ∧ (setCell id x s).strand = s.strand ∧ (setCell id x s).node = s.node ∧
    (setCell id x s).gfm = s.gfm ∧ (setCell id x s).grid = s.grid ∧ (setCell id x s).chan = s.chan ∧
    (setCell id x s).arm = s.arm ∧ (setCell id x s).angle = s.angle ∧ (setCell id x s).leg = s.leg ∧
    (setCell id x s).conv = s.conv ∧ (setCell id x s).pair = s.pair ∧ (setCell id x s).filt = s.filt ∧
    (setCell id x s).twin = s.twin ∧ (setCell id x s).pond = s.pond ∧ (setCell id x s).balls = s.balls ∧
    (setCell id x s).occ = s.occ ∧ (setCell id x s).onceLast = s.onceLast ∧ (setCell id x s).cnt = s.cnt ∧
    (setCell id x s).cnt64 = s.cnt64 ∧ (setCell id x s).once = s.once ∧ (setCell id x s).draws = s.draws ∧
    (setCell id x s).pending = s.pending :=
  ⟨rfl, rfl, rfl, rfl, rfl, rfl, rfl, rfl, rfl, rfl, rfl, rfl, rfl, rfl, rfl, rfl, rfl, rfl, rfl, rfl, rfl, rfl, rfl, rfl, rfl, rfl, rfl, rfl, rfl, rfl, rfl, rfl, rfl, rfl, rfl⟩

@[simp] theorem cell_setCell (id : Nat) (x : Cell) (s : State) : cell (setCell id x s) id = x := by
  simp [cell, setCell]

theorem cell_setCell_other (x : Cell) (s : State) {id j : Nat} (h : j ≠ id) : cell (setCell id x s) j = cell s j := by
  simp [cell, setCell, Tbl.getD_put_other h]

/-- `setNode` writes the field `node` alone. -/
@[simp] theorem setNode_rest (n : Nat) (x : Node) (s : State) :
    (setNode n x s).now = s.now ∧ (setNode n x s).sys = s.sys ∧ (setNode n x s).pkt = s.pkt ∧ (setNode n x s).win = s.win ∧
    (setNode n x s).clk = s.clk ∧ (setNode n x s).pwr = s.pwr ∧ (setNode n x s).sec = s.sec ∧ (setNode n x s).mram = s.mram ∧
    (setNode n x s).test = s.test ∧ (setNode n x s).gnt = s.gnt ∧ (setNode n x s).part = s.part ∧ (setNode n x s).net = s.net ∧
    (setNode n x s).time = s.time ∧ (setNode n x s).lane = s.lane ∧ (setNode n x s).strand = s.strand ∧
    (setNode n x s).cell = s.cell ∧ (setNode n x s).gfm = s.gfm ∧ (setNode n x s).grid = s.grid ∧
    (setNode n x s).chan = s.chan ∧ (setNode n x s).arm = s.arm ∧ (setNode n x s).angle = s.angle ∧
    (setNode n x s).leg = s.leg ∧ (setNode n x s).conv = s.conv ∧ (setNode n x s).pair = s.pair ∧
    (setNode n x s).filt = s.filt ∧ (setNode n x s).twin = s.twin ∧ (setNode n x s).pond = s.pond ∧
    (setNode n x s).balls = s.balls ∧ (setNode n x s).occ = s.occ ∧ (setNode n x s).onceLast = s.onceLast ∧
    (setNode n x s).cnt = s.cnt ∧ (setNode n x s).cnt64 = s.cnt64 ∧ (setNode n x s).once = s.once ∧
    (setNode n x s).draws = s.draws ∧ (setNode n x s).pending = s.pending :=
  ⟨rfl, rfl, rfl, rfl, rfl, rfl, rfl, rfl, rfl, rfl, rfl, rfl, rfl, rfl, rfl, rfl, rfl, rfl, rfl, rfl, rfl, rfl, rfl, rfl, rfl, rfl, rfl, rfl, rfl, rfl, rfl, rfl, rfl, rfl, rfl⟩

@[simp] theorem node_setNode (n : Nat) (x : Node) (s : State) : node (setNode n x s) n = x := by
  simp [node, setNode]

theorem node_setNode_other (x : Node) (s : State) {n j : Nat} (h : j ≠ n) : node (setNode n x s) j = node s j := by
  simp [node, setNode, Tbl.getD_put_other h]

/-- `setOrig` writes the field `pkt` alone. -/
@[simp] theorem setOrig_rest (id : Nat) (o : Orig) (s : State) :
    (setOrig id o s).now = s.now ∧ (setOrig id o s).sys = s.sys ∧ (setOrig id o s).win = s.win ∧ (setOrig id o s).clk = s.clk ∧
    (setOrig id o s).pwr = s.pwr ∧ (setOrig id o s).sec = s.sec ∧ (setOrig id o s).mram = s.mram ∧
    (setOrig id o s).test = s.test ∧ (setOrig id o s).gnt = s.gnt ∧ (setOrig id o s).part = s.part ∧
    (setOrig id o s).net = s.net ∧ (setOrig id o s).time = s.time ∧ (setOrig id o s).lane = s.lane ∧
    (setOrig id o s).strand = s.strand ∧ (setOrig id o s).cell = s.cell ∧ (setOrig id o s).node = s.node ∧
    (setOrig id o s).gfm = s.gfm ∧ (setOrig id o s).grid = s.grid ∧ (setOrig id o s).chan = s.chan ∧
    (setOrig id o s).arm = s.arm ∧ (setOrig id o s).angle = s.angle ∧ (setOrig id o s).leg = s.leg ∧
    (setOrig id o s).conv = s.conv ∧ (setOrig id o s).pair = s.pair ∧ (setOrig id o s).filt = s.filt ∧
    (setOrig id o s).twin = s.twin ∧ (setOrig id o s).pond = s.pond ∧ (setOrig id o s).balls = s.balls ∧
    (setOrig id o s).occ = s.occ ∧ (setOrig id o s).onceLast = s.onceLast ∧ (setOrig id o s).cnt = s.cnt ∧
    (setOrig id o s).cnt64 = s.cnt64 ∧ (setOrig id o s).once = s.once ∧ (setOrig id o s).draws = s.draws ∧
    (setOrig id o s).pending = s.pending :=
  ⟨rfl, rfl, rfl, rfl, rfl, rfl, rfl, rfl, rfl, rfl, rfl, rfl, rfl, rfl, rfl, rfl, rfl, rfl, rfl, rfl, rfl, rfl, rfl, rfl, rfl, rfl, rfl, rfl, rfl, rfl, rfl, rfl, rfl, rfl, rfl⟩

/-- `setPub` writes the field `net` alone. -/
@[simp] theorem setPub_rest (i : Nat) (g : GPub) (s : State) :
    (setPub i g s).now = s.now ∧ (setPub i g s).sys = s.sys ∧ (setPub i g s).pkt = s.pkt ∧ (setPub i g s).win = s.win ∧
    (setPub i g s).clk = s.clk ∧ (setPub i g s).pwr = s.pwr ∧ (setPub i g s).sec = s.sec ∧ (setPub i g s).mram = s.mram ∧
    (setPub i g s).test = s.test ∧ (setPub i g s).gnt = s.gnt ∧ (setPub i g s).part = s.part ∧ (setPub i g s).time = s.time ∧
    (setPub i g s).lane = s.lane ∧ (setPub i g s).strand = s.strand ∧ (setPub i g s).cell = s.cell ∧
    (setPub i g s).node = s.node ∧ (setPub i g s).gfm = s.gfm ∧ (setPub i g s).grid = s.grid ∧ (setPub i g s).chan = s.chan ∧
    (setPub i g s).arm = s.arm ∧ (setPub i g s).angle = s.angle ∧ (setPub i g s).leg = s.leg ∧ (setPub i g s).conv = s.conv ∧
    (setPub i g s).pair = s.pair ∧ (setPub i g s).filt = s.filt ∧ (setPub i g s).twin = s.twin ∧ (setPub i g s).pond = s.pond ∧
    (setPub i g s).balls = s.balls ∧ (setPub i g s).occ = s.occ ∧ (setPub i g s).onceLast = s.onceLast ∧
    (setPub i g s).cnt = s.cnt ∧ (setPub i g s).cnt64 = s.cnt64 ∧ (setPub i g s).once = s.once ∧
    (setPub i g s).draws = s.draws ∧ (setPub i g s).pending = s.pending :=
  ⟨rfl, rfl, rfl, rfl, rfl, rfl, rfl, rfl, rfl, rfl, rfl, rfl, rfl, rfl, rfl, rfl, rfl, rfl, rfl, rfl, rfl, rfl, rfl, rfl, rfl, rfl, rfl, rfl, rfl, rfl, rfl, rfl, rfl, rfl, rfl⟩

/-- `setSub` writes the field `net` alone. -/
@[simp] theorem setSub_rest (i : Nat) (g : GSub) (s : State) :
    (setSub i g s).now = s.now ∧ (setSub i g s).sys = s.sys ∧ (setSub i g s).pkt = s.pkt ∧ (setSub i g s).win = s.win ∧
    (setSub i g s).clk = s.clk ∧ (setSub i g s).pwr = s.pwr ∧ (setSub i g s).sec = s.sec ∧ (setSub i g s).mram = s.mram ∧
    (setSub i g s).test = s.test ∧ (setSub i g s).gnt = s.gnt ∧ (setSub i g s).part = s.part ∧ (setSub i g s).time = s.time ∧
    (setSub i g s).lane = s.lane ∧ (setSub i g s).strand = s.strand ∧ (setSub i g s).cell = s.cell ∧
    (setSub i g s).node = s.node ∧ (setSub i g s).gfm = s.gfm ∧ (setSub i g s).grid = s.grid ∧ (setSub i g s).chan = s.chan ∧
    (setSub i g s).arm = s.arm ∧ (setSub i g s).angle = s.angle ∧ (setSub i g s).leg = s.leg ∧ (setSub i g s).conv = s.conv ∧
    (setSub i g s).pair = s.pair ∧ (setSub i g s).filt = s.filt ∧ (setSub i g s).twin = s.twin ∧ (setSub i g s).pond = s.pond ∧
    (setSub i g s).balls = s.balls ∧ (setSub i g s).occ = s.occ ∧ (setSub i g s).onceLast = s.onceLast ∧
    (setSub i g s).cnt = s.cnt ∧ (setSub i g s).cnt64 = s.cnt64 ∧ (setSub i g s).once = s.once ∧
    (setSub i g s).draws = s.draws ∧ (setSub i g s).pending = s.pending :=
  ⟨rfl, rfl, rfl, rfl, rfl, rfl, rfl, rfl, rfl, rfl, rfl, rfl, rfl, rfl, rfl, rfl, rfl, rfl, rfl, rfl, rfl, rfl, rfl, rfl, rfl, rfl, rfl, rfl, rfl, rfl, rfl, rfl, rfl, rfl, rfl⟩

/-- `setSv` writes the field `net` alone. -/
@[simp] theorem setSv_rest (i : Nat) (v : SvPub) (s : State) :
    (setSv i v s).now = s.now ∧ (setSv i v s).sys = s.sys ∧ (setSv i v s).pkt = s.pkt ∧ (setSv i v s).win = s.win ∧
    (setSv i v s).clk = s.clk ∧ (setSv i v s).pwr = s.pwr ∧ (setSv i v s).sec = s.sec ∧ (setSv i v s).mram = s.mram ∧
    (setSv i v s).test = s.test ∧ (setSv i v s).gnt = s.gnt ∧ (setSv i v s).part = s.part ∧ (setSv i v s).time = s.time ∧
    (setSv i v s).lane = s.lane ∧ (setSv i v s).strand = s.strand ∧ (setSv i v s).cell = s.cell ∧ (setSv i v s).node = s.node ∧
    (setSv i v s).gfm = s.gfm ∧ (setSv i v s).grid = s.grid ∧ (setSv i v s).chan = s.chan ∧ (setSv i v s).arm = s.arm ∧
    (setSv i v s).angle = s.angle ∧ (setSv i v s).leg = s.leg ∧ (setSv i v s).conv = s.conv ∧ (setSv i v s).pair = s.pair ∧
    (setSv i v s).filt = s.filt ∧ (setSv i v s).twin = s.twin ∧ (setSv i v s).pond = s.pond ∧ (setSv i v s).balls = s.balls ∧
    (setSv i v s).occ = s.occ ∧ (setSv i v s).onceLast = s.onceLast ∧ (setSv i v s).cnt = s.cnt ∧
    (setSv i v s).cnt64 = s.cnt64 ∧ (setSv i v s).once = s.once ∧ (setSv i v s).draws = s.draws ∧
    (setSv i v s).pending = s.pending :=
  ⟨rfl, rfl, rfl, rfl, rfl, rfl, rfl, rfl, rfl, rfl, rfl, rfl, rfl, rfl, rfl, rfl, rfl, rfl, rfl, rfl, rfl, rfl, rfl, rfl, rfl, rfl, rfl, rfl, rfl, rfl, rfl, rfl, rfl, rfl, rfl⟩

/-- `setSess` writes the field `part` alone. -/
@[simp] theorem setSess_rest (c : Nat) (x : Sess) (s : State) :
    (setSess c x s).now = s.now ∧ (setSess c x s).sys = s.sys ∧ (setSess c x s).pkt = s.pkt ∧ (setSess c x s).win = s.win ∧
    (setSess c x s).clk = s.clk ∧ (setSess c x s).pwr = s.pwr ∧ (setSess c x s).sec = s.sec ∧ (setSess c x s).mram = s.mram ∧
    (setSess c x s).test = s.test ∧ (setSess c x s).gnt = s.gnt ∧ (setSess c x s).net = s.net ∧ (setSess c x s).time = s.time ∧
    (setSess c x s).lane = s.lane ∧ (setSess c x s).strand = s.strand ∧ (setSess c x s).cell = s.cell ∧
    (setSess c x s).node = s.node ∧ (setSess c x s).gfm = s.gfm ∧ (setSess c x s).grid = s.grid ∧
    (setSess c x s).chan = s.chan ∧ (setSess c x s).arm = s.arm ∧ (setSess c x s).angle = s.angle ∧
    (setSess c x s).leg = s.leg ∧ (setSess c x s).conv = s.conv ∧ (setSess c x s).pair = s.pair ∧
    (setSess c x s).filt = s.filt ∧ (setSess c x s).twin = s.twin ∧ (setSess c x s).pond = s.pond ∧
    (setSess c x s).balls = s.balls ∧ (setSess c x s).occ = s.occ ∧ (setSess c x s).onceLast = s.onceLast ∧
    (setSess c x s).cnt = s.cnt ∧ (setSess c x s).cnt64 = s.cnt64 ∧ (setSess c x s).once = s.once ∧
    (setSess c x s).draws = s.draws ∧ (setSess c x s).pending = s.pending :=
  ⟨rfl, rfl, rfl, rfl, rfl, rfl, rfl, rfl, rfl, rfl, rfl, rfl, rfl, rfl, rfl, rfl, rfl, rfl, rfl, rfl, rfl, rfl, rfl, rfl, rfl, rfl, rfl, rfl, rfl, rfl, rfl, rfl, rfl, rfl, rfl⟩

@[simp] theorem sess_setSess (c : Nat) (x : Sess) (s : State) : sess (setSess c x s) c = x := by
  simp [sess, setSess]

theorem sess_setSess_other (x : Sess) (s : State) {c j : Nat} (h : j ≠ c) : sess (setSess c x s) j = sess s j := by
  simp [sess, setSess, Tbl.getD_put_other h]

/-- `setLane` writes the field `lane` alone. -/
@[simp] theorem setLane_rest (n : Nat) (x : Lane) (s : State) :
    (setLane n x s).now = s.now ∧ (setLane n x s).sys = s.sys ∧ (setLane n x s).pkt = s.pkt ∧ (setLane n x s).win = s.win ∧
    (setLane n x s).clk = s.clk ∧ (setLane n x s).pwr = s.pwr ∧ (setLane n x s).sec = s.sec ∧ (setLane n x s).mram = s.mram ∧
    (setLane n x s).test = s.test ∧ (setLane n x s).gnt = s.gnt ∧ (setLane n x s).part = s.part ∧ (setLane n x s).net = s.net ∧
    (setLane n x s).time = s.time ∧ (setLane n x s).strand = s.strand ∧ (setLane n x s).cell = s.cell ∧
    (setLane n x s).node = s.node ∧ (setLane n x s).gfm = s.gfm ∧ (setLane n x s).grid = s.grid ∧
    (setLane n x s).chan = s.chan ∧ (setLane n x s).arm = s.arm ∧ (setLane n x s).angle = s.angle ∧
    (setLane n x s).leg = s.leg ∧ (setLane n x s).conv = s.conv ∧ (setLane n x s).pair = s.pair ∧
    (setLane n x s).filt = s.filt ∧ (setLane n x s).twin = s.twin ∧ (setLane n x s).pond = s.pond ∧
    (setLane n x s).balls = s.balls ∧ (setLane n x s).occ = s.occ ∧ (setLane n x s).onceLast = s.onceLast ∧
    (setLane n x s).cnt = s.cnt ∧ (setLane n x s).cnt64 = s.cnt64 ∧ (setLane n x s).once = s.once ∧
    (setLane n x s).draws = s.draws ∧ (setLane n x s).pending = s.pending :=
  ⟨rfl, rfl, rfl, rfl, rfl, rfl, rfl, rfl, rfl, rfl, rfl, rfl, rfl, rfl, rfl, rfl, rfl, rfl, rfl, rfl, rfl, rfl, rfl, rfl, rfl, rfl, rfl, rfl, rfl, rfl, rfl, rfl, rfl, rfl, rfl⟩

@[simp] theorem lane_setLane (n : Nat) (x : Lane) (s : State) : lane (setLane n x s) n = x := by
  simp [lane, setLane]

theorem lane_setLane_other (x : Lane) (s : State) {n j : Nat} (h : j ≠ n) : lane (setLane n x s) j = lane s j := by
  simp [lane, setLane, Tbl.getD_put_other h]

/-- `setBond` writes the field `lane` alone. -/
@[simp] theorem setBond_rest (k : Nat) (x : Bond) (s : State) :
    (setBond k x s).now = s.now ∧ (setBond k x s).sys = s.sys ∧ (setBond k x s).pkt = s.pkt ∧ (setBond k x s).win = s.win ∧
    (setBond k x s).clk = s.clk ∧ (setBond k x s).pwr = s.pwr ∧ (setBond k x s).sec = s.sec ∧ (setBond k x s).mram = s.mram ∧
    (setBond k x s).test = s.test ∧ (setBond k x s).gnt = s.gnt ∧ (setBond k x s).part = s.part ∧ (setBond k x s).net = s.net ∧
    (setBond k x s).time = s.time ∧ (setBond k x s).strand = s.strand ∧ (setBond k x s).cell = s.cell ∧
    (setBond k x s).node = s.node ∧ (setBond k x s).gfm = s.gfm ∧ (setBond k x s).grid = s.grid ∧
    (setBond k x s).chan = s.chan ∧ (setBond k x s).arm = s.arm ∧ (setBond k x s).angle = s.angle ∧
    (setBond k x s).leg = s.leg ∧ (setBond k x s).conv = s.conv ∧ (setBond k x s).pair = s.pair ∧
    (setBond k x s).filt = s.filt ∧ (setBond k x s).twin = s.twin ∧ (setBond k x s).pond = s.pond ∧
    (setBond k x s).balls = s.balls ∧ (setBond k x s).occ = s.occ ∧ (setBond k x s).onceLast = s.onceLast ∧
    (setBond k x s).cnt = s.cnt ∧ (setBond k x s).cnt64 = s.cnt64 ∧ (setBond k x s).once = s.once ∧
    (setBond k x s).draws = s.draws ∧ (setBond k x s).pending = s.pending :=
  ⟨rfl, rfl, rfl, rfl, rfl, rfl, rfl, rfl, rfl, rfl, rfl, rfl, rfl, rfl, rfl, rfl, rfl, rfl, rfl, rfl, rfl, rfl, rfl, rfl, rfl, rfl, rfl, rfl, rfl, rfl, rfl, rfl, rfl, rfl, rfl⟩

@[simp] theorem bond_setBond (k : Nat) (x : Bond) (s : State) : bond (setBond k x s) k = x := by
  simp [bond, setBond]

theorem bond_setBond_other (x : Bond) (s : State) {k j : Nat} (h : j ≠ k) : bond (setBond k x s) j = bond s j := by
  simp [bond, setBond, Tbl.getD_put_other h]

/-- `setPartner` writes the field `part` alone. -/
@[simp] theorem setPartner_rest (id : Nat) (x : Partner) (s : State) :
    (setPartner id x s).now = s.now ∧ (setPartner id x s).sys = s.sys ∧ (setPartner id x s).pkt = s.pkt ∧
    (setPartner id x s).win = s.win ∧ (setPartner id x s).clk = s.clk ∧ (setPartner id x s).pwr = s.pwr ∧
    (setPartner id x s).sec = s.sec ∧ (setPartner id x s).mram = s.mram ∧ (setPartner id x s).test = s.test ∧
    (setPartner id x s).gnt = s.gnt ∧ (setPartner id x s).net = s.net ∧ (setPartner id x s).time = s.time ∧
    (setPartner id x s).lane = s.lane ∧ (setPartner id x s).strand = s.strand ∧ (setPartner id x s).cell = s.cell ∧
    (setPartner id x s).node = s.node ∧ (setPartner id x s).gfm = s.gfm ∧ (setPartner id x s).grid = s.grid ∧
    (setPartner id x s).chan = s.chan ∧ (setPartner id x s).arm = s.arm ∧ (setPartner id x s).angle = s.angle ∧
    (setPartner id x s).leg = s.leg ∧ (setPartner id x s).conv = s.conv ∧ (setPartner id x s).pair = s.pair ∧
    (setPartner id x s).filt = s.filt ∧ (setPartner id x s).twin = s.twin ∧ (setPartner id x s).pond = s.pond ∧
    (setPartner id x s).balls = s.balls ∧ (setPartner id x s).occ = s.occ ∧ (setPartner id x s).onceLast = s.onceLast ∧
    (setPartner id x s).cnt = s.cnt ∧ (setPartner id x s).cnt64 = s.cnt64 ∧ (setPartner id x s).once = s.once ∧
    (setPartner id x s).draws = s.draws ∧ (setPartner id x s).pending = s.pending :=
  ⟨rfl, rfl, rfl, rfl, rfl, rfl, rfl, rfl, rfl, rfl, rfl, rfl, rfl, rfl, rfl, rfl, rfl, rfl, rfl, rfl, rfl, rfl, rfl, rfl, rfl, rfl, rfl, rfl, rfl, rfl, rfl, rfl, rfl, rfl, rfl⟩

@[simp] theorem partner_setPartner (id : Nat) (x : Partner) (s : State) : partner (setPartner id x s) id = x := by
  simp [partner, setPartner]

theorem partner_setPartner_other (x : Partner) (s : State) {id j : Nat} (h : j ≠ id) : partner (setPartner id x s) j = partner s j := by
  simp [partner, setPartner, Tbl.getD_put_other h]

end Sys2Proof.Machine
end

