-- ==== Sys2Proof/Tests/Slice0.lean ====
section
/-! SUPPORT. The model's own tests: ill-formed commands that the checks refuse, and for every statement with hypotheses
states and operands that meet them. -/

namespace Sys2Proof.Tests

open Sys2Proof Sys2Proof.Machine Sys2Proof.Safety

-- one test at a time: tests that wait side by side for the kernel would each hold a thread and its stack
set_option Elab.async false

/-- A request of the QSPI host with this payload. -/
def rq (p : List Nat) : Req :=
  { org := 0, seq := 1, tag := 1, ackReq := true, abortOnErr := false, last := true, payload := p.map (BitVec.ofNat 8) }

/-- The state after reset, taken to a device state. -/
def at_ (d : DevState) : State := { State.reset with sys := { State.reset.sys with state := d } }

/-- The state with TBASE locked. -/
def lk (s : State) : State := { s with clk := { s.clk with tb := .locked, everRan := true } }

/-- A reply that is owed to the QSPI host. -/
def own : Owed := owedTo (rq []) 1

/-- A request of the QSPI host with these payload bytes. -/
def rqb (p : Bytes) : Req := { rq [] with payload := p }

/-- A packet inside a group command (16_command_transport.md Tables 16.1 and 16.2). -/
def inner (op : Nat) (p : List Nat) : Bytes :=
  let h : Bytes := [0x32, 4] ++ le 2 op ++ le 4 0 ++ le 2 0 ++ le 2 p.length ++ le 2 0
  let b := h ++ le 2 (crc16 h) ++ p.map (BitVec.ofNat 8)
  b ++ le 4 (crc32c b)

/-- A running device in the first step of a black-start program, by ACTION, GROUP, ARG0 and MIN_MEMBERS, and how far it is. -/
def bsAt (action group arg0 minMembers : Nat) (b : BsRun) : State :=
  let s := lk (at_ .run)
  { s with grid := { s.grid with bsProg := [{ action := action, group := group, minMembers := minMembers, timeout := 1, arg0 := arg0, arg1 := 0 }],
                                 bs := some b } }

/-- A running device in a CLOSE step with ARG0[31] set, by grid mode, run and whether the synchroniser's inputs are mapped. -/
def bsRun3 (m : GridMode) (r : Run) (mapped : Bool) : State :=
  let s := bsAt 3 0xFF (2 ^ 31) 0 {}
  { s with sys := { s.sys with mode := m }, gfm := { s.gfm with run := r },
           grid := { s.grid with sync := if mapped then some (0, 0, 0) else none } }

/-- A running device in a group step over member 5, whose active domain is in this state. -/
def bsGroupAt (dom : Nat) : State :=
  let s := bsAt 4 0 0 0 {}
  { s with grid := { s.grid with bsGroup := [(0, [5])] }, time := { s.time with dom := [(0, { state := dom })] },
           part := { s.part with entry := [(5, { type := 3, session := 255 })], sess := [(255, { partner := 5, state := 2 })] } }

/-- Banks of table 0 are being copied back. -/
def copied : State :=
  let s := at_ .run
  { s with angle := { s.angle with copying := [(1, 0)] } }

/-- An observer whose conditions have held for 100 ms. -/
def goodObs : State :=
  let s := lk (at_ .run)
  { s with gfm := { s.gfm with obs := { on := true, goodSince := some 0 } } }

/-- A fault input asserted for 8 ticks. -/
def stuck : State :=
  let s := lk (at_ .run)
  { s with gnt := { s.gnt with input := [(49, { asserted := true, since := 5 })] } }

/-- An open record that has left the ring, and one that stands in it. -/
def openRecord : State :=
  let s := lk (at_ .run)
  { s with gnt := { s.gnt with openRec := some (7, 5) } }

def heldRecord : State :=
  { openRecord with gnt := { openRecord.gnt with ring := [{ (default : FRec) with recNo := 7 }] } }

/-- A state with a command in front, and one with an empty queue. -/
theorem test_step_front : ({ State.reset with pending := [.powerOn] } : State).pending = .powerOn :: [] ∧
    State.reset.pending = [] := by decide +kernel

/-- Right after reset the invariant holds, and a step is taken. -/
theorem test_inv_step : Safety.Inv State.reset ∧ ∃ t, step State.reset = .next t :=
  ⟨⟨by simp [gatesApart, State.reset], fun _ => rfl, rfl, rfl⟩, _, rfl⟩

/-- A command that answers a next state. -/
theorem test_fault_out : ∃ t, exec .powerOn State.reset = .next t := ⟨_, rfl⟩

/-- Commands and states that meet the conditions of RecoveryAndWindowComplete. -/
theorem test_can_recoveryAndWindowComplete :
    Can.opSysHello (rq [0x32, 0, 0, 0, 255, 255, 255, 255, 255, 255, 255, 255]) State.reset = true ∧
    Can.opSysResync (rq [0, 0, 0, 0]) State.reset = true ∧
    Can.opSysReplay (rq [0, 0, 0, 0, 0, 1, 0, 0]) State.reset = true := by decide +kernel

/-- Commands and states that meet the conditions of QspiPortComplete. -/
theorem test_can_qspiPortComplete :
    Can.chainContinuationTimeout 1600000000 0 (setOrig 0 { orig State.reset 0 with chain := some { opcode := 0x0103, tag := 1, payload := [], since := 0 } } (lk State.reset)) = true := by decide +kernel

/-- Commands and states that meet the conditions of StateOpcodesComplete. -/
theorem test_can_stateOpcodesComplete :
    Can.opSysGetInfo (rq [0, 0, 0, 0]) State.reset = true ∧
    Can.opSysSetStep (rq [0x40, 0x1F, 0, 0, 0, 0, 0, 0]) (at_ .idle) = true ∧
    Can.opSysArm (rq [0, 0, 0, 0]) (lk (at_ .idle)) = true ∧
    Can.opSysRun (rq [1, 0, 0, 0]) (let s := at_ .armed; lk { s with gnt := { s.gnt with confirmed := true }, gfm := { s.gfm with obs := { s.gfm.obs with lock := true } } }) = true ∧
    Can.opSysStop (rq [0xE8, 3, 0, 0]) (at_ .run) = true ∧
    Can.opSysDisarm (rq [0, 0, 0, 0]) (at_ .armed) = true ∧
    Can.opSysService (rq [0, 0, 0, 0]) (at_ .idle) = true ∧
    Can.opSysIdle (rq [0, 0, 0, 0]) (at_ .service) = true ∧
    Can.opGntClear (rq [0, 0, 0, 0]) (at_ .tripped) = true := by decide +kernel

/-- Commands and states that meet the conditions of StepEventsComplete. -/
theorem test_can_stepEventsComplete :
    Can.runEntryBoundary 32000 (let s := lk (at_ .armed); { s with sys := { s.sys with trans := some (.toRun .gf true none) } }) = true ∧
    Can.stopRampEnd (1000 * 1600000) (let s := lk (at_ .run); { s with sys := { s.sys with trans := some (.stopRamp 0 1000) } }) = true ∧
    Can.debugHalt 5 15 (let s := at_ .idle; { s with sec := { s.sec with debug := 2 } }) = true ∧
    Can.debugHaltEnd 5 3 (let s := at_ .idle; { s with sys := { s.sys with halted := 8 } }) = true ∧
    Can.outerStepBoundary 32000 (lk (at_ .run)) = true ∧
    Can.publishTick 48000 (let s := lk (at_ .run); { s with sys := { s.sys with pubFor := some 32000 } }) = true := by decide +kernel

/-- Commands and states that meet the conditions of SuppliesComplete. -/
theorem test_can_suppliesComplete :
    Can.opSysSetSag (rq [2, 6, 0, 0]) (at_ .idle) = true ∧
    Can.supplyWarningStart 5 3 State.reset = true ∧
    Can.resetRelease true 7 (let s := State.reset; { s with pwr := { s.pwr with inReset := true } }) = true ∧
    Can.bootSlotSelection State.reset = true ∧
    Can.idleEntryFromBoot 0 (let s := State.reset; { s with sec := { s.sec with running := 1 } }) = true := by decide +kernel

/-- Commands and states that meet the conditions of SecurityOpcodesComplete. -/
theorem test_can_securityOpcodesComplete :
    Can.opSecGetId (rq [0, 0, 0, 0]) State.reset = true ∧
    Can.opSecQuote (rq (List.replicate 32 7 ++ [1, 0, 0, 0])) State.reset = true ∧
    Can.opSecImageLoad (rq (List.replicate 612 0)) (setOrig 0 { orig State.reset 0 with chain := some { opcode := 0x0103, tag := 1, payload := (rq ([0, 0, 0, 0, 0, 0x12, 0, 0] ++ List.replicate 4000 0)).payload, since := 0 } } State.reset) = true ∧
    Can.opSecImageVerify (rq [1, 0, 0, 0]) State.reset = true ∧
    Can.opSecSlotSelectTryOnce (rq [1, 0, 0, 0]) (let s := State.reset; { s with sec := { s.sec with slotB := { s.sec.slotB with vr := 1 } } }) = true ∧
    Can.opSecSlotSelectPermanent (rq [1, 1, 0, 0]) (let s := at_ .idle; { s with sec := { s.sec with slotB := { s.sec.slotB with vr := 1 }, running := 2 } }) = true ∧
    Can.opSecReboot (rq [0, 0, 0, 0]) State.reset = true ∧
    Can.opSecOwnerFuse (rq (List.replicate 132 0)) State.reset = true := by decide +kernel

/-- Commands and states that meet the conditions of DebugAndStoreComplete. -/
theorem test_can_debugAndStoreComplete :
    Can.opSecDebugChallenge (rq [3, 0, 0, 0]) State.reset = true ∧
    Can.opSecDebugLock (rq [1, 1, 0, 0]) State.reset = true ∧
    Can.opSecDebugUnlock (rq (3 :: List.replicate 131 0)) State.reset = true ∧
    Can.opSecCfgSave (rq [0, 0, 0, 0]) (at_ .idle) = true ∧
    Can.opSecCfgLoad (rq [0, 0, 0, 0]) (let s := at_ .idle; { s with mram := { s.mram with cfg := [{ imageVer := 0, snap := {} }] } }) = true ∧
    Can.opSecJournalRead (rq [1, 0, 0, 0, 0, 0, 0, 0, 0, 4, 0, 0]) State.reset = true ∧
    Can.slotVerificationDone 0 (let s := State.reset; { s with sec := { s.sec with verifying := some (0, .command own) } }) = true ∧
    Can.journalEntryWrite 5 (let s := at_ .idle; { s with sec := { s.sec with journalQ := [(2, [])] } }) = true ∧
    Can.fuseBlowDone 5 (let s := at_ .idle; { s with sec := { s.sec with fusing := some ([], true) } }) = true ∧
    Can.cfgSaveDone 5 (let s := at_ .idle; { s with sec := { s.sec with saving := some ({ imageVer := 0, snap := {} }, own) } }) = true ∧
    Can.extest 5 [] (let s := at_ .service; { s with sec := { s.sec with debug := 3 } }) = true := by decide +kernel

/-- Commands and states that meet the conditions of TimeOpcodesComplete. -/
theorem test_can_timeOpcodesComplete :
    Can.opTimeSetDomain (rq [1, 1, 0, 127, 0, 1, 128, 128, 1, 3, 4, 10, 232, 3, 0, 0, 160, 134, 1, 0, 64, 66, 15, 0, 100, 0, 0, 0, 248, 0, 0, 0]) (at_ .idle) = true ∧
    Can.opTimeGetDomain (rq [1, 0, 0, 0]) (at_ .idle) = true ∧
    Can.opTimeGet (rq [0, 0, 0, 0]) (at_ .idle) = true ∧
    Can.opTimeSetActive (rq [1, 0, 0, 0]) (let s := at_ .idle; { s with time := { s.time with dom := [(1, { state := 3 })] } }) = true ∧
    Can.opTimeStep (rq [1, 47, 0, 0]) (let s := at_ .idle; { s with time := { s.time with dom := [(1, { state := 3 })] } }) = true ∧
    Can.timeStepExecuted 32000 (let s := lk (at_ .idle); { s with time := { s.time with stepPend := some (0, 0) } }) = true ∧
    Can.opTimeSetPps (rq [244, 1, 0, 0]) (at_ .idle) = true := by decide +kernel

/-- Commands and states that meet the conditions of TimeEventsComplete. -/
theorem test_can_timeEventsComplete :
    Can.ppsOutSecond 1600000000 (let s := lk (at_ .idle); { s with time := { s.time with dom := [(0, { valid := true })] } }) = true ∧
    Can.ppsOutPulseEnd 5 (let s := at_ .idle; { s with time := { s.time with ppsHigh := true } }) = true ∧
    Can.ppsInEdge 5 (lk (at_ .idle)) = true ∧
    Can.ptpAnnounceTimeout 5 1 (let s := at_ .idle; { s with time := { s.time with dom := [(1, { cfg := { enable := true }, state := 3 })] } }) = true ∧
    Can.ptpMasterMessageTx 5 1 0 (let s := lk (at_ .idle); { s with time := { s.time with dom := [(1, { cfg := { enable := true }, state := 5 })] } }) = true ∧
    Can.timeSlewDone 5 (let s := at_ .idle; { s with time := { s.time with slewing := true } }) = true ∧
    Can.ptpMessageReceived 5 3 {} (.delayReq 0 0 0) (let s := at_ .idle; { s with net := { s.net with port := [(3, { link := true })] } }) = true := by decide +kernel

/-- Commands and states that meet the conditions of ClockOpcodesComplete. -/
theorem test_can_clockOpcodesComplete :
    Can.opClkSelect (rq [1, 0, 0, 0, 3, 0, 0, 0]) (at_ .idle) = true ∧
    Can.opClkSetPll (rq [0, 0, 168, 97, 250, 0, 232, 3, 1, 0, 0, 0, 0, 0, 0, 0]) (at_ .idle) = true ∧
    Can.opClkSetRefout (rq [3, 0, 3, 0, 255, 255, 0, 0]) (at_ .idle) = true ∧
    Can.opClkGate (rq [0, 0, 0, 0]) (at_ .idle) = true ∧
    Can.clockGateEffective 5 (let s := at_ .idle; { s with clk := { s.clk with gatePend := some 1 } }) = true ∧
    Can.opClkGetStatus (rq [0, 0, 0, 0]) (at_ .idle) = true ∧
    Can.refoutEdge 5 3 (let s := lk (at_ .idle); { s with clk := { s.clk with refout := [(3, { src := 1 })] } }) = true := by decide +kernel

/-- Commands and states that meet the conditions of TimebaseEventsComplete. -/
theorem test_can_timebaseEventsComplete :
    Can.xoSettleDone (let s := State.reset; { s with clk := { s.clk with xoSettling := true } }) = true ∧
    Can.sourceReady 5 2 State.reset = true ∧
    Can.sourceLoss 5 2 2 State.reset = true ∧
    Can.tbLockDeclared (let s := State.reset; { s with clk := { s.clk with tb := .acquiring } }) = true ∧
    Can.phaseTrip 5 (lk (at_ .idle)) = true ∧
    Can.holdValidSet 96000000000 (lk (at_ .idle)) = true ∧
    Can.recoveringLocked 160000000 (let s := at_ .idle; { s with clk := { s.clk with tb := .recovering } }) = true ∧
    Can.phaseTripRecovery (20 * 1600000) (let s := lk (at_ .idle); { s with clk := { s.clk with tb := .holdover, tripAt := some 0, source := 2, ready := [(2, 0)] } }) = true ∧
    Can.wellspringRevert 16000000000 (let s := lk (at_ .idle); { s with clk := { s.clk with list := [1, 2, 0, 0], source := 2, revert := true, ready := [(1, 0)] } }) = true ∧
    Can.loopFaultStop 5 (lk (at_ .idle)) = true := by decide +kernel

/-- Commands and states that meet the conditions of GfmComplete. -/
theorem test_can_gfmComplete :
    Can.opGfmSetParam (rq [1, 0, 0, 0, 18, 0, 0, 0, 0, 0, 0, 8]) (at_ .idle) = true ∧
    Can.opGfmCommit (rq [0, 0, 0, 0]) (at_ .idle) = true ∧
    Can.opGfmDiscard (rq [0, 0, 0, 0]) (at_ .idle) = true ∧
    Can.opGfmGetParam (rq [39, 0, 0, 0]) (at_ .idle) = true ∧
    Can.opGfmGetState (rq [0, 0, 0, 0]) (at_ .idle) = true ∧
    Can.opGfmMapChannel (rq [63, 4, 0, 0, 0, 0, 0, 0, 0, 0, 0, 0, 0, 0, 0, 0]) (at_ .idle) = true ∧
    Can.opGfmSetSec (rq [0, 0, 0, 0]) (at_ .idle) = true ∧
    Can.obsLockGained 160000000 goodObs = true ∧
    Can.evGfmBlendDone 5 (let s := at_ .idle; { s with gfm := { s.gfm with par := { s.gfm.par with blendDue := true } } }) = true ∧
    Can.evGfmSecStale 5 (let s := at_ .idle; { s with gfm := { s.gfm with par := { s.gfm.par with present := [(0x21, 1)] } } }) = true := by decide +kernel

/-- Commands and states that meet the conditions of GridParamComplete. -/
theorem test_can_gridParamComplete :
    Can.opGridSetParam (rq [1, 0, 0, 0, 26, 0, 0, 0, 255, 0, 0, 0]) (at_ .idle) = true ∧
    Can.opGridCommit (rq [0, 0, 0, 0]) (at_ .idle) = true ∧
    Can.opGridDiscard (rq [0, 0, 0, 0]) (at_ .idle) = true ∧
    Can.opGridGetParam (rq [33, 0, 0, 0]) (at_ .idle) = true ∧
    Can.opGridSetEnv (rq [0, 1, 0, 0, 232, 3, 0, 0, 0, 0, 0, 8]) (at_ .idle) = true ∧
    Can.opGridClRelease (rq [0, 0, 0, 0]) (at_ .run) = true ∧
    Can.opGridMapSync (rq [19, 19, 19, 0]) (at_ .armed) = true ∧
    Can.opGridSyncStart (rq [1, 0, 0, 0]) (let s := at_ .run; { s with sys := { s.sys with mode := .gf }, grid := { s.grid with sync := some (0, 1, 2) } }) = true ∧
    Can.opGridSyncStop (rq [0, 0, 0, 0]) (at_ .run) = true ∧
    Can.opGridIslClear (rq [0, 0, 0, 0]) (at_ .run) = true := by decide +kernel

/-- Commands and states that meet the conditions of GridBsComplete. -/
theorem test_can_gridBsComplete :
    Can.opGridSetMode (rq [1, 0, 0, 0]) (let s := at_ .run; { s with gfm := { s.gfm with run := { s.gfm.run with bsDone := true } }, sys := { s.sys with mode := .bs } }) = true ∧
    Can.opGridBsGroup (rq [7, 0, 1, 0, 5, 0]) (let s := at_ .armed; { s with part := { s.part with entry := [(5, { type := 3 })] } }) = true ∧
    Can.opGridBsLoad (rq [1, 0, 0, 0, 0, 255, 0, 0, 232, 3, 0, 0, 0, 0, 0, 0, 0, 0, 0, 0]) (at_ .armed) = true ∧
    Can.opGridBsContinueProceed (rq [0, 0, 0, 0]) (let s := at_ .run; { s with grid := { s.grid with bs := some { begun := true }, bsProg := [{ action := 6, group := 0xFF, minMembers := 0, timeout := 1000, arg0 := 0, arg1 := 0 }] } }) = true ∧
    Can.opGridBsContinueRetry (rq [1, 0, 0, 0]) (let s := at_ .run; { s with grid := { s.grid with bs := some { halted := true } } }) = true ∧
    Can.opGridBsContinueSkip (rq [2, 0, 0, 0]) (let s := at_ .run; { s with grid := { s.grid with bs := some { halted := true } } }) = true ∧
    Can.opGridBsAbort (rq [0, 0, 0, 0]) (let s := at_ .run; { s with grid := { s.grid with bs := some {} } }) = true ∧
    Can.opGridGetState (rq [0, 0, 0, 0]) (at_ .run) = true := by decide +kernel

/-- Commands and states that meet the conditions of GridEventsComplete. -/
theorem test_can_gridEventsComplete :
    Can.gfClExit 16000000000 (let s := lk (at_ .run); { s with sys := { s.sys with mode := .gfCl }, gfm := { s.gfm with vLineMin := 2, run := { s.gfm.run with exitSince := some 0 } } }) = true ∧
    Can.evGridClLong 5 (let s := at_ .run; { s with gfm := { s.gfm with run := { s.gfm.run with clSince := 0 } }, sys := { s.sys with mode := .gfCl } }) = true ∧
    Can.envelopePointExceeded 5 3 0 (let s := at_ .run; { s with grid := { s.grid with env := [(3, [(1, 0)])], timer := [(48, { t := 1601 })] } }) = true ∧
    Can.envelopeTimerReset 5 3 0 (let s := at_ .run; { s with grid := { s.grid with timer := [(48, { okSince := some 0 })] } }) = true ∧
    Can.handoverBlendDone 5 (let s := at_ .run; { s with gfm := { s.gfm with run := { s.gfm.run with ho := some { from_ := .gf, target := .gfl, blending := true, lambda := 1 } } } }) = true ∧
    Can.handoverPendingTimeout 5 (let s := at_ .run; { s with gfm := { s.gfm with run := { s.gfm.run with ho := some { from_ := .gf, target := .gfl } } } }) = true ∧
    Can.evGridGflLost (100000 * 1600000) (let s := at_ .run; { s with sys := { s.sys with mode := .gfl } }) = true ∧
    Can.evGridSyncOk 5 (let s := at_ .run; { s with gfm := { s.gfm with run := { s.gfm.run with syncSince := some 0, syncRun := true } } }) = true ∧
    Can.syncBreakerClosed 5 (let s := at_ .run; { s with gfm := { s.gfm with run := { s.gfm.run with syncRun := true, closeSince := some 0 } } }) = true := by decide +kernel

/-- Commands and states that meet the conditions of BsEventsComplete. -/
theorem test_can_bsEventsComplete :
    Can.bsStepStart 5 (bsAt 1 0xFF 0 0 {}) = true ∧
    Can.bsStepComplete 5 (bsAt 6 0xFF 0 0 { begun := true, proceed := true }) = true ∧
    Can.bsStepTimeout 1600 (bsAt 1 0xFF 0 0 { begun := true }) = true ∧
    Can.bsClosePulseEnd 5 (bsAt 3 0xFF 0 0 { begun := true, pulseTo := some 5 }) = true ∧
    Can.bsWaitVHeld 5 (bsAt 2 0xFF 0 0 { begun := true, vSince := some 5 }) = true ∧
    (let t := { bsAt 0 0xFF 0 0 {} with grid := { bs := some {} } }; Can.bsStepStart 5 t && decide ((advance 5 t).grid.bsProg.length ≤ 0)) = true ∧
    (let t := bsAt 0 0xFF 0 0 {}; Can.bsStepStart 5 t && decide (0 < t.grid.bsProg.length)) = true ∧
    (let t := bsAt 1 0xFF 0 0 {}; Can.bsStepStart 5 t && !bsGrouped (bsStepOf t {})) = true ∧
    (let t := bsAt 3 0xFF 31 0 {}; Can.bsStepStart 5 t && !(bsStepOf t {}).arg0.testBit 31) = true ∧
    (let t := bsRun3 .gf { syncPerm := true } true; Can.bsStepStart 5 t && (bsStepOf t {}).action == 3 && (bsStepOf t {}).arg0.testBit 31 && t.gfm.run.syncPerm) = true ∧
    (let t := bsRun3 .gf { syncRun := true } true; Can.bsStepStart 5 t && (bsStepOf t {}).action == 3 && (bsStepOf t {}).arg0.testBit 31 && !t.gfm.run.syncPerm && t.gfm.run.syncRun) = true ∧
    (let t := bsRun3 .gf {} true; Can.bsStepStart 5 t && (bsStepOf t {}).action == 3 && (bsStepOf t {}).arg0.testBit 31 && !t.gfm.run.syncPerm && !t.gfm.run.syncRun && t.sys.mode == .gf && t.grid.sync.isSome) = true ∧
    (let t := bsRun3 .gfl {} true; Can.bsStepStart 5 t && (bsStepOf t {}).action == 3 && (bsStepOf t {}).arg0.testBit 31 && !t.gfm.run.syncPerm && !t.gfm.run.syncRun && t.sys.mode != .gf) = true ∧
    (let t := bsRun3 .gf {} false; Can.bsStepStart 5 t && (bsStepOf t {}).action == 3 && (bsStepOf t {}).arg0.testBit 31 && !t.gfm.run.syncPerm && !t.gfm.run.syncRun && t.grid.sync.isNone) = true ∧
    (let t := bsGroupAt 2; Can.bsStepStart 5 t && bsGrouped (bsStepOf t {}) && groupRefusal (advance 5 t) [5] == some .notReady) = true ∧
    (let t := bsGroupAt 3; Can.bsStepStart 5 t && bsGrouped (bsStepOf t {}) && (groupRefusal (advance 5 t) [5]).isNone) = true ∧
    (Can.bsGoes (advance 5 (bsAt 1 0 0 1 { begun := true, result := some (0, []) })) && decide (([] : List Nat).length < (bsStepOf (bsAt 1 0 0 1 {}) {}).minMembers)) = true ∧
    (Can.bsGoes (advance 5 (bsAt 1 0 0 1 { begun := true, retried := true, result := some (Status.aborted.code, []) }))) = true ∧
    State.reset.pwr.inReset = false ∧
    (advance 5 State.reset).grid.bs = none := by decide +kernel

/-- Commands and states that meet the conditions of BrimComplete. -/
theorem test_can_brimComplete :
    Can.opBrimSetChannel (rq [63, 0, 0, 0, 0, 0, 0, 0, 0, 0, 0, 8, 96, 227, 22, 0, 64, 66, 15, 0, 128, 132, 30, 0, 16, 39, 0, 0, 32, 78, 0, 0, 0, 0, 0, 8, 0, 0, 0, 0, 0, 1, 0, 0, 0, 0, 0, 0, 255, 255, 255, 255, 0, 0, 0, 0]) (at_ .armed) = true ∧
    Can.opBrimSetArm (rq [7, 1, 1, 0, 10, 0, 0, 0, 0, 0, 0, 0, 0, 0, 0, 8, 0, 0, 0, 8, 220, 5, 16, 0, 5, 0]) (let s := at_ .armed; { s with part := { s.part with entry := [(5, { type := 1 })] } }) = true ∧
    Can.opBrimGetStatus (rq [63, 0, 0, 0]) (at_ .run) = true ∧
    Can.brimDecision 5 63 0 false (let s := at_ .run; { s with chan := [(63, { inq := [(0, 0)] })] }) = true ∧
    Can.anpcChainSecondChange 5 63 (let s := lk (at_ .run); { s with chan := [(63, { pend := some { up := true, ts := 0, at_ := 0, second := true } })] }) = true := by decide +kernel

/-- Commands and states that meet the conditions of AngleTablesComplete. -/
theorem test_can_angleTablesComplete :
    Can.opAngleSetTable (rq [7, 2, 64, 0, 0, 0, 0, 0]) (at_ .run) = true ∧
    Can.opAngleWrite (rq [7, 0, 255, 3, 1, 0, 0, 0, 1, 2, 3, 4]) (at_ .run) = true ∧
    Can.opAngleRead (rq [7, 1, 255, 3, 1, 0, 0, 0]) (at_ .run) = true ∧
    Can.angleCopyBackDone 5 copied = true ∧
    Can.opAngleBind (rq [7, 1, 63, 0, 0, 0, 0, 16, 0, 0, 0, 0]) (at_ .armed) = true ∧
    Can.opAngleBindRemove (rq [7, 0, 63, 0, 0, 0, 0, 0, 0, 0, 0, 0]) (let s := at_ .armed; { s with angle := { s.angle with bind := [{ table := 7, kind := 1, target := 63, gain := 0, phase := 0 }] } }) = true := by decide +kernel

/-- Commands and states that meet the conditions of InjectionComplete. -/
theorem test_can_injectionComplete :
    Can.opAngleInjSet (rq [0, 0, 1, 0, 0, 0, 0, 0, 0, 0, 0, 0, 32, 78, 0, 0, 1, 0, 0, 0, 232, 3, 0, 0, 0, 0, 0, 0, 0, 0, 2, 0, 64, 66, 15, 0, 0, 0, 1, 0, 80, 0, 0, 0, 1, 0, 0, 0, 0, 0, 0, 0]) (at_ .run) = true ∧
    Can.opAngleInjStart (rq [0, 0, 0, 0]) (let s := at_ .run; { s with sys := { s.sys with mode := .gfl }, angle := { s.angle with injCfg := some [] } }) = true ∧
    Can.injectionFadeInDone 5 (let s := lk (at_ .run); { s with angle := { s.angle with inj := some { phase := 1 } } }) = true ∧
    Can.correlationWindowEnd (2 ^ 40) (let s := lk (at_ .run); { s with angle := { s.angle with inj := some { phase := 2 }, injCfg := some (rq []).payload } }) = true ∧
    Can.injectionFadeOutDone 5 (let s := lk (at_ .run); { s with angle := { s.angle with inj := some { phase := 3 } } }) = true ∧
    Can.scanReportReady 5 (let s := at_ .run; { s with angle := { s.angle with reporting := some ([], {}) } }) = true ∧
    Can.opAngleInjStop (rq [0, 0, 0, 0]) (let s := at_ .run; { s with angle := { s.angle with inj := some { phase := 2 } } }) = true ∧
    Can.opAngleCorrSet (rq [1, 8, 0, 0, 2, 19, 0, 0, 1, 8, 0, 0, 2, 19, 0, 0, 1, 8, 0, 0, 2, 19, 0, 0, 1, 8, 0, 0, 2, 19, 0, 0]) (at_ .run) = true ∧
    Can.opAngleScanRead (rq [0, 0, 0, 0]) (let s := at_ .run; { s with angle := { s.angle with report := some [] } }) = true := by decide +kernel

/-- Commands and states that meet the conditions of LegOpcodesComplete. -/
theorem test_can_legOpcodesComplete :
    Can.opLegSetConfig (rq [47, 255, 0, 0, 0, 36, 244, 0, 32, 3, 32, 3, 0, 0, 128, 62, 64, 6, 8, 0, 128, 62, 160, 0, 128, 62, 0, 0, 0, 0, 128, 12, 1, 0, 0, 0, 232, 3, 0, 0]) (at_ .armed) = true ∧
    Can.opLegSync (rq [0, 0, 0, 0, 0, 128, 0, 0, 160, 0, 0, 0, 0, 0, 0, 0]) (at_ .run) = true ∧
    Can.opLegStage (rq [47, 3, 0, 0, 64, 1, 0, 0, 0, 0, 0, 8, 0, 0, 0, 0, 0, 0, 0, 0, 0, 0, 0, 0]) (at_ .run) = true ∧
    Can.opLegCommit (rq [0, 0, 0, 0, 0, 128, 0, 0, 0, 0, 0, 0, 0, 0, 0, 0]) (let s := at_ .run; { s with leg := [(47, { wroteP := true, wroteD := true })] }) = true ∧
    Can.opLegSetCmp (rq [47, 0, 0, 0, 0, 0, 0, 0, 1, 15, 0, 0, 0, 0, 0, 0, 4, 0, 0, 0, 0, 0, 0, 0, 0, 0, 0, 0, 0, 0, 0, 0, 0, 0, 0, 0]) (at_ .run) = true ∧
    Can.opLegDisable (rq [0, 0, 0, 0, 0, 128, 0, 0]) (at_ .idle) = true ∧
    Can.opLegEnable (rq [0, 0, 0, 0, 0, 128, 0, 0]) (at_ .run) = true ∧
    Can.opLegGetStatus (rq [47, 0, 0, 0]) (at_ .idle) = true := by decide +kernel

/-- Commands and states that meet the conditions of LegCarrierComplete. -/
theorem test_can_legCarrierComplete :
    Can.legAnchorApplied 5 47 (let s := lk (at_ .run); { s with leg := [(47, { sync := [0] })] }) = true ∧
    Can.legPeriodBoundary 32000 47 (lk (at_ .run)) = true ∧
    Can.legApexUpdate 16000 47 (let s := lk (at_ .run); { s with leg := [(47, { cfg := { ctrl := 0x3C } })] }) = true ∧
    Can.legOutputEdge 5 47 (let s := at_ .run; { s with leg := [(47, { mitten := false })] }) = true ∧
    Can.deadTimeExpiry 5 47 (let s := lk (at_ .run); { s with leg := [(47, { assertAt := some (true, 8) })] }) = true := by decide +kernel

/-- Commands and states that meet the conditions of LegGuardComplete. -/
theorem test_can_legGuardComplete :
    Can.refreshGuard (2 ^ 40) 47 (let s := lk (at_ .run); { s with leg := [(47, { cfg := { ctrl := 0xFFFF }, mitten := false, enabled := true, offSince := some 0 })] }) = true ∧
    Can.refreshLowEnd 5 47 (let s := lk (at_ .run); { s with leg := [(47, { refreshTo := some 0 })] }) = true ∧
    Can.interlockBlankEnd 5 47 (let s := lk (at_ .run); { s with leg := [(47, { blankTo := some 0 })] }) = true ∧
    Can.legCompareFire 100 47 3 (let s := lk (at_ .run); { s with leg := [(47, { start := some 0, cmp := [(3, { value := 100, target := 2 })] })] }) = true ∧
    Can.trigOutPulseEnd 5 1 (let s := lk (at_ .idle); { s with balls := { s.balls with trigOut := [(1, 3)] } }) = true ∧
    Can.mitDelayHoldEnd 5 47 (let s := at_ .run; { s with leg := [(47, { hold := some (1, 0) })] }) = true ∧
    Can.mittenAssertWaitEnd 5 47 (let s := lk (at_ .run); { s with leg := [(47, { wait := some (1, 0) })] }) = true ∧
    Can.ovlWinElapsed (2 ^ 40) 47 (let s := lk (at_ .run); { s with leg := [(47, { ovlOn := true })] }) = true := by decide +kernel

/-- Commands and states that meet the conditions of GauntletOpcodesComplete. -/
theorem test_can_gauntletOpcodesComplete :
    Can.opGntSetInputs (rq [255, 255, 255, 255, 255, 255, 3, 0]) (at_ .idle) = true ∧
    Can.opGntSetBlank (rq [0, 25, 0, 25, 0, 25, 0, 25, 0, 25, 0, 25, 0, 25, 0, 25, 0, 25, 0, 25, 0, 25, 0, 25, 0, 25, 0, 25, 0, 25, 0, 25]) (at_ .idle) = true ∧
    Can.opGntGetRecords (rq [0, 0, 0, 0, 0, 0, 0, 0, 80, 0, 0, 0]) (at_ .idle) = true ∧
    Can.opGntUnpin (rq [0, 0, 0, 0]) (at_ .idle) = true ∧
    Can.opGntLoadTable (rq (List.replicate 516 0)) (at_ .tripped) = true ∧
    Can.opGntLoadTableFactory (rq [1, 0, 0, 0]) (at_ .tripped) = true ∧
    Can.opGntConfirm (rq [0, 0, 0, 0]) (let s := at_ .tripped; { s with gnt := { s.gnt with staging := some [] } }) = true ∧
    Can.opGntGetTable (rq [0, 0, 0, 0]) (at_ .idle) = true ∧
    Can.opGntRaise (rq [255, 255, 0, 0]) (at_ .idle) = true ∧
    Can.opGntGetInput (rq [49, 0, 0, 0]) (at_ .idle) = true := by decide +kernel

/-- Commands and states that meet the conditions of GauntletEventsComplete. -/
theorem test_can_gauntletEventsComplete :
    Can.faultInputAssert 5 49 (at_ .run) = true ∧
    Can.faultInputRecognised 13 49 stuck = true ∧
    Can.blankingWindowEnd 5 49 (at_ .run) = true ∧
    Can.faultRecordClose 5 openRecord = true ∧
    Can.mittenNAssert 5 (at_ .run) = true ∧
    Can.mittenNQualified 5 (let s := at_ .run; { s with gnt := { s.gnt with mitLow := some 0 } }) = true ∧
    (openRecord.gnt.ring.find? fun r => r.recNo == 7).isNone = true ∧
    Can.faultRecordClose 5 heldRecord = true ∧
    (heldRecord.gnt.ring.find? fun r => r.recNo == 7).isSome = true := by decide +kernel

/-- Commands and states that meet the conditions of ChoppersComplete. -/
theorem test_can_choppersComplete :
    Can.opGntSetChop (rq [1, 1, 255, 15, 0, 0, 0, 0, 5, 0, 4, 0, 6, 0, 0, 0, 0, 0, 0, 0, 1, 0, 0, 0, 100, 0, 0, 0, 232, 3, 0, 0, 100, 0, 0, 0, 0, 0, 0, 0]) (at_ .armed) = true ∧
    Can.opGntChopCtrlRelease (rq [1, 0, 0, 0]) (at_ .idle) = true ∧
    Can.opGntChopCtrlEnable (rq [1, 1, 0, 0]) (at_ .idle) = true ∧
    Can.chopperSample 5 1 (let s := at_ .run; { s with gnt := { s.gnt with chop := [(1, { inq := [(0, 0)] })] } }) = true ∧
    Can.chopperEdge 5 1 (let s := at_ .run; { s with gnt := { s.gnt with chop := [(1, { edge := some (true, 0) })] } }) = true ∧
    Can.chopperEnergyUpdate 1600 1 (let s := lk (at_ .run); { s with gnt := { s.gnt with chop := [(1, { written := true })] } }) = true := by decide +kernel

/-- Commands and states that meet the conditions of AcqComplete. -/
theorem test_can_acqComplete :
    Can.opAcqSetConv (rq [19, 0, 0, 16, 0, 0, 1, 1, 0, 0, 0, 0, 0, 0, 0, 0, 0, 0, 0, 0, 0, 0, 0, 0]) (at_ .run) = true ∧
    Can.opAcqSetPair (rq [7, 0, 0, 16, 0, 16, 0, 0]) (at_ .idle) = true ∧
    Can.opAcqCalibrate (rq [0, 0, 8, 0]) (lk (at_ .idle)) = true ∧
    Can.calibrationDone 5 [] (let s := at_ .idle; { s with conv := [(19, { calibrating := true })] }) = true ∧
    Can.opAcqGetCal (rq [0, 0, 0, 0]) (at_ .run) = true ∧
    Can.opAcqSaveCal (rq [0, 0, 0, 0]) (at_ .armed) = true ∧
    Can.opAcqGetStatus (rq [19, 0, 0, 0]) (at_ .run) = true ∧
    Can.tempMonitorRead 5 [] (at_ .run) = true ∧
    Can.acqConversion 80 15 0 (let s := lk (at_ .run); { s with conv := [(15, { cfg := { timing := 1 } })] }) = true ∧
    Can.fastWordDelivered 5 15 (let s := at_ .run; { s with conv := [(15, { fly := [(0, 0, 0)] })] }) = true ∧
    Can.auxWordClose (160 * 256) 19 [] (let s := lk (at_ .run); { s with conv := [(19, { cfg := { timing := 1, div := 256 } })] }) = true := by decide +kernel

/-- Commands and states that meet the conditions of FiltComplete. -/
theorem test_can_filtComplete :
    Can.opFiltSetChain (rq [19, 1, 5, 1, 0, 2, 0, 1, 0, 0, 0, 0, 0, 0, 0, 0]) (at_ .run) = true ∧
    Can.opFiltLoadCoef (rq [19, 0, 255, 1, 1, 0, 0, 0, 255, 255, 255, 255]) (at_ .run) = true ∧
    Can.opFiltApply (rq [19, 0, 0, 0, 166, 210, 174, 71]) (let s := at_ .run; { s with filt := [(19, { stagedHdr := some [19, 0, 0, 0, 0, 0, 0, 0, 0, 0, 0, 0, 0, 0, 0, 0] })] }) = true ∧
    Can.opFiltGetStatus (rq [19, 0, 0, 0]) (at_ .run) = true ∧
    Can.filterInputWord 5 19 (let s := at_ .run; { s with filt := [(19, { inq := [(0, 0)] })] }) = true ∧
    Can.filterOutputDelivered 5 19 (let s := at_ .run; { s with filt := [(19, { fly := [(0, 0, 0)] })] }) = true := by decide +kernel

/-- Commands and states that meet the conditions of PondOpcodesComplete. -/
theorem test_can_pondOpcodesComplete :
    Can.opPondSetCapture (rq [1, 1, 1, 0, 1, 0, 0, 0, 2, 0, 0, 0, 0, 0, 0, 0, 0, 0, 0, 0, 6, 2, 16, 0]) (at_ .run) = true ∧
    Can.opPondArm (rq [0, 0, 0, 0]) (let s := at_ .idle; { s with pond := { s.pond with cfg := some [1, 1, 1, 0, 1, 0, 0, 0, 2, 0, 0, 0, 0, 0, 0, 0, 0, 0, 0, 0, 6, 2, 16, 0] } }) = true ∧
    Can.opPondDisarm (rq [0, 0, 0, 0]) (at_ .run) = true ∧
    Can.opPondSetTrig (rq [0, 0, 0, 0, 0, 0, 0, 0, 0, 0, 0, 0, 0, 0, 0, 0, 0, 0, 0, 0, 0, 0, 0, 0, 0, 0, 0, 0, 0, 0, 0, 0]) (let s := at_ .idle; { s with pond := { s.pond with cfg := some [1, 1, 1, 0, 1, 0, 0, 0, 2, 0, 0, 0, 0, 0, 0, 0, 0, 0, 0, 0, 6, 2, 16, 0] } }) = true ∧
    Can.opPondTrigger (rq [0, 0, 0, 0]) (at_ .run) = true ∧
    Can.opPondRead (rq [1, 0, 0, 0, 0, 0, 0, 0, 0, 0, 0, 0, 1, 0, 0, 0]) (let s := at_ .idle; { s with pond := { s.pond with held := [{ recNo := 1, mask := 0, trigTick := 0, preAct := 0, frames := [[0, 0]], nCh := 1, frameBytes := 2 }] } }) = true ∧
    Can.opPondFree (rq [1, 0, 0, 0, 0, 0, 0, 0]) (let s := at_ .idle; { s with pond := { s.pond with held := [{ recNo := 1, mask := 0, trigTick := 0, preAct := 0, frames := [] }] } }) = true ∧
    Can.opPondList (rq [0, 0, 0, 0]) (at_ .run) = true ∧
    Can.opPondGetStatus (rq [0, 0, 0, 0]) (at_ .run) = true := by decide +kernel

/-- Commands and states that meet the conditions of PondEventsComplete. -/
theorem test_can_pondEventsComplete :
    Can.pondCaptureFrame 1680 (let s := lk (at_ .run); { s with pond := { s.pond with cfg := some [1, 1, 1, 0, 1, 0, 0, 0, 2, 0, 0, 0, 0, 0, 0, 0, 0, 0, 0, 0, 6, 2, 16, 0], phase := 1 } }) = true ∧
    Can.trigInEdge 5 3 (at_ .run) = true ∧
    Can.xtrigDriveEnd 5 (let s := lk (at_ .idle); { s with pond := { s.pond with xDrive := 4 } }) = true ∧
    Can.pondRecordClose 5 (let s := at_ .idle; { s with pond := { s.pond with cfg := some [1, 1, 1, 0, 1, 0, 0, 0, 2, 0, 0, 0, 0, 0, 0, 0, 0, 0, 0, 0, 6, 2, 16, 0], cur := some { recNo := 1, mask := 0, trigTick := 0, preAct := 0, frames := [[0, 0], [0, 0]] } } }) = true ∧
    Can.pondRearmEnd 5 (let s := lk (at_ .run); { s with pond := { s.pond with phase := 3 } }) = true ∧
    Can.pondStreamAcked 5 1 (let s := at_ .idle; { s with pond := { s.pond with held := [{ recNo := 1, mask := 0, trigTick := 0, preAct := 0, frames := [], streaming := true, sentTo := 1000 }], cfg := some [1, 4, 0, 0, 0, 0, 0, 0, 0, 0, 0, 0, 0, 0, 0, 0, 5, 0] }, part := { s.part with entry := [(5, { type := 4, session := 255 })], sess := [(255, { partner := 5, state := 2 })] } }) = true ∧
    Can.pondReadHoldEnd 5 1 (let s := at_ .idle; { s with pond := { s.pond with cfg := some [1, 0], phase := 4, held := [{ recNo := 1, mask := 0, trigTick := 0, preAct := 0, frames := [] }] } }) = true := by decide +kernel

/-- Commands and states that meet the conditions of LaneOpcodesComplete. -/
theorem test_can_laneOpcodesComplete :
    Can.opLaneSetQuad (rq [3, 1, 0, 0]) (at_ .service) = true ∧
    Can.opLaneSetConfig (rq [15, 5, 7, 0, 15, 7, 15, 15, 64, 0, 0, 0]) (at_ .service) = true ∧
    Can.opLaneTrain (rq [0, 128, 0, 0]) (let s := at_ .idle; { s with lane := { s.lane with ln := [(15, { role := 3 })] } }) = true ∧
    Can.opLaneSlip (rq [15, 65, 0, 0]) (at_ .service) = true ∧
    Can.opLanePowerSleep (rq [15, 3, 1, 0]) (let s := at_ .idle; { s with lane := { s.lane with ln := [(15, { role := 3 })] } }) = true ∧
    Can.opLanePowerWake (rq [15, 3, 0, 0]) (at_ .run) = true ∧
    Can.opLanePrbs (rq [15, 4, 4, 1, 2, 12, 0, 0]) (at_ .service) = true ∧
    Can.opLaneGetStatus (rq [15, 0, 0, 0]) (at_ .run) = true := by decide +kernel

/-- Commands and states that meet the conditions of LaneTrainingComplete. -/
theorem test_can_laneTrainingComplete :
    Can.laneTrainAttemptStart 5 15 (let s := at_ .idle; { s with lane := { s.lane with ln := [(15, { autoTrain := true, role := 3 })], qpllLock := 15 } }) = true ∧
    Can.laneTrainStateAdvance 5 15 (let s := at_ .idle; { s with lane := { s.lane with ln := [(15, { training := true })] } }) = true ∧
    Can.laneTrainTimeout (3000 * 1600) 15 (let s := at_ .idle; { s with lane := { s.lane with ln := [(15, { training := true, role := 1 })] } }) = true ∧
    Can.laneRetryWaitEnd 5 15 (let s := at_ .idle; { s with lane := { s.lane with ln := [(15, { retryAt := some 4 })] } }) = true ∧
    Can.trainBlockReceived 5 15 [] (let s := at_ .idle; { s with lane := { s.lane with ln := [(15, { role := 1 })] } }) = true ∧
    Can.alignSearchStep 5 15 0 (let s := at_ .idle; { s with lane := { s.lane with ln := [(15, { training := true, st := 2, good := 3 })] } }) = true ∧
    Can.rxSignalDetect 5 15 (at_ .idle) = true ∧
    Can.exitBurstReceived 5 15 (let s := at_ .idle; { s with lane := { s.lane with ln := [(15, { rxIdle := true })] } }) = true := by decide +kernel

/-- Commands and states that meet the conditions of LaneEventsComplete. -/
theorem test_can_laneEventsComplete :
    Can.laneDrop 5 15 4 (let s := at_ .idle; { s with lane := { s.lane with ln := [(15, { up := true })] } }) = true ∧
    Can.laneSignalLoss 5 15 (at_ .idle) = true ∧
    Can.quadPllLoss 5 3 (let s := at_ .idle; { s with lane := { s.lane with qpllLock := 8 } }) = true ∧
    Can.quadPllRelock 5 3 (let s := lk (at_ .idle); { s with lane := { s.lane with qpllLock := 7, quadTbase := 8 } }) = true ∧
    Can.bondLaneRejoin 5 7 (let s := at_ .idle; { s with lane := { s.lane with ln := [(15, { up := true, role := 5 })], bond := [(7, { lost := some 15, joining := true })] } }) = true ∧
    Can.bondMarkerTx 5 7 (let s := at_ .idle; { s with lane := { s.lane with ln := [(14, { role := 5 })] } }) = true ∧
    Can.electricalIdleEntry 5 15 (let s := at_ .idle; { s with lane := { s.lane with ln := [(15, { role := 2, up := true, idleAfter := 64, idleRun := 64 })] } }) = true ∧
    Can.electricalIdleExit (200 * 1600) 15 (let s := at_ .idle; { s with lane := { s.lane with ln := [(15, { eidle := true })] } }) = true ∧
    Can.laneFrameTransmit 5 15 1 (let s := at_ .idle; { s with lane := { s.lane with ln := [(15, { role := 1, up := true })] } }) = true ∧
    Can.laneWakeDone 5 15 (let s := at_ .idle; { s with lane := { s.lane with ln := [(15, { txWake := some 5 })] } }) = true ∧
    Can.prbsLockLoss 5 15 (let s := at_ .idle; { s with lane := { s.lane with ln := [(15, { prbsOn := true, prbsChk := 1, prbsLock := true })] } }) = true := by decide +kernel

/-- Commands and states that meet the conditions of StrandsComplete. -/
theorem test_can_strandsComplete :
    Can.opStrandSetConfig (rq [15, 3, 232, 3, 0, 125, 0, 0, 64, 31, 232, 3, 0, 0, 0, 0]) (at_ .armed) = true ∧
    Can.opStrandNodeClear (rq [254, 15, 0, 0]) (let s := at_ .run; { s with part := { s.part with entry := [(4094, { type := 1 })] } }) = true ∧
    Can.opStrandGetStatus (rq [15, 0, 0, 0]) (at_ .run) = true ∧
    Can.opStrandGetCell (rq [254, 15, 0, 0]) (let s := at_ .run; { s with part := { s.part with entry := [(4094, { type := 1 })] } }) = true ∧
    Can.telemetryCycleBoundary 32000 (lk (at_ .run)) = true ∧
    Can.nodeSetAckTimeout 5 9 (let s := at_ .run; { s with cell := [(9, { setPend := some ([], 0, 4) })] }) = true := by decide +kernel

/-- Commands and states that meet the conditions of NodesComplete. -/
theorem test_can_nodesComplete :
    Can.nodeCommandReceived 5 9 0 { v12 := false, bytes := List.replicate 32 0 } (let s := at_ .idle; { s with node := [(9, { id := 9 })] }) = true ∧
    Can.nodeEventExecute 5 9 (let s := at_ .idle; { s with node := [(9, { timeValid := true, queue := [{ at_ := 4, state := 1, plan := false, epoch := 0, cmd := 0 }] })] }) = true ∧
    Can.nodeSyncReceived 5 9 0 (List.replicate 16 0) (let s := at_ .idle; { s with node := [(9, { id := 9 })] }) = true ∧
    Can.nodeSyncTimeout 5 9 (let s := at_ .idle; { s with node := [(9, { id := 9 })] }) = true ∧
    Can.nodeSetReceived 5 9 0 (List.replicate 24 0) (let s := at_ .idle; { s with node := [(9, { id := 9 })] }) = true ∧
    Can.nodeTelemetrySlot 541 9 (let s := lk (at_ .idle); { s with node := [(9, { configured := true })] }) = true ∧
    Can.nodeFaultDetect 5 9 1 (let s := at_ .idle; { s with node := [(9, { id := 9 })] }) = true ∧
    Can.nodeWatchExpiry (200 * 1600) 9 (let s := lk (at_ .idle); { s with node := [(9, { configured := true })] }) = true ∧
    Can.nodeEchoRequest 5 9 0 ([0x33, 0x10, 0, 0, 0, 0] ++ le 2 (crc16 [0x33, 0x10, 0, 0, 0, 0])) (let s := at_ .idle; { s with node := [(9, { id := 9, pos := some 0 })] }) = true ∧
    Can.nodeBlockForward 5 9 0 ⟨1, []⟩ (let s := at_ .idle; { s with node := [(9, { id := 9 })] }) = true := by decide +kernel

/-- Commands and states that meet the conditions of PartnerOpcodesComplete. -/
theorem test_can_partnerOpcodesComplete :
    Can.opPartSet (rq [254, 15, 3, 1, 255, 0, 15, 1, 2, 0, 0, 0, 0, 1, 5, 0, 1, 2, 3, 4, 7, 0, 96, 234]) (at_ .run) = true ∧
    Can.opPartRemove (rq [254, 15, 0, 0]) (at_ .run) = true ∧
    Can.opPartGet (rq [254, 15, 0, 0]) (at_ .run) = true ∧
    Can.opPartList (rq [255, 0, 0, 0]) (at_ .run) = true ∧
    Can.opPartSessionOpen (rq [5, 0, 0, 32, 16, 39, 0, 0, 64, 66, 15, 0]) (let s := at_ .idle; { s with part := { s.part with entry := [(5, { type := 3 })] } }) = true ∧
    Can.opPartSessionClose (rq [5, 0, 1, 0, 0, 0, 0, 0, 0, 0, 0, 0]) (let s := at_ .idle; { s with part := { s.part with entry := [(5, { type := 3, session := 255 })], sess := [(255, { state := 2 })] } }) = true ∧
    Can.opPartSessStatus (rq [255, 0, 0, 0]) (at_ .run) = true := by decide +kernel

/-- Commands and states that meet the conditions of SessionEventsComplete. -/
theorem test_can_sessionEventsComplete :
    Can.sessionRetxTimer 5 255 (let s := at_ .idle; { s with part := { s.part with entry := [(5, { type := 3, session := 255, liveTo := 1000 })], sess := [(255, { partner := 5, state := 2, unacked := [{ seq := 0, packet := [], times := 1, sentAt := 0, dueAt := 4 }] })] } }) = true ∧
    Can.sessionAckDue 5 255 (let s := at_ .idle; { s with part := { s.part with entry := [(5, { type := 3, session := 255, liveTo := 1000 })], sess := [(255, { partner := 5, state := 2, ackDue := some 4 })] } }) = true ∧
    Can.sessionKeepalive (1000 * 1600000) 255 (let s := at_ .idle; { s with part := { s.part with entry := [(5, { type := 3, session := 255, liveTo := 1000 })], sess := [(255, { partner := 5, state := 2 })] } }) = true ∧
    Can.sessionProbe (2000 * 1600) 255 (let s := at_ .idle; { s with part := { s.part with entry := [(5, { type := 3, session := 255, liveTo := 1000 })], sess := [(255, { partner := 5, state := 2 })] } }) = true ∧
    Can.sessionOpenRetx 5 255 (let s := at_ .idle; { s with part := { s.part with entry := [(5, { type := 3, session := 255, liveTo := 1000 })], sess := [(255, { partner := 5, state := 1 })] } }) = true ∧
    Can.sessionCloseRetx 5 255 (let s := at_ .idle; { s with part := { s.part with entry := [(5, { type := 3, session := 255, liveTo := 1000 })], sess := [(255, { partner := 5, state := 3 })] } }) = true ∧
    Can.autoSessionRetry 5 5 (let s := at_ .idle; { s with part := { s.part with entry := [(5, { type := 3, autoAt := some 4, autoSession := true, path := 1, strand := 255, ports := 8 })] }, net := { s.net with port := [(3, { link := true })] } }) = true ∧
    Can.partnerLivenessTimeout 5 5 (let s := at_ .idle; { s with part := { s.part with entry := [(5, { type := 3, session := 255, liveTo := 1000 })], sess := [(255, { partner := 5, state := 2 })] } }) = true ∧
    Can.txnSlotFreed 5 0 (let s := at_ .idle; { s with part := { s.part with waiting := [9] } }) = true := by decide +kernel

/-- Commands and states that meet the conditions of GroupCommandsComplete. -/
theorem test_can_groupCommandsComplete :
    Can.opPartGroup (rqb ([1, 0, 1, 0] ++ le 4 10000000 ++ le 4 100 ++ [24, 0, 0, 0, 0, 0, 0, 0, 5, 0] ++ (inner 0x0009 [0, 0, 0, 0]))) (let s := at_ .run; let s := { s with time := { s.time with dom := [(0, { state := 3 })] }, part := { s.part with entry := [(5, { type := 3, session := 255 })], sess := [(255, { partner := 5, state := 2 })] } }; setOrig 5 { orig s 5 with path := some 255 } s) = true ∧
    Can.opPartPrepare { (rqb ([1, 0, 0, 0] ++ le 6 1 ++ le 4 999999999 ++ [1, 0, 24, 0] ++ (inner 0x0009 [0, 0, 0, 0]))) with org := 5 } (let s := at_ .run; let s := { s with time := { s.time with dom := [(0, { state := 3 })] }, part := { s.part with entry := [(5, { type := 3, session := 255 })], sess := [(255, { partner := 5, state := 2 })] } }; setOrig 5 { orig s 5 with path := some 255 } s) = true ∧
    Can.opPartCommit { (rq [7, 0, 0, 0, 0, 0, 0, 0, 0, 0, 255, 201, 154, 59, 0, 0]) with org := 5 } (let s := at_ .run; let s := { s with time := { s.time with dom := [(0, { state := 3 })] }, part := { s.part with entry := [(5, { type := 3, session := 255 })], sess := [(255, { partner := 5, state := 2 })], held := [{ txn := 7, from_ := 5, texp := 10, inner := [] }] } }; setOrig 5 { orig s 5 with path := some 255 } s) = true ∧
    Can.opPartCancel { (rq [7, 0, 0, 0]) with org := 5 } (let s := at_ .run; let s := { s with time := { s.time with dom := [(0, { state := 3 })] }, part := { s.part with entry := [(5, { type := 3, session := 255 })], sess := [(255, { partner := 5, state := 2 })] } }; setOrig 5 { orig s 5 with path := some 255 } s) = true ∧
    Can.replyPacketReceived 5 5 0x2207 7 [] (let s := at_ .idle; { s with pkt := { s.pkt with sent := [(5, 0x2207, 7, 0)] } }) = true ∧
    Can.groupPrepareDeadline 5 7 (let s := at_ .idle; { s with part := { s.part with group := [{ txn := 7, owed := none, members := [5], inner := [], innerN := 0, lead := 100, deadline := 4 }] } }) = true ∧
    Can.groupCommitAbandon 5 7 (let s := at_ .idle; { s with part := { s.part with group := [{ txn := 7, owed := none, members := [5], inner := [], innerN := 0, lead := 100, deadline := 4, execAt := some 0 }] } }) = true ∧
    Can.groupReplyDue 5 7 (let s := at_ .idle; { s with part := { s.part with group := [{ txn := 7, owed := none, members := [5], inner := [], innerN := 0, lead := 100, deadline := 4, execAt := some 0, committed := [0], answered := [0] }] } }) = true ∧
    Can.groupMemberExecute 32000 7 (let s := lk (at_ .run); { s with part := { s.part with held := [{ txn := 7, from_ := 5, texp := 10, inner := [], commit := some (0, own) }] } }) = true := by decide +kernel

/-- Commands and states that meet the conditions of PortsComplete. -/
theorem test_can_portsComplete :
    Can.opNetSetPort (rq [3, 3, 7, 0, 2, 0, 0, 0, 0, 1, 5, 0, 1, 2, 3, 4, 181, 136, 70, 185, 160, 16, 0, 0]) (at_ .service) = true ∧
    Can.opNetSend (rq (3 :: 1 :: List.replicate 62 0)) (at_ .run) = true ∧
    Can.opNetTsqRead (rq [3, 64, 1]) (at_ .run) = true ∧
    Can.opNetGetPort (rq [3, 0, 0, 0]) (at_ .run) = true ∧
    Can.ethernetLinkChange 5 3 true (let s := lk (at_ .idle); { s with net := { s.net with port := [(3, { mode := 3 })] } }) = true ∧
    Can.prpSupervisionTx (2000 * 1600000) 1 (let s := lk (at_ .idle); { s with net := { s.net with port := [(2, { mode := 1, prp := true }), (3, { mode := 1, prp := true })] } }) = true ∧
    Can.prpNodeForget 5 1 (at_ .idle) = true ∧
    Can.txTimestamp 5 3 (let s := at_ .idle; { s with net := { s.net with port := [(3, { stamping := [1] })] } }) = true ∧
    Can.ethernetFrameReceived 5 3 [] (let s := at_ .idle; { s with net := { s.net with port := [(3, { link := true })] } }) = true := by decide +kernel

/-- Commands and states that meet the conditions of PublicationsComplete. -/
theorem test_can_publicationsComplete :
    Can.opNetGoosePub (rq [63, 3, 15, 1, 1, 12, 205, 1, 1, 255, 255, 63, 5, 0, 0, 0, 1, 0, 0, 0, 232, 3, 96, 234, 0, 0, 0, 0, 0, 0, 0, 0, 0, 0, 0, 0, 0, 0, 0, 0, 0, 0, 0, 0, 0, 0, 0, 0, 0, 0, 0, 0, 0, 0, 0, 0, 0, 0, 0, 0, 0, 0, 0, 0, 0, 0, 0, 0, 0, 0, 0, 0, 0, 0, 0, 0, 0, 0, 0, 0, 0, 0, 0, 0, 0, 0, 0, 0, 0, 0, 0, 0, 0, 0, 0, 0, 0, 0, 0, 0, 0, 0, 0, 0, 0, 0, 0, 0, 0, 0, 0, 0, 0, 0, 0, 0, 0, 0, 0, 0, 0, 0, 0, 0, 0, 0, 0, 0, 0, 0, 0, 0, 0, 0, 0, 0, 0, 0, 0, 0, 0, 0, 0, 0, 0, 0, 0, 0, 0, 0, 0, 0, 0, 0, 0, 0, 0, 0, 0, 0, 0, 0, 0, 0, 0, 0, 0, 0, 0, 0, 0, 0, 0, 0, 0, 0, 0, 0, 0, 0, 0, 0, 0, 0, 0, 0, 0, 0, 0, 0, 0, 0, 0, 0, 0, 0, 0, 0, 0, 0, 0, 0, 0, 0, 0, 0, 0, 0, 0, 0, 0, 0, 0, 0, 0, 0, 31, 1, 0, 0, 0, 0, 0, 0]) (at_ .service) = true ∧
    Can.opNetGooseValue (rq [31, 0, 0, 0, 1, 2, 3, 4]) (at_ .run) = true ∧
    Can.opNetGooseSub (rq [63, 3, 15, 1, 1, 2, 3, 4, 5, 6, 255, 63, 1, 0, 0, 0, 32, 0, 0, 0, 0, 0, 0, 0, 0, 0, 0, 0, 0, 0, 0, 0, 0, 0, 0, 0, 0, 0, 0, 0, 0, 0, 0, 0, 0, 0, 0, 0, 0, 0, 0, 0, 0, 0, 0, 0, 0, 0, 0, 0, 0, 0, 0, 0, 0, 0, 0, 0, 0, 0, 0, 0, 0, 0, 0, 0, 0, 0, 0, 0, 0, 0, 0, 0, 31, 2, 31, 0]) (at_ .service) = true ∧
    Can.opNetSvPub (rq [7, 1, 15, 1, 1, 8, 0, 64, 1, 12, 205, 4, 1, 255, 5, 0, 1, 0, 0, 0, 0, 0, 0, 0, 0, 0, 0, 0, 0, 0, 0, 0, 0, 0, 0, 0, 0, 0, 0, 0, 0, 0, 0, 0, 0, 0, 0, 0, 0, 0, 0, 0, 0, 0, 0, 0, 0, 0, 0, 0, 0, 0, 0, 0, 0, 0, 0, 0, 0, 0, 0, 0, 0, 0, 0, 0, 0, 0, 0, 0, 0, 0, 0, 0, 19, 1, 0, 0, 0, 0, 128, 63]) (let s := at_ .service; { s with conv := [(19, { cfg := { timing := 1 } })], filt := [(19, { act := some { hdr := [], coef := [] } })] }) = true ∧
    Can.gooseRepeatTx 5 63 (let s := lk (at_ .idle); { s with net := { s.net with pub := [(63, { enable := true, started := true })] } }) = true ∧
    Can.gooseSubLost 5 63 (let s := at_ .idle; { s with net := { s.net with sub := [(63, { enable := true, last := some (1, 1) })] } }) = true ∧
    Can.svSamplePublish 5 7 (let s := lk (at_ .idle); { s with net := { s.net with sv := [(7, { enable := true, nextNs := some 0 })] } }) = true ∧
    Can.gooseFrameReceived 5 3 default (let s := at_ .idle; { s with net := { s.net with port := [(3, { link := true })] } }) = true := by decide +kernel

/-- Commands and states that meet the conditions of TwinOpcodesComplete. -/
theorem test_can_twinOpcodesComplete :
    Can.opTwinSetConfig (rq [3, 16, 232, 3, 20, 0, 0, 0, 0, 250, 0, 0, 128, 62, 0, 0, 0, 0, 0, 4, 0, 0, 0, 1, 0, 0, 0, 0]) (let s := at_ .idle; { s with lane := { s.lane with ln := [(14, { role := 5 }), (15, { role := 5 })] } }) = true ∧
    Can.opTwinRelease (rq [0, 0, 0, 0]) (let s := at_ .run; { s with twin := { s.twin with enable := true, holder := true } }) = true ∧
    Can.opTwinGetStatus (rq [0, 0, 0, 0]) (at_ .run) = true ∧
    Can.capHeartbeatPulse 400 (let s := lk (at_ .run); { s with twin := { s.twin with enable := true, holder := true } }) = true ∧
    Can.heartbeatStepWatch 100000 (let s := lk (at_ .run); { s with twin := { s.twin with enable := true, holder := true } }) = true ∧
    Can.capInPulse 5 4000 (let s := at_ .idle; { s with twin := { s.twin with enable := true } }) = true ∧
    Can.leaseExpiry 10000 (let s := at_ .idle; { s with twin := { s.twin with enable := true, leaseFrom := some 0 } }) = true ∧
    Can.capTake 10000 (let s := lk (at_ .run); { s with twin := { s.twin with enable := true, leaseFrom := some 0, leaseOut := true } }) = true ∧
    Can.initialCapTake 10000 (let s := lk (at_ .run); { s with twin := { s.twin with enable := true } }) = true ∧
    Can.releaseTakeWaitEnd 1200 (let s := lk (at_ .run); { s with twin := { s.twin with enable := true, lastIn := some 0, relTold := some 0 } }) = true := by decide +kernel

/-- Commands and states that meet the conditions of TwinLinkComplete. -/
theorem test_can_twinLinkComplete :
    Can.shadowCompare 5 (let s := at_ .run; { s with twin := { s.twin with enable := true, compared := false, mirror := some { (default : Mirror) with state := 3 } } }) = true ∧
    Can.healthReportTx 5 (at_ .idle) = true ∧
    Can.planRefreshDue 5 9 (let s := at_ .run; { s with twin := { s.twin with enable := true, holder := true }, arm := [(7, { cells := [9] })], cell := [(9, { plan := [(1, 100)] })] }) = true := by decide +kernel

/-- Commands and states that meet the conditions of DiagnosticsComplete. -/
theorem test_can_diagnosticsComplete :
    Can.opDiagGetSlack (rq [1, 0, 0, 0]) (at_ .run) = true ∧
    Can.opDiagGetCnt (rq [0, 0, 0, 0]) (at_ .run) = true ∧
    Can.opDiagClearCnt (rq [255, 255, 255, 255, 0, 0, 0, 0]) (at_ .run) = true ∧
    Can.opDiagSelftest (rq [0, 0, 0, 0]) (at_ .run) = true ∧
    Can.selftestCheckRun 5 5 true (at_ .run) = true ∧
    Can.ballReadback 5 258 false (at_ .run) = true := by decide +kernel

/-- Commands and states that meet the conditions of TestsComplete. -/
theorem test_can_testsComplete :
    Can.opTestPermitChallenge (rq [0, 0, 0, 0]) (at_ .service) = true ∧
    Can.opTestPermitGrant (rq (1 :: 7 :: 16 :: 14 :: List.replicate 128 0)) (at_ .service) = true ∧
    Can.opTestPermitRevoke (rq [2, 0, 0, 0]) (at_ .service) = true ∧
    Can.testPermitExpiry 5 (let s := lk (at_ .idle); { s with test := { s.test with scope := 1, expires := 4 } }) = true ∧
    Can.opTestInject (rq [7, 3, 255, 0, 5, 3, 0, 0, 255, 255, 0, 0, 0, 70, 195, 35, 0, 0, 0, 0, 16, 39, 0, 0]) (let s := at_ .service; { s with part := { s.part with sess := [(255, { state := 2 })] } }) = true ∧
    Can.opTestStop (rq [255, 0, 0, 0]) (at_ .run) = true ∧
    Can.opTestStatus (rq [0, 0, 0, 0]) (at_ .run) = true ∧
    Can.testInjectionEnd 5 7 (let s := at_ .idle; { s with test := { s.test with slot := [(7, { type := 1, target := 0, kind := 1, dir := 3, filter := 0, everyN := 1, depth := 0, until_ := 4, count := 0, delay := 0, inService := true })] } }) = true := by decide +kernel

/-- A request to set the step, by its two fields. -/
def stepReq (a p : Nat) : Req := rq ((List.range 4).map (fun i => a / 256 ^ i % 256) ++ (List.range 4).map fun i => p / 256 ^ i % 256)

/-- Every clause of SetStepRules has a request that meets it, at the values where clauses meet. -/
theorem test_set_step_clauses :
    let op : Op := { code := 0x0006, states := stIA }
    let ok (a p : Nat) (s : State) : Bool :=
      Can.inTurn op (stepReq a p) s && !s.pkt.failing && served (orig s 0) op && (stepReq a p).last &&
        (stepReq a p).payload.length == 8 && u32 (stepReq a p).payload 0 == a && u32 (stepReq a p).payload 4 == p
    ok 8000 0 (at_ .run) ∧ ok 8001 0 (at_ .idle) ∧ ok 7920 0 (at_ .armed) ∧ ok 160080 0 (at_ .idle) ∧ ok 8000 2001 (at_ .idle) ∧
      ok 8000 1920 (at_ .idle) ∧ ok 8000 7680 (at_ .idle) ∧ ok 8000 2000 (at_ .idle) ∧ ok 8000 7600 (at_ .armed) ∧ ok 8000 0 (at_ .idle) ∧
      ok 160000 0 (at_ .idle) ∧ ok 32000 0 (at_ .idle) := by decide +kernel

/-- The packet in flight of a request of the QSPI host. -/
def flightOf (code seq : Nat) (begun : Bool) : Flight :=
  { org := 0, seq := seq, opcode := code, tag := 0, bytes := 24, begun := begun }

/-- Two packets of one originator in flight. -/
def twoInFlight (begun : Bool) : State :=
  let s := at_ .idle
  { s with pkt := { s.pkt with inFlight := [flightOf 7 0 begun, flightOf 7 1 false] } }

/-- The second packet of an originator waits for the first, which runs once only. -/
theorem test_turn :
    let its (seq : Nat) (begun : Bool) : Bool :=
      let s := twoInFlight begun
      let r := { rq [] with seq := seq }
      !s.pwr.inReset && turn 7 r (entered 7 r s)
    its 0 false = true ∧ its 1 false = false ∧ its 0 true = false ∧ its 1 true = false ∧ State.reset.pwr.inReset = false ∧
      { State.reset.pwr with inReset := true }.inReset = true := by
  decide +kernel

/-- A request of the GFM family in BOOT, and one of the SYS family in RUN. -/
theorem test_wrong_state :
    (∃ op, Can.requestOf (.opGfmCommit (rq [0, 0, 0, 0])) = some (op, rq [0, 0, 0, 0]) ∧ Can.inTurn op (rq [0, 0, 0, 0]) State.reset = true ∧
      served (orig State.reset 0) op = true ∧ op.states.contains State.reset.sys.state = false) ∧
    ∃ op, Can.requestOf (.opSysArm (rq [0, 0, 0, 0])) = some (op, rq [0, 0, 0, 0]) ∧ Can.inTurn op (rq [0, 0, 0, 0]) (at_ .run) = true ∧
      served (orig (at_ .run) 0) op = true ∧ op.states.contains (at_ .run).sys.state = false :=
  ⟨⟨_, rfl, by decide +kernel⟩, _, rfl, by decide +kernel⟩

/-- The QSPI host at 2.3. -/
def at23 (s : State) : State := setOrig 0 { orig s 0 with ver := 0x23 } s

/-- Requests that are not served at 2.3, and one that is. -/
theorem test_unserved :
    (∃ op, Can.requestOf (.opAngleRead (rq [])) = some (op, rq []) ∧ Can.inTurn op (rq []) (at23 State.reset) = true ∧
      (orig (at23 State.reset) 0).ver / 16 = 2 ∧ Can.notIn2 op.code = true) ∧
    (∃ op, Can.requestOf (.opNetSvPub (rq [])) = some (op, rq []) ∧ Can.inTurn op (rq []) (at23 State.reset) = true ∧ Can.notIn2 op.code = true) ∧
    (∃ op, Can.requestOf (.opSysArm (rq [])) = some (op, rq []) ∧ Can.notIn2 op.code = false) ∧ (orig State.reset 0).ver / 16 = 3 :=
  ⟨⟨_, rfl, by decide +kernel⟩, ⟨_, rfl, by decide +kernel⟩, ⟨_, rfl, by decide +kernel⟩, by decide +kernel⟩

/-- A packet of the QSPI host with an opcode and a SEQ. -/
def pushed (op seq : Nat) : Bytes :=
  let h : Bytes := [0x32, 5] ++ le 2 op ++ le 4 seq ++ le 2 9 ++ le 2 0 ++ le 2 0
  let b := h ++ le 2 (crc16 h)
  b ++ le 4 (crc32c b)

/-- A port that is open, with EXPECTED at the top of its range. -/
def openPort : State :=
  let s := setOrig 0 { orig State.reset 0 with expected := some (2 ^ 32 - 1) } State.reset
  { s with win := { s.win with ready := true } }

/-- Sound packets at the sequence numbers where the clauses meet: HELLO, no reference, equal, a gap of 1 over the wrap, a
duplicate. -/
theorem test_sequence_clauses :
    let room (b : Bytes) (s : State) : Bool :=
      !s.pwr.inReset && s.win.ready && decide (s.pkt.inFlight.length < 512) && decide (b.length ≤ rxFree s) && Can.sound b
    room (pushed 1 7) openPort ∧ room (pushed 5 7) { State.reset with win := openPort.win } ∧ (orig State.reset 0).expected = none ∧
      room (pushed 5 (2 ^ 32 - 1)) openPort ∧ Machine.sdiff (2 ^ 32 - 1) (2 ^ 32 - 1) = 0 ∧ room (pushed 5 0) openPort ∧ Machine.sdiff 0 (2 ^ 32 - 1) = 1 ∧
      room (pushed 5 (2 ^ 32 - 2)) openPort ∧ Machine.sdiff (2 ^ 32 - 2) (2 ^ 32 - 1) = -1 := by decide +kernel

/-- An angle in the last interval. -/
theorem test_angle_last : 2 ^ 32 - 1 < 2 ^ 32 ∧ (2 ^ 32 - 1) >>> 22 = 1023 := by decide

/-- An arm with one usable cell in a zero state. -/
def oneCell : State :=
  let s := at_ .run
  { s with arm := [(0, { cells := [5], order := [(5, 0)] })]
           part := { s.part with entry := [(5, { type := 1, state := 2 })] }
           cell := [(5, { acked := true, tlmSeen := true, tlm := List.replicate 9 0 ++ [0x60] ++ List.replicate 30 0, cmdState := some (2, 0) })] }

/-- The ranker picks that cell, rested and resting. -/
theorem test_pick_one :
    (pick oneCell 0 true 0 800000000).isSome = true ∧ (pick oneCell 0 true 0 0).isSome = true := by decide +kernel

/-- A counter at its maximum, one just below it, and a gated block. -/
theorem test_counters :
    let s : State := { State.reset with cnt := [(cKey 0x0305 0 52, 0xFFFFFFFE), (cKey 0x0305 0 60, 0xFFFFFFFF)] }
    gated s 0x0305 0 = false ∧ c32 s 0x0305 0 52 < 0xFFFFFFFF ∧ 0xFFFFFFFF ≤ c32 s 0x0305 0 52 + 1 ∧ s.test.sat.length < 256 ∧
      256 ≤ ({ s with test := { s.test with sat := List.replicate 256 0 } } : State).test.sat.length ∧
      c32 s 0x0305 0 60 = 0xFFFFFFFF ∧ gated { s with clk := { s.clk with gateMask := 1 } } 0x2007 0 = true := by decide +kernel

/-- Right after reset nothing waits. -/
theorem test_reads_quiet : Can.reads (.opSysResync (rq [0, 0, 0, 0])) = true ∧ Safety.Inv State.reset ∧ quiet State.reset = true :=
  ⟨rfl, ⟨by simp [gatesApart, State.reset], fun _ => rfl, rfl, rfl⟩, by decide +kernel⟩

/-- A write of the last entry of the last table, and one that is refused. -/
theorem test_angle_write : Can.opAngleWrite (rq [7, 0, 255, 3, 1, 0, 0, 0, 1, 2, 3, 4]) (at_ .run) = true ∧
    Can.opAngleWrite (rq [7, 0, 0, 4, 1, 0, 0, 0, 1, 2, 3, 4]) (at_ .run) = false := by decide +kernel

/-- A discard and a commit of each set. -/
theorem test_commit_discard : Can.opGfmDiscard (rq [0, 0, 0, 0]) (at_ .run) = true ∧ Can.opGridDiscard (rq [0, 0, 0, 0]) (at_ .run) = true ∧
    Can.opGfmCommit (rq [0, 0, 0, 0]) (at_ .run) = true ∧ Can.opGridCommit (rq [0, 0, 0, 0]) (at_ .run) = true := by decide +kernel

/-- A state in which a boot record is being written and the ROLLBACK fuses are being blown. -/
def writing : State :=
  let s := at_ .idle
  { s with sec := { s.sec with bootOld := some (default, s.now), blowing := some (0, 0), fusing := some ([], true) } }

/-- Each reset in a running device and the reboot in IDLE, with the conditions of every clause. -/
theorem test_resets :
    (∃ u, Can.resetOf .powerOn (at_ .run) = some u ∧ u.pwr.inReset = false ∧ u.pwr.low = [] ∧ u.sec.bootOld.map Prod.snd ≠ some u.now ∧
      u.sec.blowing = none ∧ u.sec.fusing = none) ∧
    (∃ u, Can.resetOf .porNReset writing = some u ∧ u.sec.bootOld = some (default, u.now) ∧ u.sec.blowing = some (0, 0) ∧
      0 ≤ u.mram.rollback) ∧
    (∃ u, Can.resetOf (.sagReset 3) (at_ .run) = some u) ∧
    Can.opSecReboot (rq [0, 0, 0, 0]) (at_ .idle) = true :=
  ⟨⟨_, rfl, by decide +kernel⟩, ⟨_, rfl, rfl, rfl, Nat.zero_le _⟩, ⟨_, rfl⟩, by decide +kernel⟩

/-! ### Witnesses that rest on a check value or on the device's identity -/

/-- The first 28 bytes of a calibration record of converter 19 for this device (08_acquisition.md Table 8.9). -/
def calHead : Bytes := 19 :: (List.replicate 23 0 ++ le 4 deviceTag)

/-- A calibration record of converter 19 for this device, with its check value. -/
def calOwn : Req := rqb ([1, 0, 0, 0] ++ (calHead ++ le 4 (crc32c calHead)) ++ [])

/-- OP_ACQ_SET_CAL completes, and takes a record of this device: no check of the record fails. -/
theorem test_can_opAcqSetCal : Can.opAcqSetCal calOwn (at_ .idle) = true ∧
    (let b := bytesAt 32 calOwn.payload 4
     u32 b 28 = crc32c (b.take 28) ∧ u8 b 0 = 19 ∧ u32 b 24 = deviceTag ∧ u8 b 1 / 4 = 0 ∧ u16 b 14 = 0) := by
  have hl : calHead.length = 28 := by simp [calHead]
  have hr : bytesAt 32 calOwn.payload 4 = calHead ++ le 4 (crc32c calHead) := by
    have := bytesAt_mid [1, 0, 0, 0] (calHead ++ le 4 (crc32c calHead)) []
    simpa [hl, calOwn, rqb] using this
  have h28 : u32 (calHead ++ le 4 (crc32c calHead)) 28 = crc32c calHead := by
    have := uLE_append_right calHead (le 4 (crc32c calHead)) 4 0
    rw [hl] at this
    have h := u32_crc32c calHead []
    rw [List.append_nil] at h
    exact this.trans h
  have htag : u32 (calHead ++ le 4 (crc32c calHead)) 24 = deviceTag := by
    have h1 := uLE_append_left (a := calHead) (le 4 (crc32c calHead)) 4 (o := 24) (by omega)
    have h2 := uLE_append_right (19 :: List.replicate 23 0) (le 4 deviceTag) 4 0
    have h3 := uLE_le 4 deviceTag []
    have h4 : deviceTag < 256 ^ 4 := uLE_lt 4 _ _
    rw [List.append_nil, Nat.mod_eq_of_lt h4] at h3
    exact (h1.trans h2).trans h3
  have h0 : u8 (calHead ++ le 4 (crc32c calHead)) 0 = 19 := rfl
  have ht : (calHead ++ le 4 (crc32c calHead)).take 28 = calHead := by simp [← hl]
  have hk : u8 calOwn.payload 0 = 1 := rfl
  have hp : calOwn.payload.length = 36 := by simp [calOwn, rqb, hl]
  have hz : rsv calOwn.payload 1 3 = (false, .badParam, 1) := rfl
  have hreach : reaches { code := 0x1605, states := stIS } calOwn (at_ .idle) = true := rfl
  refine ⟨by simp [Can.opAcqSetCal, hreach, hk, hp, hz, passes, outOf], ?_⟩
  simp only [hr, h28, htag, h0, ht]
  exact ⟨trivial, trivial, trivial, rfl, rfl⟩

/-- A request to swap table 0, with the check value of its shadow bank in this state. -/
def swapOwn (s : State) : Req :=
  rqb ([1, 0, 0, 0] ++ (le 4 (crc32c (bankBytes (angTab s 0).sh)) ++ List.replicate 28 0))

/-- OP_ANGLE_SWAP completes where the check value agrees. -/
theorem test_can_opAngleSwap : Can.opAngleSwap (swapOwn (at_ .run)) (at_ .run) = true := by
  have hc : u32 (swapOwn (at_ .run)).payload 4 = crc32c (bankBytes (angTab (at_ .run) 0).sh) := by
    have h := uLE_append_right [1, 0, 0, 0] (le 4 (crc32c (bankBytes (angTab (at_ .run) 0).sh)) ++ List.replicate 28 0) 4 0
    exact h.trans (u32_crc32c _ _)
  have hm : u8 (swapOwn (at_ .run)).payload 0 = 1 := rfl
  have hb : bitsOf 8 1 = [0] := by decide
  have hp : (swapOwn (at_ .run)).payload.length = 36 := by simp [swapOwn, rqb]
  have hreach : reaches { code := 0x1304, states := stIARTS } (swapOwn (at_ .run)) (at_ .run) = true := rfl
  have hsh : angTab (seen 0x1304 (swapOwn (at_ .run)) (at_ .run)) 0 = angTab (at_ .run) 0 := rfl
  have hbusy : tabBusy (seen 0x1304 (swapOwn (at_ .run)) (at_ .run)) 0 = false := rfl
  simp [Can.opAngleSwap, hreach, hm, hb, hp, hsh, hbusy, hc, passes, lenIs]

/-! ### Ill-formed commands: each check refuses one (00_scope.md R2, 01_architecture.md Table 1.1) -/

/-- A request with a field beyond its width, or too long. -/
theorem test_wf_request : (Instr.opSysArm ({ rq [] with org := 4096 })).wf = false ∧
    (Instr.opSysArm ({ rq [] with seq := 2 ^ 32 })).wf = false ∧
    (Instr.opSysArm ({ rq [] with tag := 65536 })).wf = false ∧
    (Instr.opSysArm ({ rq [] with payload := List.replicate 4081 0 })).wf = false ∧
    (Instr.opSysArm (rq [])).wf = true := by
  decide +kernel

/-- Commands whose operands lie outside their widths or name an object that the part has not, 1. -/
theorem test_wf_operands_1 : (Instr.runEntryBoundary (2 ^ 64)).wf = false ∧
    (Instr.legAnchorApplied 0 48).wf = false ∧
    (Instr.calibrationDone 0 [{ conv := 20, ok := true, tempCode := 0, offset := 0, gain := 0, skew := 0, lin := 0 }]).wf = false ∧
    (Instr.tempMonitorRead 0 (List.replicate 21 0)).wf = false ∧
    (Instr.filterChangeEffective 0 20).wf = false ∧
    (Instr.testInjectionEnd 0 8).wf = false ∧
    (Instr.qspiWriteWindow 0 256 []).wf = false ∧
    (Instr.qspiWriteWindow 0 0 (List.replicate 257 0)).wf = false ∧
    (Instr.hwIntCauseW1c 0 (2 ^ 32) 0).wf = false ∧
    (Instr.hwIntCauseW1c 0 0 1024).wf = false ∧
    (Instr.hwSagWarnSeenClear 0 0 16).wf = false ∧
    (Instr.qspiPushPacket 0 (List.replicate 4101 0)).wf = false ∧
    (Instr.qspiPullPacket 0 (2 ^ 32)).wf = false ∧
    (Instr.chainContinuationTimeout 0 4096).wf = false ∧
    (Instr.replyPacketReceived 0 0 65536 0 []).wf = false ∧
    (Instr.replyPacketReceived 0 0 0 65536 []).wf = false ∧
    (Instr.replyPacketReceived 0 0 0 0 (List.replicate 4081 0)).wf = false := by
  decide +kernel

/-- Commands whose operands lie outside their widths or name an object that the part has not, 2. -/
theorem test_wf_operands_2 : (Instr.envelopePointExceeded 0 4 0).wf = false ∧
    (Instr.envelopePointExceeded 0 0 16).wf = false ∧
    (Instr.acqConversion 0 20 0).wf = false ∧
    (Instr.acqConversion 0 0 (2 ^ 44)).wf = false ∧
    (Instr.brimDecision 0 64 0 false).wf = false ∧
    (Instr.brimDecision 0 0 81 false).wf = false ∧
    (Instr.auxWordClose 0 0 [2 ^ 44]).wf = false ∧
    (Instr.legCompareFire 0 0 4).wf = false ∧
    (Instr.trigOutPulseEnd 0 2).wf = false ∧
    (Instr.faultInputAssert 0 50).wf = false ∧
    (Instr.chopperSample 0 2).wf = false ∧
    (Instr.supplyWarningStart 0 4).wf = false ∧
    (Instr.resetRelease false 8).wf = false ∧
    (Instr.sourceReady 0 256).wf = false ∧
    (Instr.sourceLoss 0 0 16).wf = false ∧
    (Instr.debugHalt 0 16).wf = false ∧
    (Instr.refoutEdge 0 4).wf = false := by
  decide +kernel

/-- Commands whose operands lie outside their widths or name an object that the part has not, 3. -/
theorem test_wf_operands_3 : (Instr.ptpMessageReceived 0 4 {} (.delayReq 0 0 0)).wf = false ∧
    (Instr.ptpMessageReceived 0 0 { src := List.replicate 5 0 } (.delayReq 0 0 0)).wf = false ∧
    (Instr.ptpMessageReceived 0 0 { fine := 8 } (.delayReq 0 0 0)).wf = false ∧
    (Instr.ptpAnnounceTimeout 0 2).wf = false ∧
    (Instr.ptpMasterMessageTx 0 0 8).wf = false ∧
    (Instr.ethernetFrameReceived 0 0 (List.replicate 10241 0)).wf = false ∧
    (Instr.prpSupervisionTx 0 2).wf = false ∧
    (Instr.gooseRepeatTx 0 256).wf = false ∧
    (Instr.gooseSubLost 0 256).wf = false ∧
    (Instr.svSamplePublish 0 256).wf = false ∧
    (Instr.sessionSegmentReceived 0 (.lane 0) (List.replicate 10241 0)).wf = false ∧
    (Instr.sessionRetxTimer 0 256).wf = false ∧
    (Instr.autoSessionRetry 0 4096).wf = false ∧
    (Instr.txnSlotFreed 0 65536).wf = false ∧
    (Instr.laneTrainAttemptStart 0 16).wf = false ∧
    (Instr.trainBlockReceived 0 0 (List.replicate 4097 0)).wf = false ∧
    (Instr.alignSearchStep 0 0 (2 ^ 16)).wf = false ∧
    (Instr.hopDelayMeasured 0 0 (List.replicate 257 0)).wf = false := by
  decide +kernel

/-- Commands whose operands lie outside their widths or name an object that the part has not, 4. -/
theorem test_wf_operands_4 : (Instr.quadPllLoss 0 4).wf = false ∧
    (Instr.bondLaneRejoin 0 8).wf = false ∧
    (Instr.laneFrameTransmit 0 0 (2 ^ 16)).wf = false ∧
    (Instr.nodeSetTx 0 4096).wf = false ∧
    (Instr.nodeCommandReceived 0 4096 0 default).wf = false ∧
    (Instr.nodeCommandReceived 0 0 2 default).wf = false ∧
    (Instr.nodeBlockForward 0 0 0 ⟨4, []⟩).wf = false ∧
    (Instr.controlBlockReceived 0 0 ⟨4, []⟩).wf = false ∧
    (Instr.hwTickLoRead ⟨0, 0, 65⟩).wf = false ∧
    (Instr.nodeFaultDetect 0 0 512).wf = false ∧
    (Instr.capInPulse 0 (2 ^ 64)).wf = false ∧
    (Instr.healthReportReceived 0 (List.replicate 4097 0)).wf = false ∧
    (Instr.pondTriggerInput 0 16).wf = false ∧
    (Instr.trigInEdge 0 4).wf = false ∧
    (Instr.pondStreamAcked 0 (2 ^ 64)).wf = false ∧
    (Instr.selftestCheckRun 0 32 false).wf = false ∧
    (Instr.ballReadback 0 900 false).wf = false ∧
    (Instr.extest 0 (List.replicate 97 false)).wf = false ∧
    (Instr.mirrorUpdateReceived 0 { (default : Mirror) with chans := List.replicate 65 default }).wf = false ∧
    (Instr.mirrorUpdateReceived 0 { (default : Mirror) with legs := List.replicate 49 default }).wf = false := by
  decide +kernel

end Sys2Proof.Tests
end

section
/-! How a request that reaches its chapter ends, whatever its opcode; cited by the proofs below. -/

namespace Sys2Proof.Machine

open Sys2Proof Sys2Proof.Safety

theorem passes_nil : passes [] = true := rfl

theorem passes_cons (c : Bool × Status × Nat) (l : List (Bool × Status × Nat)) :
    passes (c :: l) = true ↔ c.1 = false ∧ passes l = true := by
  simp [passes]

theorem fourReserved_passes {p : Bytes} (h : passes [lenIs p 4, rsv p 0 4] = true) (k : Unit → Ans) :
    fourReserved p k = k () :=
  chk_passes h k

theorem oneByte_passes {p : Bytes} {hi : Nat} (h : passes [lenIs p 4, rsv p 1 3, outOf (u8 p 0) 0 hi 0] = true) (k : Nat → Ans) :
    oneByte p hi k = k (u8 p 0) :=
  chk_passes h _

/-- A block that is not clock gated takes a write (18_timing.md R419). -/
theorem writeOf_running {bit : Nat} {s : State} (h : ¬ s.clk.gateMask.testBit bit = true) (k : Ans) : writeOf bit s k = k :=
  if_neg h

/-- The reply of a read of an object whose block is not clock gated (18_timing.md R419). -/
theorem giveOf_running {op obj : Nat} {s : State} (h : ¬ gated s op obj = true) (data : Bytes) :
    giveOf op obj s data = .give s data :=
  if_neg h

theorem code_of_not_outside {op : Op} (ho : outside op = false) : op.code ≠ 1 ∧ op.code ≠ 2 := by
  simpa [outside] using ho

section
variable {op : Op} {r : Req} {s : State} {body : Bytes → State → Ans}

/-- A request of one packet that reaches its chapter ends with what the chapter gives. -/
theorem runOp_reaches (h : reaches op r s = true) (ho : outside op = false) (hc : op.chained = false) :
    runOp op r s body =
      .next (finish s (conclude (owedTo r op.code) (body r.payload (seen op.code r s)) (seen op.code r s))) := by
  simp only [runOp, runReq_reaches h ho, hc, Bool.false_eq_true, if_false]

theorem runOp_yes (h : reaches op r s = true) {s1 : State} {st : Status} {d : Nat} {data : Bytes}
    (hb : body r.payload (seen op.code r s) = .yes s1 st d data) (ho : outside op = false := by rfl)
    (hc : op.chained = false := by rfl) :
    runOp op r s body = .next (finish s (answered op.code r st d data s1)) := by
  rw [runOp_reaches h ho hc, hb, conclude_yes (code_of_not_outside ho).2]

theorem runOp_no (h : reaches op r s = true) {st : Status} {d : Nat}
    (hb : body r.payload (seen op.code r s) = .no st d) (ho : outside op = false := by rfl)
    (hc : op.chained = false := by rfl) :
    runOp op r s body = .next (finish s (answered op.code r st d [] (seen op.code r s))) := by
  rw [runOp_reaches h ho hc, hb, conclude_no (code_of_not_outside ho).1 (code_of_not_outside ho).2]

theorem runOp_later (h : reaches op r s = true) {s1 : State}
    (hb : body r.payload (seen op.code r s) = .later s1) (ho : outside op = false := by rfl)
    (hc : op.chained = false := by rfl) :
    runOp op r s body = .next (finish s (deferred op.code r s1)) := by
  rw [runOp_reaches h ho hc, hb, conclude_later (code_of_not_outside ho).2]

theorem reaches_of_inTurn (ht : Can.inTurn op r s = true) (hf : s.pkt.failing = false) (hs : served (orig s r.org) op = true)
    (hst : op.states.contains s.sys.state = true) (hl : r.last = true) : reaches op r s = true := by
  simp only [Can.inTurn, Bool.and_eq_true] at ht
  obtain ⟨⟨hr, ht⟩, hx⟩ := ht
  simp only [reaches, hr, ht, hf, hx, hs, hst, hl, Bool.not_false, Bool.and_self]

/-- A packet in its turn, in a device state that its row does not list, is refused (17_opcodes.md R387). -/
theorem runReq_wrongState (ht : Can.inTurn op r s = true) (ho : outside op = false) (hs : served (orig s r.org) op = true)
    (hst : op.states.contains s.sys.state = false) (part : Bytes → State → Ans) :
    runReq op r s part body = answered op.code r .badState 0 [] (seen op.code r s) := by
  simp only [Can.inTurn, ho, Bool.false_or, Bool.and_eq_true, Bool.not_eq_true', bne_iff_ne, ne_eq] at ht
  obtain ⟨⟨hr, ht⟩, ⟨ha, hd⟩, hx⟩ := ht
  exact runReq_refuses hr ht ho ha hd hx (.inr ⟨hs, hst, rfl⟩) part body

theorem runOp_wrongState (ht : Can.inTurn op r s = true) (ho : outside op = false) (hs : served (orig s r.org) op = true)
    (hst : op.states.contains s.sys.state = false) :
    runOp op r s body = .next (finish s (answered op.code r .badState 0 [] (seen op.code r s))) := by
  rw [runOp, runReq_wrongState ht ho hs hst]

/-- The condition of an event: the device is not held in reset, and the rest of it. -/
theorem live_of {c : Bool} (h : (!s.pwr.inReset && c) = true) : s.pwr.inReset = false ∧ c = true := by
  simpa using h

/-- An event that reaches the device ends with its effect. -/
theorem ev_effect {t : Nat} {f : State → State} {u : State} (h : s.pwr.inReset = false) (hf : f (advance t s) = u) :
    ev t s f = .next (finish s u) := by
  rw [ev_live h, hf]

end

/-! ### What an answer leaves alone -/

@[simp] theorem kept_answered (c : Nat) (r : Req) (st : Status) (d : Nat) (data : Bytes) (s : State) :
    kept (answered c r st d data s) = kept s := by
  simp [answered]

theorem pwr_of_kept {a b : State} (h : kept a = kept b) : a.pwr = b.pwr := by
  have hp : (kept a).pwr = (kept b).pwr := by rw [h]
  exact hp

theorem step_of_kept {a b : State} (h : kept a = kept b) : a.sys.tStep = b.sys.tStep ∧ a.sys.tPub = b.sys.tPub := by
  have h1 : (kept a).sys.tStep = (kept b).sys.tStep := by rw [h]
  have h2 : (kept a).sys.tPub = (kept b).sys.tPub := by rw [h]
  exact ⟨h1, h2⟩

/-- The end of a command and its answer keep T_step and T_pub as the command has left them. -/
theorem step_finish_answered (c : Nat) (r : Req) (st : Status) (d : Nat) (data : Bytes) (s u : State) :
    (finish s (answered c r st d data u)).sys.tStep = u.sys.tStep ∧
      (finish s (answered c r st d data u)).sys.tPub = u.sys.tPub :=
  step_of_kept ((kept_finish s _).trans (kept_answered c r st d data u))

end Sys2Proof.Machine
end

section
/-! OP_SYS_SET_STEP (01_architecture.md R13 to R15). -/

namespace Sys2Proof.Machine

open Sys2Proof Sys2Proof.Safety

/-- The checks of OP_SYS_SET_STEP, in their order. -/
def setStepChecks (p : Bytes) (s : State) : List (Bool × Status × Nat) :=
  let a := u32 p 0
  let b := newPub s a (u32 p 4)
  [lenIs p 8, (a % 80 != 0, .badParam, 0), outOf a 8000 160000 0, (u32 p 4 % 80 != 0, .badParam, 4),
    (decide (b * 100 < a * 25) || decide (a * 95 < b * 100), .range, 4)]

/-- The step's parameters as OP_SYS_SET_STEP leaves them: the step in flight is cleared. -/
def withStep (a b : Nat) (s : State) : State :=
  { s with sys := { s.sys with tStep := a, tPub := b, stepStart := none, late := [], stepDone := none, pubFor := none } }

theorem exec_opSysSetStep (r : Req) (s : State) :
    exec (.opSysSetStep r) s = runOp { code := 0x0006, states := stIA } r s fun p s =>
      chk (setStepChecks p s) fun _ =>
        let b := newPub s (u32 p 0) (u32 p 4)
        .give (withStep (u32 p 0) b s) (le 4 (u32 p 0) ++ le 4 b) := rfl

/-- R14: half of a new T_step, rounded down to a multiple of 80, lies within 25 % to 95 % of it. -/
theorem half_step_in_range {a : Nat} (h : 8000 ≤ a) : 25 * a ≤ 100 * (a / 2 / 80 * 80) ∧ 100 * (a / 2 / 80 * 80) ≤ 95 * a := by
  omega

theorem newPub_given {a p : Nat} (s : State) (h : p ≠ 0) : newPub s a p = p := if_pos h

theorem newPub_half {a p : Nat} {s : State} (h : p = 0) (ha : a ≠ s.sys.tStep) : newPub s a p = a / 2 / 80 * 80 := by
  simp [newPub, h, ha]

theorem newPub_kept {a p : Nat} {s : State} (h : p = 0) (ha : a = s.sys.tStep) : newPub s a p = s.sys.tPub := by
  simp [newPub, h, ha]

theorem newPub_seen (c : Nat) (r : Req) (s : State) (a p : Nat) : newPub (seen c r s) a p = newPub s a p := by
  simp only [newPub, seen_sys]

section
variable {r : Req} {s : State}

/-- The first failing check refuses OP_SYS_SET_STEP. -/
theorem opSysSetStep_refused (h : reaches { code := 0x0006, states := stIA } r s = true) {st : Status} {d : Nat}
    (hc : (setStepChecks r.payload (seen 0x0006 r s)).find? (·.1) = some (true, st, d)) :
    exec (.opSysSetStep r) s = .next (finish s (answered 0x0006 r st d [] (seen 0x0006 r s))) := by
  rw [exec_opSysSetStep]
  exact runOp_no h (by simp only [chk, hc])

/-- OP_SYS_SET_STEP sets T_step and T_pub where both are multiples of 80 in their ranges. -/
theorem opSysSetStep_sets (h : reaches { code := 0x0006, states := stIA } r s = true) (hlen : r.payload.length = 8) {a p b : Nat}
    (ea : u32 r.payload 0 = a) (ep : u32 r.payload 4 = p) (eb : newPub s a p = b) (ha : a % 80 = 0) (hlo : 8000 ≤ a)
    (hhi : a ≤ 160000) (hp : p % 80 = 0) (hb : 25 * a ≤ 100 * b) (hb' : 100 * b ≤ 95 * a) :
    ∃ t, exec (.opSysSetStep r) s = .next t ∧ t.sys.tStep = a ∧ t.sys.tPub = b := by
  have hn : newPub (seen 0x0006 r s) a p = b := (newPub_seen ..).trans eb
  have hc : passes (setStepChecks r.payload (seen 0x0006 r s)) = true := by
    simp [setStepChecks, passes_cons, passes_nil, lenIs, outOf, *]
    omega
  rw [exec_opSysSetStep]
  refine ⟨_, runOp_yes h (chk_passes hc _), ?_⟩
  rw [(step_finish_answered ..).1, (step_finish_answered ..).2, ea, ep, hn]
  exact ⟨rfl, rfl⟩

/-- A refusal keeps T_step and T_pub. -/
theorem step_refused (c : Nat) (st : Status) (d : Nat) :
    (finish s (answered c r st d [] (seen c r s))).sys.tStep = s.sys.tStep ∧
      (finish s (answered c r st d [] (seen c r s))).sys.tPub = s.sys.tPub := by
  have h := step_finish_answered c r st d [] s (seen c r s)
  rwa [seen_sys] at h

end

/-- Settles O50: the state check and the list of checks answer each case; only a passed list writes T_step and T_pub. -/
theorem setStepRules : Obligations.SetStepRules := by
  refine ⟨rfl, rfl, fun r s ht hs hl => ⟨fun hi ha => ⟨?_, step_refused ..⟩, fun hst hf hlen => ?_⟩⟩
  · have hc : stIA.contains s.sys.state = false := by
      simpa [stIA] using ⟨hi, ha⟩
    exact runOp_wrongState ht rfl hs hc
  have hr : reaches { code := 0x0006, states := stIA } r s = true :=
    reaches_of_inTurn ht hf hs (by simpa [stIA] using hst) hl
  have refuse {st : Status} {d : Nat} (hc : (setStepChecks r.payload (seen 0x0006 r s)).find? (·.1) = some (true, st, d)) :=
    And.intro (opSysSetStep_refused hr hc) (step_refused (r := r) (s := s) 0x0006 st d)
  have sets {b : Nat} := opSysSetStep_sets (b := b) hr hlen rfl rfl
  refine ⟨fun ha => refuse ?stepMultiple, fun ha hx => refuse ?stepRange, fun ha hlo hhi =>
    ⟨fun hp => refuse ?pubMultiple, fun h0 hp hx => refuse ?pubRange,
      fun h0 hp hl hh => sets (newPub_given s h0) ha hlo hhi hp hl hh,
      fun h0 hn => sets (newPub_half h0 hn) ha hlo hhi (by rw [h0]) (half_step_in_range hlo).1 (half_step_in_range hlo).2,
      fun h0 he hl hh => sets (newPub_kept h0 he) ha hlo hhi (by rw [h0]) hl hh⟩⟩
  case stepMultiple => simp [setStepChecks, lenIs, hlen, ha]
  case stepRange => simp [setStepChecks, lenIs, outOf, hlen, ha, hx]
  case pubMultiple =>
    simp [setStepChecks, lenIs, outOf, hlen, ha, hp, Nat.not_lt.mpr hlo, Nat.not_lt.mpr hhi]
  case pubRange =>
    simp [setStepChecks, lenIs, outOf, hlen, ha, hp, Nat.not_lt.mpr hlo, Nat.not_lt.mpr hhi, newPub_given _ h0]
    omega

end Sys2Proof.Machine
end

section
/-! The request rows of the table: a packet waits for its turn, and a state that its row does not list refuses it. -/

namespace Sys2Proof.Machine

open Sys2Proof Sys2Proof.Safety

/-- A command runs the packet `r` as check 7 does, with the code, the states and the versions of the row `op`, and ends as every
command does where the packet has left reset and supplies as they were (OP_SEC_REBOOT resets the device where it has not). -/
def RunsAs (op : Op) (r : Req) (i : Instr) : Prop :=
  ∃ (row : Op) (part body : Bytes → State → Ans),
    (∀ s s1, runReq row r s part body = s1 → s1.pwr = s.pwr → exec i s = .next (finish s s1)) ∧
    row.code = op.code ∧ row.states = op.states ∧ ∀ o, served o row = served o op

theorem RunsAs.of_exec {row op : Op} {r : Req} {i : Instr} {part body : Bytes → State → Ans}
    (he : ∀ s, exec i s = .next (finish s (runReq row r s part body))) (hc : row.code = op.code)
    (hs : row.states = op.states) (hv : ∀ o, served o row = served o op) : RunsAs op r i :=
  ⟨row, part, body, fun s _ h _ => h ▸ he s, hc, hs, hv⟩

/-- A reboot that is not executed leaves the device out of reset. -/
theorem exec_opSecReboot_of_pwr {r : Req} {s s1 : State}
    (h : runReq { code := 0x0106, states := stBIS } r s (fun _ s => .done s)
      (fun p s => fourReserved p fun _ => .yes { s with pwr := { s.pwr with inReset := true } } .accepted 0 []) = s1)
    (hp : s1.pwr = s.pwr) : exec (.opSecReboot r) s = .next (finish s s1) := by
  have hr : ¬ (s1.pwr.inReset = true ∧ ¬ s.pwr.inReset = true) := by rw [hp]; exact fun h => h.2 h.1
  simp only [exec, execOpSecReboot, h, hr, if_false]

/-- Every request row but that of OP_SEC_IMAGE_LOAD, whose packets may wait for a verification, runs its packet directly. -/
theorem requestOf_runsAs {i : Instr} {op : Op} {r : Req} (h : Can.requestOf i = some (op, r))
    (hi : i ≠ .opSecImageLoad r) : RunsAs op r i := by
  cases i
  case opSecImageLoad => cases h; exact absurd rfl hi
  case opSecReboot => cases h; exact ⟨_, _, _, fun _ _ => exec_opSecReboot_of_pwr, rfl, rfl, fun _ => rfl⟩
  all_goals cases h
  all_goals exact .of_exec (fun _ => rfl) rfl rfl fun _ => rfl

theorem requestOf_imageLoad {op : Op} {r : Req} (h : Can.requestOf (.opSecImageLoad r) = some (op, r)) :
    op = { code := 0x0103, states := stBIARTS, chained := true } := by
  cases h; rfl

theorem mem_stBIARTS (d : DevState) : stBIARTS.contains d = true := by
  cases d <;> rfl

/-- HELLO and RESYNC are served in every device state. -/
theorem requestOf_outside {i : Instr} {op : Op} {r : Req} (h : Can.requestOf i = some (op, r)) (ho : outside op = true) :
    op.states = stBIARTS := by
  cases i
  all_goals cases h
  all_goals cases ho
  all_goals rfl

theorem inTurn_congr {row op : Op} (hc : row.code = op.code) {r : Req} {s : State} :
    Can.inTurn row r s = Can.inTurn op r s := by
  simp only [Can.inTurn, outside, otherChain, hc]

/-- Settles O51: a packet out of its turn stays in flight, one in its turn meets the state check of its row. -/
theorem requestsWaitTheirTurnAndState : Obligations.RequestsWaitTheirTurnAndState := by
  intro i op r s h
  by_cases hi : i = .opSecImageLoad r
  · subst hi
    cases requestOf_imageLoad h
    refine ⟨fun hr ht => ?_, fun hr => ?_, fun _ _ hst => ?_⟩
    · simp only [exec, execOpSecImageLoad, hr, ht, Bool.false_eq_true, not_false_eq_true, if_false, if_true]
    · simp only [exec, execOpSecImageLoad, hr, if_true]
    · rw [mem_stBIARTS] at hst; cases hst
  obtain ⟨row, part, body, hexec, hcode, hstates, hserved⟩ := requestOf_runsAs h hi
  refine ⟨fun hr ht => ?_, fun hr => ?_, fun ht hs hst => ?_⟩
  · refine hexec s _ ?_ (entered_pwr ..)
    rw [← hcode] at ht ⊢
    exact runReq_waits hr ht part body
  · exact hexec s s (runReq_reset hr part body) rfl
  · have ho : outside op = false := by
      by_contra ho
      rw [requestOf_outside h (by simpa using ho), mem_stBIARTS] at hst
      cases hst
    refine hexec s _ ?_ ((pwr_of_kept (kept_answered ..)).trans (seen_pwr ..))
    have hrow : Can.inTurn row r s = true := (inTurn_congr hcode).trans ht
    rw [← hcode]
    exact runReq_wrongState hrow (by rw [← ho, outside, outside, hcode]) ((hserved _).trans hs) (hstates ▸ hst) part

end Sys2Proof.Machine
end

section
/-! The reset state, and the opcodes of the device state (01_architecture.md R13, R14, R27, R28; 07_gauntlet.md R187). -/

namespace Sys2Proof.Machine

open Sys2Proof Sys2Proof.Safety

/-- Right after reset only the QSPI host is listed, with every event family enabled. -/
theorem orig_reset (org : Nat) :
    orig State.reset org = if 0 = org then { evMask := 0xFFFFFFFFFFFFFFFF } else {} := by
  by_cases h : 0 = org <;> simp [orig, State.reset, Tbl.getD, Tbl.find, h]

/-- Settles O2, by the reset values: the host's entry differs from the default in its event mask alone, and an angle table
that is not listed stands at its default. -/
theorem resetHolds : Obligations.ResetHolds := by
  refine ⟨rfl, rfl, rfl, rfl, rfl, rfl, rfl, rfl, rfl, fun org => ?_, fun _ _ => ⟨rfl, rfl⟩, rfl⟩
  rw [orig_reset]
  split <;> exact ⟨rfl, rfl⟩

/-! ### What a state opcode does where nothing refuses it -/

section
variable {s s1 : State}

theorem stateOp_ok {f : State → Trial} (hf : follows s = false) (h : f s = .ok s1) (code : Nat) (p : Bytes) (done : State → Ans) :
    stateOp code p s f done = done (forwardOp code p s1) := by
  simp only [stateOp, hf, h, Bool.false_eq_true, if_false]

theorem doArm_ok (hb : transBusy s = false) (hr : (tbLockedOrHeld s && calibrationValid s) = true) :
    doArm s = .ok (enterState .armed s) := by
  simp only [doArm, hb, hr, Bool.false_eq_true, if_false, if_true]

theorem doDisarm_ok (hb : transBusy s = false) : doDisarm s = .ok (enterState .idle s) := by
  simp only [doDisarm, hb, Bool.false_eq_true, if_false]

theorem doRun_ok {mode : GridMode} (hb : transBusy s = false) (hr : runRefusal mode s = 0) (owed : Option Owed) :
    doRun mode owed s = .ok { s with sys := { s.sys with trans := some (.toRun mode s.gfm.obs.lock owed) } } := by
  simp [doRun, hb, hr]

/-- The state of a device that has taken OP_SYS_STOP: the ramp has begun, or with T_STOP 0 has ended (R28). -/
def stopped (ms : Nat) (s : State) : State :=
  let s1 := updRun (fun r => { r with ho := r.ho.map fun h => { h with frozen := true } }) s
  if ms = 0 then enterState .armed (leaveRun s) else { s1 with sys := { s1.sys with trans := some (.stopRamp s.now ms) } }

theorem doStop_ok (hb : transBusy s = false) (ms : Nat) : doStop ms s = .ok (stopped ms s) := by
  by_cases h : ms = 0 <;> simp [doStop, stopped, finishStop, hb, h]

theorem doClear_ok (hb : transBusy s = false) (hf : faultAsserted s = false) (hm : mittenAsserted s = false) :
    doClear s = .ok (notePins (enterState .armed { s with gnt := { s.gnt with brk := [] } })) := by
  simp only [doClear, hb, hf, hm, Bool.false_eq_true, if_false]

end

/-- Settles O9: each request reaches its chapter, passes the checks of its row and makes its transition. -/
theorem stateOpcodesComplete : Obligations.StateOpcodesComplete := by
  refine ⟨fun r s0 h => ?info, fun r s0 h => ?setStep, fun r s0 h => ?arm, fun r s0 h => ?run, fun r s0 h => ?stop,
    fun r s0 h => ?disarm, fun r s0 h => ?service, fun r s0 h => ?idle, fun r s0 h => ?clear⟩
  case info =>
    obtain ⟨hr, hp⟩ := Bool.and_eq_true_iff.mp h
    exact runOp_yes hr (fourReserved_passes hp _)
  case setStep =>
    obtain ⟨hr, hp⟩ := Bool.and_eq_true_iff.mp h
    exact runOp_yes hr (chk_passes hp _)
  case arm =>
    simp only [Can.opSysArm, Bool.and_eq_true, passes_cons, Bool.not_eq_false'] at h
    obtain ⟨hr, hlen, hrsv, hf, hb, hready, hnil⟩ := h
    refine runOp_yes hr ((fourReserved_passes ?_ _).trans (stateOp_ok hf (doArm_ok hb ?_) ..))
    · simp only [passes_cons, passes_nil, hlen, hrsv, and_self]
    · exact Bool.and_eq_true_iff.mpr hready
  case run =>
    simp only [Can.opSysRun, Bool.and_eq_true, passes_cons, bne_eq_false_iff_eq] at h
    obtain ⟨hr, hlen, hmode, hrsv, hf, hb, hready, hnil⟩ := h
    refine runOp_later hr ((chk_passes ?_ _).trans (stateOp_ok hf (doRun_ok hb hready _) ..))
    simp only [passes_cons, passes_nil, hlen, hmode, hrsv, and_self]
  case stop =>
    simp only [Can.opSysStop, Bool.and_eq_true, passes_cons] at h
    obtain ⟨hr, hlen, hms, hf, hb, hnil⟩ := h
    refine runOp_yes hr ((chk_passes ?_ _).trans (stateOp_ok hf (doStop_ok hb _) ..))
    simp only [passes_cons, passes_nil, hlen, hms, and_self]
  case disarm =>
    simp only [Can.opSysDisarm, Bool.and_eq_true, passes_cons] at h
    obtain ⟨hr, hlen, hrsv, hf, hb, hnil⟩ := h
    refine runOp_yes hr ((fourReserved_passes ?_ _).trans (stateOp_ok hf (doDisarm_ok hb) ..))
    simp only [passes_cons, passes_nil, hlen, hrsv, and_self]
  case service =>
    simp only [Can.opSysService, Bool.and_eq_true] at h
    obtain ⟨⟨hr, hp⟩, hb⟩ := h
    exact runOp_yes hr ((fourReserved_passes hp _).trans (chk_passes hb _))
  case idle =>
    simp only [Can.opSysIdle, Bool.and_eq_true] at h
    obtain ⟨⟨hr, hp⟩, hb⟩ := h
    exact runOp_yes hr ((fourReserved_passes hp _).trans (chk_passes hb _))
  case clear =>
    simp only [Can.opGntClear, Bool.and_eq_true, passes_cons] at h
    obtain ⟨hr, hlen, hrsv, hf, hb, hfault, hmitten, hnil⟩ := h
    refine runOp_yes hr ((fourReserved_passes ?_ _).trans (stateOp_ok hf (doClear_ok hb hfault hmitten) ..))
    simp only [passes_cons, passes_nil, hlen, hrsv, and_self]

end Sys2Proof.Machine
end

section
/-! The rows of the outer step, the entry into RUN, the stop ramp and the debug halts (01_architecture.md R17 to R28). A proof
names the row's own definition before it cites a rule about events: to meet `exec` with `ev` directly is slow. -/

namespace Sys2Proof.Machine

open Sys2Proof Sys2Proof.Safety

/-! ### The conditions of these events, read off the state at their tick -/

section
variable {t : Nat} {pre : State}

theorem runEntryBoundary_due (h : Can.runEntryBoundary t pre = true) :
    pre.pwr.inReset = false ∧ ¬ ((advance t pre).sys.state ≠ .armed ∨ ¬ tbRuns (advance t pre) = true ∨
      (advance t pre).now % (advance t pre).sys.tStep ≠ 0 ∨ (advance t pre).sys.halted % 16 ≠ 0) := by
  obtain ⟨hr, hc⟩ := live_of h
  dsimp only at hc
  split at hc
  case h_1 => exact ⟨hr, of_decide_eq_true hc⟩
  case h_2 => cases hc

theorem stopRampEnd_due (h : Can.stopRampEnd t pre = true) :
    pre.pwr.inReset = false ∧ ∃ start ms, (advance t pre).sys.trans = some (.stopRamp start ms) ∧
      due (advance t pre) (start + msT ms) = true := by
  obtain ⟨hr, hc⟩ := live_of h
  dsimp only at hc
  split at hc
  case h_1 start ms htrans => exact ⟨hr, start, ms, htrans, of_decide_eq_true hc⟩
  case h_2 => cases hc

theorem publishTick_due (h : Can.publishTick t pre = true) :
    pre.pwr.inReset = false ∧ ∃ b, (advance t pre).sys.pubFor = some b ∧
      ¬ (¬ tbRuns (advance t pre) = true ∨ (advance t pre).now < b + (advance t pre).sys.tPub) := by
  obtain ⟨hr, hc⟩ := live_of h
  dsimp only at hc
  split at hc
  case h_1 b hpub => exact ⟨hr, b, hpub, of_decide_eq_true hc⟩
  case h_2 => cases hc

end

/-- Settles O10: each event reaches the device and its condition holds, so that its effect follows. -/
theorem stepEventsComplete : Obligations.StepEventsComplete := by
  refine ⟨fun t pre h => ?entry, fun t pre h => ?rampEnd, fun t engine pre h => ?halt, fun t engine pre h => ?haltEnd,
    fun t pre h => ?boundary, fun t pre h => ?complete, fun t pre h => ?publish⟩
  case entry =>
    intro s mode lock owed htrans
    show execRunEntryBoundary t pre = _
    obtain ⟨hr, hc⟩ := runEntryBoundary_due h
    have htrans : (advance t pre).sys.trans = some (.toRun mode lock owed) := htrans
    refine ev_effect hr ?_
    simp only [htrans]
    exact if_neg hc
  case rampEnd =>
    intro s
    show execStopRampEnd t pre = _
    obtain ⟨hr, start, ms, htrans, hdue⟩ := stopRampEnd_due h
    exact ev_effect hr (by simp only [htrans, hdue, if_true, s])
  case halt =>
    intro s s1
    show execDebugHalt t engine pre = _
    obtain ⟨hr, hc⟩ := live_of h
    refine ev_effect hr ?_
    rw [if_neg (of_decide_eq_true hc)]
  case haltEnd =>
    intro s
    show execDebugHaltEnd t engine pre = _
    obtain ⟨hr, hc⟩ := live_of h
    exact ev_effect hr (if_pos (of_decide_eq_true hc))
  case boundary =>
    intro s b m
    show execOuterStepBoundary t pre = _
    obtain ⟨hr, hc⟩ := live_of h
    exact ev_effect hr (if_neg (of_decide_eq_true hc))
  case complete =>
    intro s
    show execOuterStepComplete t pre = _
    exact ev_live h
  case publish =>
    intro s s1
    show execPublishTick t pre = _
    obtain ⟨hr, b, hpub, hc⟩ := publishTick_due h
    refine ev_effect hr ?_
    simp only [hpub]
    exact if_neg hc

end Sys2Proof.Machine
end

section
/-! The converters' rows (08_acquisition.md). -/

namespace Sys2Proof.Machine

open Sys2Proof Sys2Proof.Safety

/-- Settles O32: each request reaches its chapter and passes the checks of its row on a converter that is not clock gated,
and each event finds its condition. -/
theorem acqComplete : Obligations.AcqComplete := by
  refine ⟨fun r s0 h => ?setConv, fun r s0 h => ?setPair, fun r s0 h => ?calibrate, fun t results pre h => ?calibrated,
    fun r s0 h => ?getCal, fun r s0 h => ?setCal, fun r s0 h => ?saveCal, fun r s0 h => ?status, fun t temps pre h => ?temps,
    fun t n pv pre h => ?conversion, fun t n pre h => ?word, fun t n steps pre h => ?auxWord⟩
  case setConv =>
    simp only [Can.opAcqSetConv, Bool.and_eq_true] at h
    obtain ⟨hr, hp, hg⟩ := h
    exact runOp_yes hr ((chk_passes hp _).trans (writeOf_running (of_decide_eq_true hg) _))
  case setPair =>
    simp only [Can.opAcqSetPair, Bool.and_eq_true] at h
    obtain ⟨hr, hp, hg⟩ := h
    exact runOp_yes hr ((chk_passes hp _).trans (writeOf_running (of_decide_eq_true hg) _))
  case calibrate =>
    obtain ⟨hr, hp⟩ := Bool.and_eq_true_iff.mp h
    exact runOp_yes hr (chk_passes hp _)
  case calibrated =>
    intro s ns s1
    show execCalibrationDone t results pre = _
    obtain ⟨hr, hc⟩ := live_of h
    exact ev_effect hr (if_neg (of_decide_eq_true hc))
  case getCal =>
    obtain ⟨hr, hp⟩ := Bool.and_eq_true_iff.mp h
    exact runOp_yes hr (fourReserved_passes hp _)
  case setCal =>
    obtain ⟨hr, hp⟩ := Bool.and_eq_true_iff.mp h
    intro p s k rec_ bad put
    cases hb : (List.range k).find? fun i => (bad i).isSome with
    | none =>
      refine runOp_yes hr ((chk_passes hp _).trans ?_)
      simp only [bad, rec_, k, p] at hb
      simp only [hb]
      rfl
    | some i =>
      refine runOp_no hr ((chk_passes hp _).trans ?_)
      simp only [bad, rec_, k, p] at hb
      simp only [hb]
      rfl
  case saveCal =>
    simp only [Can.opAcqSaveCal, Bool.and_eq_true] at h
    obtain ⟨⟨hr, hp⟩, hc⟩ := h
    exact runOp_yes hr ((fourReserved_passes hp _).trans (if_neg (of_decide_eq_true hc)))
  case status =>
    simp only [Can.opAcqGetStatus, Bool.and_eq_true] at h
    obtain ⟨⟨hr, hp⟩, hg⟩ := h
    exact runOp_yes hr ((oneByte_passes hp _).trans (giveOf_running (of_decide_eq_true hg) _))
  case temps =>
    intro s
    show execTempMonitorRead t temps pre = _
    obtain ⟨hr, hc⟩ := live_of h
    exact ev_effect hr (if_neg (of_decide_eq_true hc))
  case conversion =>
    intro s x i e hat
    show execAcqConversion t n pv pre = _
    obtain ⟨hr, hc⟩ := live_of h
    have hgo := of_decide_eq_true (Bool.and_eq_true_iff.mp hc).1
    have hat : convertsAt (advance t pre) n t = some (i, e) := hat
    refine ev_effect hr ((if_neg hgo).trans ?_)
    simp only [hat]
    rfl
  case word =>
    intro s inst i w rest hfly
    show execFastWordDelivered t n pre = _
    obtain ⟨hr, -⟩ := live_of h
    have hfly : (conv (advance t pre) n).fly = (inst, i, w) :: rest := hfly
    refine ev_effect hr ?_
    simp only [hfly]
    rfl
  case auxWord =>
    show execAuxWordClose t n steps pre = _
    obtain ⟨hr, hc⟩ := live_of h
    exact ev_effect hr (if_neg (of_decide_eq_true hc))

end Sys2Proof.Machine
end

section
/-! What a request that is not chained can do to the parts that the end of a command keeps, however it ends. -/

namespace Sys2Proof.Machine

open Sys2Proof Sys2Proof.Safety

/-- The state that the chapter's answer leaves, of the state that the chapter saw: a refusal leaves it. -/
def Ans.leaves (s : State) : Ans → State
  | .no _ _ => s
  | .yes s1 _ _ _ => s1
  | .chain s1 _ => s1
  | .later s1 => s1

@[simp] theorem kept_answerChain (o : Owed) (data : Bytes) (s : State) : kept (answerChain o data s) = kept s := by
  unfold answerChain
  exact kept_foldl _ _ _ fun a x => kept_enqueueReply ..

@[simp] theorem kept_entered (code : Nat) (r : Req) (s : State) : kept (entered code r s) = kept s := by
  unfold entered
  split <;> rfl

@[simp] theorem kept_seen (code : Nat) (r : Req) (s : State) : kept (seen code r s) = kept s := by
  simp [seen]

@[simp] theorem seen_gfm (code : Nat) (r : Req) (s : State) : (seen code r s).gfm = s.gfm := by
  unfold seen entered
  split <;> rfl

@[simp] theorem seen_grid (code : Nat) (r : Req) (s : State) : (seen code r s).grid = s.grid := by
  unfold seen entered
  split <;> rfl

/-- Answering a request keeps what its chapter has left. -/
theorem kept_conclude (o : Owed) (a : Ans) (s : State) : kept (conclude o a s) = kept (a.leaves s) := by
  cases a <;> simp [conclude, Ans.leaves]

theorem notLast_leaves (a : Ans) (s : State) : (notLast a).leaves s = s := by
  unfold notLast
  split <;> rfl

/-- A request that ends in `u` has kept these parts, or its chapter has left them so, on a state that kept them. -/
def EndsAs (body : State → Ans) (s u : State) : Prop :=
  kept u = kept s ∨ ∃ s1, kept s1 = kept s ∧ kept u = kept ((body s1).leaves s1)

theorem EndsAs.ite {body : State → Ans} {s a b : State} {c : Prop} [Decidable c] (ha : c → EndsAs body s a)
    (hb : ¬ c → EndsAs body s b) : EndsAs body s (if c then a else b) :=
  iteInduction ha hb

theorem EndsAs.refused {body : State → Ans} {s s1 : State} {o : Owed} {a : Ans} (hk : kept s1 = kept s)
    (ha : a.leaves s1 = s1) : EndsAs body s (conclude o a s1) :=
  .inl (by rw [kept_conclude, ha, hk])

/-- A request that is not chained is held, refused, or executed by its chapter (17_opcodes.md R387). -/
theorem runReq_endsAs {op : Op} (hc : op.chained = false) (r : Req) (s : State) (part body : Bytes → State → Ans) :
    EndsAs (body r.payload) s (runReq op r s part body) := by
  unfold runReq
  extract_lets w s0 o s1 o1 pkt p
  have hk : kept s1 = kept s := by
    simp only [s1, s0]
    split <;> simp
  have hp : p = r.payload := if_neg (by simp [hc])
  refine .ite (fun _reset => .inl rfl) fun _ => .ite (fun _waits => .inl (kept_entered ..)) fun _ =>
    .ite (fun _aborting => .inl (by simp [s0])) fun _ => .ite (fun _deadChain => .inl (by simp [hk])) fun _ =>
    .ite (fun _otherChain => .inl (by simp [hk])) fun _ => .ite (fun _unserved => .refused hk rfl) fun _ =>
    .ite (fun _wrongState => .refused hk rfl) fun _ => .ite (fun _failing => .refused hk rfl) fun _ =>
    .ite (fun _unchained => .refused hk (notLast_leaves ..)) fun hlast =>
    .ite (fun hl => absurd ⟨hl, by simp [hc]⟩ hlast) fun _last => .inr ⟨s1, hk, ?_⟩
  rw [kept_conclude, hp]

/-- What a request starts with and its chapter keeps, of these parts, holds where it ends. -/
theorem EndsAs.keeps {body : State → Ans} {s u : State} {P : State → Prop} (h : EndsAs body s u)
    (hP : ∀ {a b : State}, kept a = kept b → P b → P a) (hs : P s) (hb : ∀ s1, P s1 → P ((body s1).leaves s1)) : P u := by
  obtain hk | ⟨s1, hk1, hk⟩ := h
  · exact hP hk hs
  · exact hP hk (hb s1 (hP hk1 hs))

/-- The next state of a request that is not chained, as far as these parts go. -/
theorem runOp_endsAs {op : Op} (hc : op.chained = false) (r : Req) (s : State) (body : Bytes → State → Ans) :
    ∃ t, runOp op r s body = .next t ∧ EndsAs (body r.payload) s t := by
  refine ⟨_, rfl, ?_⟩
  unfold EndsAs
  rw [kept_finish]
  exact runReq_endsAs hc r s _ body

end Sys2Proof.Machine
end

section
/-! The grid-forming opcodes and their events (02_grid_forming.md R37 to R60). -/

namespace Sys2Proof.Machine

open Sys2Proof Sys2Proof.Safety

/-- The observer has met its conditions for 100 ms, and so it gains its lock (R49). -/
theorem obsLockGained_due {t : Nat} {pre : State} (h : Can.obsLockGained t pre = true) :
    pre.pwr.inReset = false ∧ ∃ g, (advance t pre).gfm.obs.goodSince = some g ∧
      ((advance t pre).gfm.obs.on = true ∧ ¬ (advance t pre).gfm.obs.lock = true ∧
        due (advance t pre) (g + msT 100) = true) := by
  obtain ⟨hr, hc⟩ := live_of h
  dsimp only at hc
  split at hc
  case h_1 g hgood =>
    simp only [Bool.and_eq_true, Bool.not_eq_true'] at hc
    obtain ⟨⟨hon, hlock⟩, hdue⟩ := hc
    exact ⟨hr, g, hgood, hon, by simp [hlock], hdue⟩
  case h_2 => cases hc

theorem gainLock_due {s : State} {g : Nat} (hgood : s.gfm.obs.goodSince = some g)
    (hc : s.gfm.obs.on = true ∧ ¬ s.gfm.obs.lock = true ∧ due s (g + msT 100) = true) :
    gainLock s = raise 0x1007 0 [] { s with gfm := { s.gfm with
      obs := lockedAt { s.gfm.obs with lock := true, everLock := true, lostSince := none } s.gfm.vPos s.gfm.obs.at_ } } := by
  unfold gainLock
  dsimp only
  split
  case h_1 _ hg =>
    cases hgood.symm.trans hg
    exact if_pos hc
  case h_2 hn => cases hgood.symm.trans hn

/-- OP_GFM_COMMIT makes the staged values the targets (R38). -/
theorem exec_opGfmCommit {r : Req} {s0 : State} (h : Can.opGfmCommit r s0 = true) :
    let s := seen 0x1002 r s0
    exec (.opGfmCommit r) s0 =
      .next (finish s0 (answered 0x1002 r .accepted 0 [] { s with gfm := { s.gfm with par := commitSet s.gfm.par } })) := by
  simp only [Can.opGfmCommit, Bool.and_eq_true] at h
  obtain ⟨⟨hr, hlate⟩, hp⟩ := h
  refine runOp_yes hr ?_
  simp only [Option.isNone_iff_eq_none.mp hlate]
  exact chk_passes hp _

/-- OP_GFM_DISCARD makes the targets the staged values (R38). -/
theorem exec_opGfmDiscard {r : Req} {s0 : State} (h : Can.opGfmDiscard r s0 = true) :
    let s := seen 0x1003 r s0
    exec (.opGfmDiscard r) s0 =
      .next (finish s0 (answered 0x1003 r .ok 0 [] { s with gfm := { s.gfm with par := discardSet s.gfm.par } })) := by
  obtain ⟨hr, hp⟩ := Bool.and_eq_true_iff.mp h
  exact runOp_yes hr (fourReserved_passes hp _)

/-- Settles O18: each request reaches its chapter and passes the checks of its row, and each event finds its
condition. -/
theorem gfmComplete : Obligations.GfmComplete := by
  refine ⟨fun r s0 h => ?setParam, fun r s0 => exec_opGfmCommit, fun r s0 => exec_opGfmDiscard, fun r s0 h => ?getParam,
    fun r s0 h => ?getState, fun r s0 h => ?mapChannel, fun r s0 h => ?setSec, fun t pre h => ?lockGained,
    fun t pre h => ?blendDone, fun t pre h => ?secStale⟩
  case setParam =>
    intro p s x hx
    obtain ⟨hr, -⟩ := Bool.and_eq_true_iff.mp h
    refine runOp_yes hr ?_
    simp only [s, p] at hx
    simp only [hx]
    rfl
  case getParam =>
    obtain ⟨hr, hp⟩ := Bool.and_eq_true_iff.mp h
    exact runOp_yes hr (chk_passes hp _)
  case getState =>
    obtain ⟨hr, hp⟩ := Bool.and_eq_true_iff.mp h
    exact runOp_yes hr (fourReserved_passes hp _)
  case mapChannel =>
    intro p s y
    obtain ⟨hr, hp⟩ := Bool.and_eq_true_iff.mp h
    refine runOp_yes hr ((chk_passes hp _).trans ?_)
    by_cases hs : structOk s = true
    · simp only [y, hs, if_true]
      exact if_pos hs
    · simp only [y, hs]
      exact if_neg hs
  case setSec =>
    obtain ⟨hr, hp⟩ := Bool.and_eq_true_iff.mp h
    exact runOp_yes hr (chk_passes hp _)
  case lockGained =>
    intro s o o1
    show execObsLockGained t pre = _
    obtain ⟨hr, g, hgood, hc⟩ := obsLockGained_due h
    exact ev_effect hr (gainLock_due hgood hc)
  case blendDone =>
    intro s
    show execEvGfmBlendDone t pre = _
    obtain ⟨hr, hc⟩ := live_of h
    exact ev_effect hr (if_pos (of_decide_eq_true hc))
  case secStale =>
    intro s
    show execEvGfmSecStale t pre = _
    obtain ⟨hr, hc⟩ := live_of h
    exact ev_effect hr (if_pos (of_decide_eq_true hc))

end Sys2Proof.Machine
end

section
/-! Staging, commit and discard of the two parameter sets (02_grid_forming.md R37 to R39, 03_grid_events.md R62, R63). -/

namespace Sys2Proof.Machine

open Sys2Proof Sys2Proof.Safety

/-! ### What the operations on a set leave alone -/

/-- OP_*_SET_PARAM changes no target and no value in use (R37). -/
theorem setParams_inUse {grid : Bool} {t : List Par} {x y : PSet} {b : Bytes} {s : State}
    (h : setParams grid t x b s = .ok y) : y.target = x.target ∧ y.present = x.present := by
  unfold setParams at h
  dsimp only at h
  split at h
  case h_1 => cases h
  split at h
  case isTrue => cases h
  split at h
  case isTrue => cases h
  split at h
  case isTrue => cases h
  split at h
  case h_1 => cases h
  cases h
  refine List.foldlRecOn (motive := fun z : PSet => z.target = x.target ∧ z.present = x.present) _ _ ⟨rfl, rfl⟩
    fun z hz k _ => ?_
  split
  case h_1 => exact hz
  case h_2 => exact hz

theorem params_of_kept {a b : State} (h : kept a = kept b) :
    a.gfm.par = b.gfm.par ∧ a.gfm.map = b.gfm.map ∧ a.grid.par = b.grid.par := by
  have h1 : (kept a).gfm.par = (kept b).gfm.par := by rw [h]
  have h2 : (kept a).gfm.map = (kept b).gfm.map := by rw [h]
  have h3 : (kept a).grid.par = (kept b).grid.par := by rw [h]
  exact ⟨h1, h2, h3⟩

/-- The end of an executed request and its answer leave the parameters as the command left them. -/
theorem params_finish_answered (c : Nat) (r : Req) (st : Status) (d : Nat) (data : Bytes) (s u : State) :
    (finish s (answered c r st d data u)).gfm.par = u.gfm.par ∧
      (finish s (answered c r st d data u)).gfm.map = u.gfm.map ∧
      (finish s (answered c r st d data u)).grid.par = u.grid.par :=
  params_of_kept ((kept_finish ..).trans (kept_answered ..))

/-! ### What the commands do with their sets -/

/-- In the grid-forming set `t` has the targets and the values in use of `s`, and it has its channel map and its other set. -/
def KeepsGfmInUse (s t : State) : Prop :=
  t.gfm.par.target = s.gfm.par.target ∧ t.gfm.par.present = s.gfm.par.present ∧ t.gfm.map = s.gfm.map ∧
    t.grid.par = s.grid.par

/-- In the set of the grid events `t` has the targets and the values in use of `s`, and it has its channel map and its other
set. -/
def KeepsGridInUse (s t : State) : Prop :=
  t.grid.par.target = s.grid.par.target ∧ t.grid.par.present = s.grid.par.present ∧ t.gfm.map = s.gfm.map ∧
    t.gfm.par = s.gfm.par

theorem KeepsGfmInUse.of_kept {s a b : State} (hk : kept a = kept b) (h : KeepsGfmInUse s b) :
    KeepsGfmInUse s a := by
  obtain ⟨hpar, hmap, hgrid⟩ := params_of_kept hk
  unfold KeepsGfmInUse
  rwa [hpar, hmap, hgrid]

theorem KeepsGridInUse.of_kept {s a b : State} (hk : kept a = kept b) (h : KeepsGridInUse s b) :
    KeepsGridInUse s a := by
  obtain ⟨hpar, hmap, hgrid⟩ := params_of_kept hk
  unfold KeepsGridInUse
  rwa [hpar, hmap, hgrid]

/-- OP_GFM_SET_PARAM, however it ends, moves no target and no value in use (R37). -/
theorem exec_opGfmSetParam_inUse (r : Req) (s : State) :
    ∃ t, exec (.opGfmSetParam r) s = .next t ∧ KeepsGfmInUse s t := by
  obtain ⟨t, ht, hend⟩ : ∃ t, exec (.opGfmSetParam r) s = .next t ∧ EndsAs _ s t := runOp_endsAs rfl r s _
  refine ⟨t, ht, hend.keeps KeepsGfmInUse.of_kept ⟨rfl, rfl, rfl, rfl⟩ fun s1 h => ?_⟩
  dsimp only
  split
  case h_1 => exact h
  case h_2 x hx =>
    obtain ⟨htarget, hpresent⟩ := setParams_inUse hx
    obtain ⟨ht, hp, hmap, hgrid⟩ := h
    exact ⟨htarget.trans ht, hpresent.trans hp, hmap, hgrid⟩

/-- OP_GRID_SET_PARAM, however it ends, moves no target and no value in use (03_grid_events.md R62). -/
theorem exec_opGridSetParam_inUse (r : Req) (s : State) :
    ∃ t, exec (.opGridSetParam r) s = .next t ∧ KeepsGridInUse s t := by
  obtain ⟨t, ht, hend⟩ : ∃ t, exec (.opGridSetParam r) s = .next t ∧ EndsAs _ s t := runOp_endsAs rfl r s _
  refine ⟨t, ht, hend.keeps KeepsGridInUse.of_kept ⟨rfl, rfl, rfl, rfl⟩ fun s1 h => ?_⟩
  dsimp only
  split
  case h_1 => exact h
  case h_2 x hx =>
    obtain ⟨htarget, hpresent⟩ := setParams_inUse hx
    obtain ⟨ht, hp, hmap, hgfm⟩ := h
    exact ⟨htarget.trans ht, hpresent.trans hp, hmap, hgfm⟩

/-- OP_GRID_COMMIT makes the staged values the targets (03_grid_events.md R63). -/
theorem exec_opGridCommit {r : Req} {s0 : State} (h : Can.opGridCommit r s0 = true) :
    let s := seen 0x1102 r s0
    exec (.opGridCommit r) s0 =
      .next (finish s0 (answered 0x1102 r .accepted 0 [] { s with grid := { s.grid with par := commitSet s.grid.par } })) := by
  simp only [Can.opGridCommit, Bool.and_eq_true] at h
  obtain ⟨⟨hr, hlate⟩, hp⟩ := h
  refine runOp_yes hr ?_
  simp only [Option.isNone_iff_eq_none.mp hlate]
  exact chk_passes hp _

/-- OP_GRID_DISCARD makes the targets the staged values (R38). -/
theorem exec_opGridDiscard {r : Req} {s0 : State} (h : Can.opGridDiscard r s0 = true) :
    let s := seen 0x1103 r s0
    exec (.opGridDiscard r) s0 =
      .next (finish s0 (answered 0x1103 r .ok 0 [] { s with grid := { s.grid with par := discardSet s.grid.par } })) := by
  obtain ⟨hr, hp⟩ := Bool.and_eq_true_iff.mp h
  exact runOp_yes hr (fourReserved_passes hp _)

/-- Settles O59: staging, discard and commit are each an operation on one set that leaves its values in use. -/
theorem parametersChangeByCommitOnly : Obligations.ParametersChangeByCommitOnly := by
  refine ⟨exec_opGfmSetParam_inUse, exec_opGridSetParam_inUse, fun r s h => ⟨_, exec_opGfmDiscard h, ?gfmDiscard⟩,
    fun r s h => ⟨_, exec_opGridDiscard h, ?gridDiscard⟩, fun r s h => ⟨_, exec_opGfmCommit h, ?gfmCommit⟩,
    fun r s h => ⟨_, exec_opGridCommit h, ?gridCommit⟩⟩
  case gfmDiscard =>
    rw [(params_finish_answered ..).1, seen_gfm]
    exact ⟨rfl, rfl, rfl⟩
  case gridDiscard =>
    rw [(params_finish_answered ..).2.2, seen_grid]
    exact ⟨rfl, rfl, rfl⟩
  case gfmCommit =>
    rw [(params_finish_answered ..).1, seen_gfm]
    exact ⟨rfl, rfl, rfl⟩
  case gridCommit =>
    rw [(params_finish_answered ..).2.2, seen_grid]
    exact ⟨rfl, rfl, rfl⟩

end Sys2Proof.Machine
end

section
/-! The parameters of the grid events, their maps and the synchroniser (03_grid_events.md R62 to R76). -/

namespace Sys2Proof.Machine

open Sys2Proof Sys2Proof.Safety

/-- Settles O19: each request reaches its chapter and passes the checks of its row, the staging by its own check. -/
theorem gridParamComplete : Obligations.GridParamComplete := by
  refine ⟨fun r s0 h => ?setParam, fun r s0 => exec_opGridCommit, fun r s0 => exec_opGridDiscard, fun r s0 h => ?getParam,
    fun r s0 h => ?setEnv, fun r s0 h => ?clRelease, fun r s0 h => ?mapSync, fun r s0 h => ?syncStart,
    fun r s0 h => ?syncStop, fun r s0 h => ?islClear⟩
  case setParam =>
    intro p s x hx
    obtain ⟨hr, -⟩ := Bool.and_eq_true_iff.mp h
    refine runOp_yes hr ?_
    simp only [s, p] at hx
    simp only [hx]
    rfl
  case clRelease =>
    obtain ⟨hr, hp⟩ := Bool.and_eq_true_iff.mp h
    exact runOp_yes hr (fourReserved_passes hp _)
  all_goals
    obtain ⟨hr, hp⟩ := Bool.and_eq_true_iff.mp h
    exact runOp_yes hr (chk_passes hp _)

end Sys2Proof.Machine
end

section
/-! Hand-overs on request, and black-start groups and programs (03_grid_events.md R78 to R92). -/

namespace Sys2Proof.Machine

open Sys2Proof Sys2Proof.Safety

/-- OP_GRID_BS_CONTINUE that passes its checks has its effect on the program that runs. -/
theorem bsContinue_done {action : Nat} {r : Req} {s0 : State} {ok : State → Bool} {f : BsRun → State → State} {b : BsRun}
    (h : (reaches { code := 0x110D, states := stR, v2 := false } r s0 &&
      passes [lenIs r.payload 4, (u8 r.payload 0 != action, .badParam, 0), rsv r.payload 1 3,
        (!ok (seen 0x110D r s0), .refused, 0)] && (seen 0x110D r s0).grid.bs.isSome) = true)
    (hb : s0.grid.bs = some b) :
    bsContinue action r s0 ok f = .next (finish s0 (answered 0x110D r .ok 0 [] (f b (seen 0x110D r s0)))) := by
  simp only [Bool.and_eq_true] at h
  obtain ⟨⟨hr, hp⟩, -⟩ := h
  have hb : (seen 0x110D r s0).grid.bs = some b := by rw [seen_grid, hb]
  refine runOp_yes hr ((chk_passes hp _).trans ?_)
  simp only [hb]
  rfl

/-- Settles O20: each request reaches its chapter and passes the checks of its row; a hand-over is answered now where its
check has passed, and later where it is pending. -/
theorem gridBsComplete : Obligations.GridBsComplete := by
  refine ⟨fun r s0 h => ?setMode, fun r s0 h => ?group, fun r s0 h => ?load,
    fun r s0 h b hb => bsContinue_done h hb, fun r s0 h b hb => bsContinue_done h hb,
    fun r s0 h b hb => bsContinue_done h hb, fun r s0 h => ?abort, fun r s0 h => ?getState⟩
  case setMode =>
    intro p s s1 hs1
    simp only [Can.opGridSetMode, Bool.and_eq_true] at h
    obtain ⟨⟨hr, hp⟩, -⟩ := h
    simp only [s, p] at hs1
    by_cases hpass : hoPassed s1 = true
    · rw [if_pos hpass]
      refine runOp_yes hr ((chk_passes hp _).trans ?_)
      simp only [hs1]
      exact if_pos hpass
    · rw [if_neg hpass]
      refine runOp_later hr ((chk_passes hp _).trans ?_)
      simp only [hs1]
      exact if_neg hpass
  case getState =>
    obtain ⟨hr, hp⟩ := Bool.and_eq_true_iff.mp h
    exact runOp_yes hr (fourReserved_passes hp _)
  all_goals
    obtain ⟨hr, hp⟩ := Bool.and_eq_true_iff.mp h
    exact runOp_yes hr (chk_passes hp _)

end Sys2Proof.Machine
end

section
/-! The events of the grid: GF/CL, envelopes, hand-overs and the synchroniser (03_grid_events.md R65 to R81). A proof names the
row's own definition before it cites a rule about events: to meet `exec` with `ev` directly is slow. -/

namespace Sys2Proof.Machine

open Sys2Proof Sys2Proof.Safety

/-- Settles O21: each event reaches the device and finds what it is about (a hand-over, a time since when, a point of an
envelope) with its condition met, so that its effect follows. -/
theorem gridEventsComplete : Obligations.GridEventsComplete := by
  refine ⟨fun t pre h => ?clExit, fun t pre h => ?clLong, fun t env point pre h => ?exceeded, fun t env point pre h => ?timer,
    fun t pre h g hho => ?blendDone, fun t pre h g hho => ?pending, fun t pre h => ?gflLost, fun t pre h => ?syncOk,
    fun t pre h => ?closed⟩
  all_goals obtain ⟨hr, hc⟩ := live_of h
  case gflLost =>
    show execEvGridGflLost t pre = _
    exact ev_effect hr (if_pos (of_decide_eq_true hc))
  case blendDone =>
    show execHandoverBlendDone t pre = _
    simp only [hho] at hc
    refine ev_effect hr ?_
    simp only [hho]
    exact if_pos (of_decide_eq_true hc)
  case pending =>
    show execHandoverPendingTimeout t pre = _
    simp only [hho] at hc
    refine ev_effect hr ?_
    simp only [hho]
    exact if_pos (of_decide_eq_true hc)
  case' clExit => show execGfClExit t pre = _
  case' clLong => show execEvGridClLong t pre = _
  case' exceeded => show execEnvelopePointExceeded t env point pre = _
  case' timer => show execEnvelopeTimerReset t env point pre = _
  case' syncOk => show execEvGridSyncOk t pre = _
  case' closed => show execSyncBreakerClosed t pre = _
  -- the other events are about a time since when or a point of an envelope; where there is none, their condition fails
  all_goals
    dsimp only at hc
    split at hc
    case h_2 => cases hc
    case h_1 hfound =>
      refine ev_effect hr ?_
      simp only [hfound]
      exact if_pos (by simpa using hc)

end Sys2Proof.Machine
end

section
/-! The events of a black-start program (03_grid_events.md R87 to R89). -/

namespace Sys2Proof.Machine

open Sys2Proof Sys2Proof.Safety

/-- An event that is a reaction-table class leaves the set and the program of the grid events alone. -/
theorem grid_raiseClass (cls code detail : Nat) (data : Bytes) (s : State) :
    (raiseClass cls code detail data s).grid = s.grid :=
  congrArg (·.grid) (device_raise code detail data s)

theorem bsGrouped_action_ne {x : BsStep} (h : bsGrouped x = true) : x.action ≠ 0 ∧ x.action ≠ 3 := by
  simp only [bsGrouped, Bool.and_eq_true, Bool.or_eq_true, beq_iff_eq] at h
  omega

section
variable {s : State} {b : BsRun}

theorem bsGoes_iff (hb : s.grid.bs = some b) :
    Can.bsGoes s = true ↔ b.halted = false ∧ bsPaused s = false ∧ s.sys.state = .run := by
  simp [Can.bsGoes, hb, and_assoc]

/-! ### The start of a step (R87, R88) -/

/-- The step as it stands once it has begun. -/
def begunAt (b : BsRun) (s : State) : BsRun := { b with begun := true, started := s.now, execAt := some s.now }

section
variable (hb : s.grid.bs = some b) (hg : Can.bsGoes s = true) (hn : b.begun = false)
include hb hg hn

/-- END, or a program that is through, ends it. -/
theorem bsBegin_end (ha : (bsStepOf s b).action = 0) :
    bsBegin s = if b.step < s.grid.bsProg.length then raise 0x1116 0 [] { s with grid := { s.grid with bs := none } }
      else { s with grid := { s.grid with bs := none } } := by
  obtain ⟨hh, hp, hrun⟩ := (bsGoes_iff hb).mp hg
  simp [bsBegin, hb, hn, hh, hp, hrun, ha]

theorem bsBegin_group (hx : bsGrouped (bsStepOf s b) = true) : bsBegin s = bsGroupStart (begunAt b s) s := by
  obtain ⟨hh, hp, hrun⟩ := (bsGoes_iff hb).mp hg
  simp [bsBegin, hb, hn, hh, hp, hrun, hx, (bsGrouped_action_ne hx).1, begunAt]

theorem bsBegin_own (h0 : (bsStepOf s b).action ≠ 0) (h3 : (bsStepOf s b).action ≠ 3)
    (hx : bsGrouped (bsStepOf s b) = false) : bsBegin s = setBs (begunAt b s) s := by
  obtain ⟨hh, hp, hrun⟩ := (bsGoes_iff hb).mp hg
  simp [bsBegin, hb, hn, hh, hp, hrun, h0, h3, hx, begunAt]

/-- CLOSE pulses its ball, at once or once the synchroniser permits it; a synchroniser that does not run is started. -/
theorem bsBegin_close (h3 : (bsStepOf s b).action = 3) :
    bsBegin s = if ¬ (bsStepOf s b).arg0.testBit 31 = true then bsPulse (begunAt b s) (bsStepOf s b) s
      else if s.gfm.run.syncPerm = true then bsPulse (begunAt b s) (bsStepOf s b) s
      else if s.gfm.run.syncRun = true then setBs (begunAt b s) s
      else if s.sys.mode = .gf ∧ s.grid.sync.isSome = true then startSync (setBs (begunAt b s) s)
      else bsFail .badState (setBs (begunAt b s) s) := by
  obtain ⟨hh, hp, hrun⟩ := (bsGoes_iff hb).mp hg
  have hx : bsGrouped (bsStepOf s b) = false := by
    by_contra hx
    exact (bsGrouped_action_ne (by simpa using hx)).2 h3
  simp only [bsBegin, hb, hn, hh, hp, hrun, h3, hx, begunAt]
  rfl

end

/-- The partners that a group step asks: those of its group without the members that its retry leaves out. -/
def bsMembers (s : State) (b : BsRun) : List Nat :=
  ((List.range (bsGroupIds s (bsStepOf s b)).length).filter fun k => !b.excluded.contains k).map
    fun k => (bsGroupIds s (bsStepOf s b)).getD k 0

theorem bsGroupStart_refused {st : Status} (h : groupRefusal s (bsMembers s b) = some st) :
    bsGroupStart b s = bsFail st (setBs b s) := by
  simp only [bsMembers] at h
  simp only [bsGroupStart, h]

theorem bsGroupStart_sends (h : groupRefusal s (bsMembers s b) = none) :
    bsGroupStart b s = groupStart none true (bsMembers s b) (bsInner s (bsStepOf s b)).flatten
      (bsInner s (bsStepOf s b)).length (min (bsStepOf s b).timeout 10000000) (ep s 0x21).floor.toNat
      (setBs { b with txn := some s.part.nextTxn, result := none } s) := by
  simp only [bsMembers] at h ⊢
  simp only [bsGroupStart, h]

/-! ### The failure, the outcome and the completion of a step (R88, R89) -/

/-- A failure halts the program at its step, with EV_GRID_BS_FAIL and class 22. -/
theorem bsFail_halts (hb : s.grid.bs = some b) (st : Status) :
    bsFail st s = raiseClass 22 0x1115 b.step (le 2 st.code ++ le 2 0)
      (updRun Run.dropBsHandOver (setBs { b with halted := true, txn := none, result := none } s)) := by
  simp only [bsFail, hb]

theorem bsFail_setBs (st : Status) (b : BsRun) (s : State) :
    bsFail st (setBs b s) = raiseClass 22 0x1115 b.step (le 2 st.code ++ le 2 0)
      (updRun Run.dropBsHandOver (setBs { b with halted := true, txn := none, result := none } s)) :=
  bsFail_halts (s := setBs b s) rfl st

theorem grid_bsFail (hb : s.grid.bs = some b) (st : Status) :
    (bsFail st s).grid.bs = some { b with halted := true, txn := none, result := none } := by
  rw [bsFail_halts hb, grid_raiseClass]
  rfl

/-- A step without the outcome of a group command, or with enough executing members, goes on. -/
theorem bsOutcome_goes_on (hb : s.grid.bs = some b)
    (hm : ∀ st l, b.result = some (st, l) → st ≠ Status.aborted.code ∧ (bsStepOf s b).minMembers ≤ l.length) :
    bsOutcome s = s := by
  cases hres : b.result with
  | none => simp [bsOutcome, hb, hres]
  | some x =>
    obtain ⟨st, l⟩ := x
    obtain ⟨hst, hl⟩ := hm st l hres
    simp [bsOutcome, hb, hres, hst, Nat.not_lt.mpr hl]

section
variable {st : Nat} {l : List Nat} (hb : s.grid.bs = some b) (hh : b.halted = false) (hres : b.result = some (st, l))
include hb hh hres

theorem bsOutcome_partial (hst : st ≠ Status.aborted.code) (hl : l.length < (bsStepOf s b).minMembers) :
    bsOutcome s = bsFail .partial_ s := by
  simp [bsOutcome, hb, hh, hres, hst, hl]

/-- A group command that ends ST_ABORTED is not tried again after its retry, nor with too few members. -/
theorem bsOutcome_aborted (hst : st = Status.aborted.code)
    (hr : b.retried = true ∨ (bsIndexes s b l).length < (bsStepOf s b).minMembers) : bsOutcome s = bsFail .aborted s := by
  have hno : ¬ (¬ b.retried = true ∧ (bsStepOf s b).minMembers ≤ (bsIndexes s b l).length) := by
    rw [← Nat.not_lt]; tauto
  simp only [bsOutcome, hb, hh, hres, hst, if_true]
  exact if_neg hno

end

/-- The members that have executed a step's group command, as indexes of the group (R88). -/
def bsExecuted (s : State) (b : BsRun) : List Nat :=
  match b.result with
  | some (_, l) => bsIndexes s b l
  | none => []

theorem bsAdvance_next (hb : s.grid.bs = some b) (l : List Nat) :
    bsAdvance l s = raise 0x1114 b.step (le 32 (maskOf l)) (setBs { step := b.step + 1 } s) := by
  simp only [bsAdvance, hb]

section
variable {only : Option Nat} (hb : s.grid.bs = some b) (hg : Can.bsGoes s = true) (hn : b.begun = true)
  (ho : (only.isNone || only == some (bsStepOf s b).action) = true) (hm : bsMet s b (bsStepOf s b) = true)
include hb hg hn ho hm

/-- A step whose condition is met is complete, with EV_GRID_BS_STEP, and the program moves to the next. -/
theorem bsTryComplete_met (hout : bsOutcome s = s) :
    bsTryComplete only s =
      raise 0x1114 b.step (le 32 (maskOf (bsExecuted s b))) (setBs { step := b.step + 1 } s) := by
  obtain ⟨hh, hp, -⟩ := (bsGoes_iff hb).mp hg
  rw [← bsAdvance_next hb]
  simp only [bsTryComplete, hout, ite_self, hb, hn, hh, hp, ho, hm]
  rfl

/-- The lead's own step, which has no group command, names no executing members. -/
theorem bsTryComplete_alone (hres : b.result = none) :
    bsTryComplete only s = raise 0x1114 b.step (le 32 0) (setBs { step := b.step + 1 } s) := by
  have hnone : bsExecuted s b = [] := by simp only [bsExecuted, hres]
  rw [bsTryComplete_met hb hg hn ho hm (bsOutcome_goes_on hb (by simp [hres])), hnone]
  rfl

end

/-- A step that fails is not complete. -/
theorem bsTryComplete_fails {only : Option Nat} {st : Status} (hb : s.grid.bs = some b) (hg : Can.bsGoes s = true)
    (hout : bsOutcome s = bsFail st s) : bsTryComplete only s = bsFail st s := by
  obtain ⟨-, hp, -⟩ := (bsGoes_iff hb).mp hg
  simp [bsTryComplete, hp, hout, grid_bsFail hb]

/-- A CLOSE step is complete with its pulse (R87). -/
theorem bsMet_close {x : BsStep} {e : Nat} (h : x.action = 3) (he : b.pulseTo = some e) (hd : due s e = true) :
    bsMet s b x = true := by
  simp only [bsMet, h, he, hd]

/-- A WAIT_V step is complete once its condition has held for ARG1 (R87). -/
theorem bsMet_waitV {x : BsStep} {v : Nat} (h : x.action = 2) (hv : b.vSince = some v)
    (hd : due s (v + usT x.arg1) = true) : bsMet s b x = true := by
  simp only [bsMet, h, hv, hd]

/-- The pulses of CLOSE balls that are over have ended (22_balls.md R469). -/
def withoutDuePulses (s : State) : State :=
  { s with balls := { s.balls with close := s.balls.close.filter fun e => !due s e.2 } }

theorem execBsClosePulseEnd_eq (t : Nat) (s : State) :
    execBsClosePulseEnd t s = ev t s fun s => bsTryComplete (some 3) (withoutDuePulses s) := rfl

theorem bsTryComplete_none {only : Option Nat} (hb : s.grid.bs = none) : bsTryComplete only s = s := by
  simp [bsTryComplete, bsOutcome, hb]

end

/-- Settles O22: the program that goes on begins its step as its action says, a step whose condition is met is complete, and
one whose group command or time fails halts the program. -/
theorem bsEventsComplete : Obligations.BsEventsComplete := by
  refine ⟨fun t pre h b hb => ?start, fun t pre h b hb => ?complete, fun t pre hr hg b st l hb hres => ?failed,
    fun t pre h b hb => ?timeout, fun t pre h b hb => ?pulseEnd, fun t pre hr hb => ?noProgram, fun t pre h b hb => ?heldV⟩
  case start =>
    simp only [Can.bsStepStart, hb, Bool.and_eq_true, Bool.not_eq_true'] at h
    obtain ⟨⟨hr, hg⟩, hn⟩ := h
    have effect {u : State} (hu : bsBegin (advance t pre) = u) : exec (.bsStepStart t) pre = .next (finish pre u) := by
      show execBsStepStart t pre = _
      exact ev_effect hr hu
    refine ⟨fun hlen => effect ?through, fun hlen h0 => effect ?ends, fun h0 h3 hx => effect (bsBegin_own hb hg hn h0 h3 hx),
      fun h3 hgo => effect ((bsBegin_close hb hg hn h3).trans ?pulse),
      fun h3 hs hp hrun => effect ((bsBegin_close hb hg hn h3).trans ?waits),
      fun h3 hs hp hrun hm hsync => effect ((bsBegin_close hb hg hn h3).trans ?sync),
      fun h3 hs hp hrun hm => effect ((bsBegin_close hb hg hn h3).trans ?barred),
      fun hx st hst => effect ((bsBegin_group hb hg hn hx).trans ?refused),
      fun hx hst => effect ((bsBegin_group hb hg hn hx).trans ?group)⟩
    case through =>
      have h0 : (bsStepOf (advance t pre) b).action = 0 := by
        simp only [bsStepOf, List.getD_eq_default _ _ hlen]
      exact (bsBegin_end hb hg hn h0).trans (if_neg (Nat.not_lt.mpr hlen))
    case ends => exact (bsBegin_end hb hg hn h0).trans (if_pos hlen)
    case pulse =>
      obtain hs | hp := hgo
      · exact if_pos (by simp [hs])
      · simp only [hp, if_true, ite_self]
        rfl
    case waits =>
      simp only [hs, hp, hrun, if_true]
      rfl
    case sync =>
      simp only [hs, hp, hrun, hm, hsync, if_true, and_self]
      rfl
    case barred =>
      have hno : ¬ ((advance t pre).sys.mode = .gf ∧ (advance t pre).grid.sync.isSome = true) := by
        rintro ⟨hgf, hsome⟩
        obtain hm | hm := hm
        · exact hm hgf
        · simp [hm] at hsome
      simp only [hs, hp, hrun]
      exact (if_neg hno).trans (bsFail_setBs ..)
    case refused =>
      exact (bsGroupStart_refused (b := begunAt b (advance t pre)) hst).trans (bsFail_setBs ..)
    case group =>
      exact bsGroupStart_sends (b := begunAt b (advance t pre)) hst
  case complete =>
    simp only [Can.bsStepComplete, hb, Bool.and_eq_true, Bool.not_eq_true'] at h
    obtain ⟨⟨hr, hg⟩, hn, hres, hmet⟩ := h
    show execBsStepComplete t pre = _
    refine ev_effect hr (bsTryComplete_met hb hg hn rfl hmet (bsOutcome_goes_on hb fun st l hl => ?_))
    simpa [hl] using hres
  case failed =>
    obtain ⟨hh, -, -⟩ := (bsGoes_iff hb).mp hg
    have effect {st : Status} (hu : bsOutcome (advance t pre) = bsFail st (advance t pre)) :
        exec (.bsStepComplete t) pre = .next (finish pre (bsFail st (advance t pre))) := by
      show execBsStepComplete t pre = _
      exact ev_effect hr (bsTryComplete_fails hb hg hu)
    refine ⟨fun hst hl => ?partial_, fun hst hl => ?aborted⟩
    case partial_ => rw [effect (bsOutcome_partial hb hh hres hst hl), bsFail_halts hb]; rfl
    case aborted => rw [effect (bsOutcome_aborted hb hh hres hst hl), bsFail_halts hb]; rfl
  case timeout =>
    simp only [Can.bsStepTimeout, hb, Bool.and_eq_true, Bool.not_eq_true'] at h
    obtain ⟨hr, ⟨hn, hh⟩, hdue⟩ := h
    show execBsStepTimeout t pre = _
    refine ev_effect hr ?_
    simp only [hb, hn, hh, hdue, bsFail_halts hb]
    rfl
  case pulseEnd =>
    simp only [Can.bsClosePulseEnd, hb, Bool.and_eq_true, Bool.not_eq_true', beq_iff_eq, Option.isNone_iff_eq_none] at h
    obtain ⟨⟨hr, hg⟩, ⟨⟨hn, h3⟩, hres⟩, hdue⟩ := h
    show execBsClosePulseEnd t pre = _
    rw [execBsClosePulseEnd_eq]
    split at hdue
    case h_2 => cases hdue
    case h_1 e he =>
      exact ev_effect hr (bsTryComplete_alone (s := withoutDuePulses _) hb hg hn
        (beq_iff_eq.mpr (congrArg some h3.symm)) (bsMet_close h3 he hdue) hres)
  case noProgram =>
    show execBsClosePulseEnd t pre = _
    rw [execBsClosePulseEnd_eq]
    exact ev_effect hr (bsTryComplete_none (s := withoutDuePulses _) hb)
  case heldV =>
    simp only [Can.bsWaitVHeld, hb, Bool.and_eq_true, Bool.not_eq_true', beq_iff_eq, Option.isNone_iff_eq_none] at h
    obtain ⟨⟨hr, hg⟩, ⟨⟨hn, h2⟩, hres⟩, hdue⟩ := h
    show execBsWaitVHeld t pre = _
    split at hdue
    case h_2 => cases hdue
    case h_1 v hv =>
      exact ev_effect hr (bsTryComplete_alone hb hg hn (beq_iff_eq.mpr (congrArg some h2.symm)) (bsMet_waitV h2 hv hdue) hres)

end Sys2Proof.Machine
end

section
/-! The Brim engine's rows (04_brim_engine.md). -/

namespace Sys2Proof.Machine

open Sys2Proof Sys2Proof.Safety

/-- Settles O23: each request passes the checks of its row; a decision finds a word and the second change of a chain its
instant, while an output slot and a minimum time look themselves at what is pending on the channel. -/
theorem brimComplete : Obligations.BrimComplete := by
  refine ⟨fun r s0 h => ?setChannel, fun r s0 h => ?setArm, fun r s0 h => ?status,
    fun t ch upset slips pre h => ?decision, fun t ch pre hr => ?slot, fun t ch pre hr => ?minTime,
    fun t ch pre h => ?second⟩
  case setChannel =>
    obtain ⟨hr, hp⟩ := Bool.and_eq_true_iff.mp h
    exact runOp_yes hr (chk_passes hp _)
  case setArm =>
    simp only [Can.opBrimSetArm, Bool.and_eq_true, Option.isNone_iff_eq_none] at h
    obtain ⟨hr, ⟨hp, hcells⟩, hroom⟩ := h
    refine runOp_yes hr ((chk_passes hp _).trans ?_)
    simp only [hcells]
    exact chk_passes hroom _
  case status =>
    obtain ⟨hr, hp⟩ := Bool.and_eq_true_iff.mp h
    exact runOp_yes hr (oneByte_passes hp _)
  case decision =>
    intro s x ts w rest hinq
    show execBrimDecision t ch upset slips pre = _
    obtain ⟨hr, -⟩ := live_of h
    have hinq : (chan (advance t pre) ch).inq = (ts, w) :: rest := hinq
    refine ev_effect hr ?_
    simp only [hinq]
    rfl
  case slot =>
    show execBrimOutputSlot t ch pre = _
    exact ev_live hr
  case minTime =>
    show execMinTimeExpiry t ch pre = _
    exact ev_live hr
  case second =>
    intro s p hpend
    show execAnpcChainSecondChange t ch pre = _
    obtain ⟨hr, hc⟩ := live_of h
    have hpend : (chan (advance t pre) ch).pend = some p := hpend
    simp only [hpend] at hc
    refine ev_effect hr ?_
    simp only [hpend]
    exact if_pos (of_decide_eq_true hc)

end Sys2Proof.Machine
end


section
/-! The interpolation of an angle table (05_angle_tables_injection.md R126). -/

namespace Sys2Proof.Machine

open Sys2Proof

/-- Rounding (R7) treats both signs alike. -/
theorem rnd_neg (q : Rat) : rnd (-q) = -rnd q := by
  have half : ((0 : Rat) + 1 / 2).floor = 0 := by decide +kernel
  obtain h | rfl | h := lt_trichotomy q 0
  · simp [rnd, not_le.mpr h, h.le]
  · simp only [rnd, neg_zero, le_refl, if_true, half]
  · simp [rnd, not_le.mpr h, h.le]

theorem rnd_between_nonneg {q : Rat} {d : Int} (h0 : 0 ≤ q) (hd : q ≤ d) : 0 ≤ rnd q ∧ rnd q ≤ d := by
  simp only [rnd, h0, if_true]
  constructor
  · rw [Rat.le_floor_iff]
    push_cast
    linarith
  · rw [← Int.lt_add_one_iff, Rat.floor_lt_iff]
    push_cast
    linarith

theorem rnd_between_nonpos {q : Rat} {d : Int} (h0 : q ≤ 0) (hd : d ≤ q) : d ≤ rnd q ∧ rnd q ≤ 0 := by
  have h := rnd_between_nonneg (q := -q) (d := -d) (by linarith) (by push_cast; linarith)
  rw [rnd_neg] at h
  omega

/-- The rounded share of a step from one entry to the next stays on the way between them. -/
theorem entry_add_rnd_between (a b : Int) {w : Rat} (h0 : 0 ≤ w) (h1 : w ≤ 1) :
    min a b ≤ a + rnd (((b - a : Int) : Rat) * w) ∧ a + rnd (((b - a : Int) : Rat) * w) ≤ max a b := by
  obtain hab | hab := le_total a b
  · have hd : (0 : Rat) ≤ ((b - a : Int) : Rat) := by exact_mod_cast sub_nonneg.mpr hab
    have h := rnd_between_nonneg (mul_nonneg hd h0) (mul_le_of_le_one_right hd h1)
    omega
  · have hd : ((b - a : Int) : Rat) ≤ 0 := by exact_mod_cast sub_nonpos.mpr hab
    have h := rnd_between_nonpos (mul_nonpos_of_nonpos_of_nonneg hd h0) (by nlinarith)
    omega

/-- The neighbour of an entry: the last entry's is the first. -/
theorem next_entry {k : Nat} (h : k < 1024) : (k + 1) % 1024 = if k = 1023 then 0 else k + 1 := by
  split <;> omega

/-- Settles O54: the fields of α are a quotient and a remainder, and the share of the step lies between 0 and 1. -/
theorem angleInterpolation : Obligations.AngleInterpolation := by
  intro x alpha halpha entry k frac next d
  have hk : alpha / 2 ^ 22 = k := (Nat.shiftRight_eq_div_pow alpha 22).symm
  have hfrac : alpha % 2 ^ 22 = frac := (Nat.and_two_pow_sub_one_eq_mod alpha 22).symm
  have hnext : (k + 1) % 1024 = next := next_entry (by omega)
  have hvalue : angValue x alpha = entry k + rnd ((d : Rat) * frac / 2 ^ 22) := by
    simp only [angValue, hk, hfrac, hnext, d, entry]
  have hlt : (frac : Rat) < 2 ^ 22 := by
    rw [← hfrac]
    exact_mod_cast Nat.mod_lt alpha (by norm_num)
  refine ⟨hvalue, ?_⟩
  rw [hvalue, mul_div_assoc]
  exact entry_add_rnd_between (entry k) (entry next) (by positivity) (by linarith)

end Sys2Proof.Machine
end


section
/-! What OP_ANGLE_WRITE and OP_ANGLE_READ can do to the angle tables (05_angle_tables_injection.md R123, R127). -/

namespace Sys2Proof.Machine

open Sys2Proof Sys2Proof.Safety

/-! ### A request that is not executed -/

/-- A failing check refuses: the state stays. -/
theorem chk_refuses {l : List (Bool × Status × Nat)} (h : passes l = false) (k : Unit → Ans) (s : State) :
    (chk l k).leaves s = s := by
  have hs : (l.find? fun c => c.1).isSome = true := by simpa [passes] using h
  obtain ⟨c, hc⟩ := Option.isSome_iff_exists.mp hs
  simp only [chk, hc, Ans.leaves]

/-- What a refusal and the executed request both leave is left. -/
theorem chk_leaves {l : List (Bool × Status × Nat)} {k : Unit → Ans} {s : State} (h : (k ()).leaves s = s) :
    (chk l k).leaves s = s := by
  cases hp : passes l
  case false => exact chk_refuses hp k s
  case true => rwa [chk_passes hp]

theorem kept_ite_eq {c : Prop} [Decidable c] {a b s : State} (ha : c → kept a = kept s) (hb : ¬ c → kept b = kept s) :
    kept (if c then a else b) = kept s :=
  iteInduction (motive := fun u => kept u = kept s) ha hb

@[simp] theorem seen_failing (code : Nat) (r : Req) (s : State) : (seen code r s).pkt.failing = s.pkt.failing :=
  entered_failing code r s

section
variable {op : Op} {r : Req} {s : State}

/-- A request that is not chained and does not reach its chapter is held or refused. -/
theorem kept_runReq_of_not_reaches (ho : outside op = false) (hc : op.chained = false) (h : reaches op r s = false)
    (part body : Bytes → State → Ans) : kept (runReq op r s part body) = kept s := by
  unfold runReq
  extract_lets w s0 o s1 o1 pkt p
  have hs1 : s1 = seen op.code r s := by simp [s1, ho, s0, o, seen]
  have ho1 : o1 = { orig s r.org with aborting := none } := by rw [← seen_orig_self op.code r s, ← hs1]
  have hk : kept s1 = kept s := by rw [hs1, kept_seen]
  have refused {t : State} {a : Ans} (ht : kept t = kept s) (ha : a.leaves t = t) : kept (conclude w a t) = kept s := by
    rw [kept_conclude, ha, ht]
  refine kept_ite_eq (fun _reset => rfl) fun hreset => kept_ite_eq (fun _waits => kept_entered ..) fun hturn =>
    kept_ite_eq (fun _aborting => by simp [s0]) fun habort => kept_ite_eq (fun _deadChain => by simp [hk]) fun hdead =>
    kept_ite_eq (fun _otherChain => by simp [hk]) fun hother => kept_ite_eq (fun _unserved => refused hk rfl) fun hserved =>
    kept_ite_eq (fun _wrongState => refused hk rfl) fun hstate => kept_ite_eq (fun _failing => refused hk rfl) fun hfail =>
    kept_ite_eq (fun _unchained => refused hk (notLast_leaves ..)) fun hlast => absurd h ?_
  -- past every refusal the packet meets the conditions of `reaches`, one by one
  simp only [hs1, ho1, seen_sys, seen_failing, ho, hc] at hdead hother hserved hstate hfail hlast
  simp_all [reaches, otherChain, served, s0, o]

/-- Only a request that reaches its chapter and is not refused there is executed. -/
theorem kept_runOp_of_not_executed {body : Bytes → State → Ans} (ho : outside op = false) (hc : op.chained = false)
    (h : reaches op r s = true → (body r.payload (seen op.code r s)).leaves (seen op.code r s) = seen op.code r s) :
    ∃ t, runOp op r s body = .next t ∧ kept t = kept s := by
  cases hr : reaches op r s
  case false => exact ⟨_, rfl, (kept_finish ..).trans (kept_runReq_of_not_reaches ho hc hr _ _)⟩
  case true => exact ⟨_, runOp_reaches hr ho hc, by rw [kept_finish, kept_conclude, h hr, kept_seen]⟩

end

/-! ### Writing the entries of a bank -/

/-- A bank lists an entry where it is not zero (R123). -/
def setEntry (t : Tbl Int) (k : Nat) (v : Int) : Tbl Int := if v = 0 then t.del k else t.put k v

theorem getD_setEntry (t : Tbl Int) (k : Nat) (v : Int) (j : Nat) :
    (setEntry t k v).getD j 0 = if j = k then v else t.getD j 0 := by
  unfold setEntry
  by_cases hj : j = k
  · subst hj
    split <;> simp [*]
  · split <;> simp [hj, Tbl.getD_del_other, Tbl.getD_put_other]

/-- A bank after the values `f 0` to `f (n - 1)` have been written from entry `start` on. -/
def setEntries (t : Tbl Int) (start n : Nat) (f : Nat → Int) : Tbl Int :=
  (List.range n).foldl (fun t i => setEntry t (start + i) (f i)) t

theorem getD_setEntries (t : Tbl Int) (start n : Nat) (f : Nat → Int) (j : Nat) :
    (setEntries t start n f).getD j 0 = if start ≤ j ∧ j < start + n then f (j - start) else t.getD j 0 := by
  induction n with
  | zero =>
    have hno : ¬ (start ≤ j ∧ j < start + 0) := by omega
    rw [if_neg hno]
    rfl
  | succ n ih =>
    have hstep : setEntries t start (n + 1) f = setEntry (setEntries t start n f) (start + n) (f n) := by
      simp [setEntries, List.range_succ]
    rw [hstep, getD_setEntry, ih]
    by_cases hj : j = start + n
    · have hin : start ≤ j ∧ j < start + (n + 1) := by omega
      rw [if_pos hj, if_pos hin, hj, Nat.add_sub_cancel_left]
    · have hiff : (start ≤ j ∧ j < start + n) ↔ (start ≤ j ∧ j < start + (n + 1)) := by omega
      simp only [hj, if_false, hiff]

/-! ### The two commands -/

theorem tab_of_kept {a b : State} (h : kept a = kept b) : a.angle.tab = b.angle.tab := by
  have h1 : (kept a).angle.tab = (kept b).angle.tab := by rw [h]
  exact h1

@[simp] theorem seen_angle (code : Nat) (r : Req) (s : State) : (seen code r s).angle = s.angle := by
  unfold seen entered
  split <;> rfl

theorem angTab_seen (code : Nat) (r : Req) (s : State) (n : Nat) : angTab (seen code r s) n = angTab s n := by
  simp only [angTab, seen_angle]

theorem angTab_finish_answered (c : Nat) (r : Req) (st : Status) (d : Nat) (data : Bytes) (s u : State) (n : Nat) :
    angTab (finish s (answered c r st d data u)) n = angTab u n := by
  rw [angTab, tab_of_kept ((kept_finish ..).trans (kept_answered ..)), angTab]

/-- OP_ANGLE_WRITE that is executed writes the entries of its payload into the shadow bank (R127). -/
theorem exec_opAngleWrite {r : Req} {s0 : State} (h : Can.opAngleWrite r s0 = true) :
    let p := r.payload
    let s := seen 0x1302 r s0
    let n := u8 p 0
    exec (.opAngleWrite r) s0 = .next (finish s0 (answered 0x1302 r .ok 0 []
      (setAngTab n { angTab s n with
        sh := setEntries (angTab s n).sh (u16 p 2) (u16 p 4) fun i => i32 p (8 + 4 * i) } s))) := by
  obtain ⟨hr, hp⟩ := Bool.and_eq_true_iff.mp h
  exact runOp_yes hr (chk_passes hp _)

/-- OP_ANGLE_WRITE that is not executed writes nothing (R127). -/
theorem exec_opAngleWrite_refused {r : Req} {s : State} (h : Can.opAngleWrite r s = false) :
    ∃ t, exec (.opAngleWrite r) s = .next t ∧ kept t = kept s := by
  refine kept_runOp_of_not_executed rfl rfl fun hr => chk_refuses ?_ ..
  simpa only [Can.opAngleWrite, hr, Bool.true_and] using h

/-- OP_ANGLE_READ, executed or not, writes nothing (R127). -/
theorem exec_opAngleRead_kept (r : Req) (s : State) : ∃ t, exec (.opAngleRead r) s = .next t ∧ kept t = kept s :=
  kept_runOp_of_not_executed rfl rfl fun _ => chk_leaves rfl

/-- Settles O58: the command either is executed on the one table that it names, or keeps all tables as they are. -/
theorem angleWriteShadowOnly : Obligations.AngleWriteShadowOnly := by
  refine ⟨fun r s => ?write, fun r s => ?read⟩
  case read =>
    obtain ⟨t, ht, hk⟩ := exec_opAngleRead_kept r s
    exact ⟨t, ht, tab_of_kept hk⟩
  case write =>
    cases hcan : Can.opAngleWrite r s
    case false =>
      obtain ⟨t, ht, hk⟩ := exec_opAngleWrite_refused hcan
      exact ⟨t, ht, fun _ => tab_of_kept hk, fun h => absurd h (by simp)⟩
    case true =>
      refine ⟨_, exec_opAngleWrite hcan, fun h => absurd h (by simp), fun _ n => ?_⟩
      rw [angTab_finish_answered]
      intro x y
      by_cases hn : n = u8 r.payload 0
      · have hy : y = { x with sh := setEntries x.sh (u16 r.payload 2) (u16 r.payload 4) fun i => i32 r.payload (8 + 4 * i) } := by
          simp only [y, x, hn, angTab_setAngTab, angTab_seen]
        rw [hy]
        exact ⟨fun k => by simp only [getD_setEntries, hn, true_and], rfl, rfl, rfl, rfl, rfl⟩
      · have hy : y = x := (angTab_setAngTab_other _ _ hn).trans (angTab_seen ..)
        rw [hy]
        exact ⟨fun k => by simp only [hn, false_and, if_false], rfl, rfl, rfl, rfl, rfl⟩

end Sys2Proof.Machine
end

section
/-! The angle tables' rows (05_angle_tables_injection.md R124 to R129). -/

namespace Sys2Proof.Machine

open Sys2Proof Sys2Proof.Safety

/-- The copy-back of the oldest exchange gives its tables' shadow banks what their active banks hold (R128). -/
theorem copyBack_oldest {s : State} {m at_ : Nat} {rest : List (Nat × Nat)} (h : s.angle.copying = (m, at_) :: rest) :
    let s1 := (bitsOf 8 m).foldl (fun a n => setAngTab n { angTab a n with sh := (angTab a n).act } a) s
    copyBack s = raise 0x1301 m (le 8 at_) { s1 with angle := { s1.angle with copying := rest } } := by
  simp only [copyBack, h]

/-- Settles O24: each request passes the checks of its row; the bank exchange looks itself for the swaps whose tick has
come, and a copy-back finds one that runs. -/
theorem angleTablesComplete : Obligations.AngleTablesComplete := by
  refine ⟨fun r s0 h => ?setTable, fun r s0 => exec_opAngleWrite, fun r s0 h => ?read, fun r s0 h => ?swap,
    fun t pre hr => ?exchange, fun t pre h => ?copied, fun r s0 h => ?bind, fun r s0 h => ?unbind⟩
  case exchange =>
    show execAngleBankExchange t pre = _
    exact ev_live hr
  case copied =>
    intro s m at_ rest hcopying
    show execAngleCopyBackDone t pre = _
    obtain ⟨hr, -⟩ := live_of h
    exact ev_effect hr (copyBack_oldest hcopying)
  all_goals
    obtain ⟨hr, hp⟩ := Bool.and_eq_true_iff.mp h
    exact runOp_yes hr (chk_passes hp _)

end Sys2Proof.Machine
end

section
/-! The injection generator, the correlator and the scan (05_angle_tables_injection.md R131 to R139). -/

namespace Sys2Proof.Machine

open Sys2Proof Sys2Proof.Safety

/-- A run that is in its windows has one that ends at the tick of the event (R138). -/
theorem correlationWindowEnd_due {t : Nat} {pre : State} {i : InjRun} {c : Bytes} (h : Can.correlationWindowEnd t pre = true)
    (hi : (advance t pre).angle.inj = some i) (hc : (advance t pre).angle.injCfg = some c) :
    pre.pwr.inReset = false ∧ i.phase = 2 ∧ reached (advance t pre) (i.at_ + injTw (advance t pre)) = true := by
  simpa [Can.correlationWindowEnd, hi, hc, injTw] using h

/-- Settles O25: each request passes the checks of its row and finds the run or the report that it asks for, and each
event finds its condition. -/
theorem injectionComplete : Obligations.InjectionComplete := by
  refine ⟨fun r s0 h => ?set, fun r s0 h => ?start, fun t pre h => ?fadedIn, fun t pre h => ?window,
    fun t pre h => ?fadedOut, fun t pre h => ?report, fun r s0 h => ?stop, fun r s0 h => ?corr, fun r s0 h => ?read⟩
  case fadedIn =>
    intro s i hi
    show execInjectionFadeInDone t pre = _
    obtain ⟨hr, hc⟩ := live_of h
    have hi : (advance t pre).angle.inj = some i := hi
    simp only [hi] at hc
    refine ev_effect hr ?_
    simp only [hi]
    exact if_pos (of_decide_eq_true hc)
  case window =>
    intro s i c hi hc stop inWin later bad win j lost keptRun
    show execCorrelationWindowEnd t pre = _
    have hi : (advance t pre).angle.inj = some i := hi
    have hc : (advance t pre).angle.injCfg = some c := hc
    obtain ⟨hr, hdue⟩ := correlationWindowEnd_due h hi hc
    refine ev_effect hr ?_
    simp only [hi]
    refine (if_pos hdue).trans ?_
    simp only [windowEnd, hi, hc]
    rfl
  case fadedOut =>
    intro s i hi
    show execInjectionFadeOutDone t pre = _
    obtain ⟨hr, hc⟩ := live_of h
    have hi : (advance t pre).angle.inj = some i := hi
    simp only [hi] at hc
    refine ev_effect hr ?_
    simp only [hi]
    exact if_pos (of_decide_eq_true hc)
  case report =>
    intro s c i hrep
    show execScanReportReady t pre = _
    obtain ⟨hr, -⟩ := live_of h
    have hrep : (advance t pre).angle.reporting = some (c, i) := hrep
    refine ev_effect hr ?_
    simp only [hrep]
    rfl
  case stop =>
    intro s i hi
    have hi : (seen 0x1308 r s0).angle.inj = some i := hi
    simp only [Can.opAngleInjStop, Bool.and_eq_true] at h
    obtain ⟨⟨hr, hp⟩, -⟩ := h
    by_cases hphase : i.phase = 3
    · rw [if_pos hphase]
      refine runOp_yes hr ((fourReserved_passes hp _).trans ?_)
      simp only [hi]
      exact if_pos hphase
    · rw [if_neg hphase]
      refine runOp_yes hr ((fourReserved_passes hp _).trans ?_)
      simp only [hi]
      exact if_neg hphase
  case read =>
    intro s b hb
    have hb : (seen 0x130A r s0).angle.report = some b := hb
    simp only [Can.opAngleScanRead, Bool.and_eq_true] at h
    obtain ⟨⟨hr, hp⟩, -⟩ := h
    refine runOp_yes hr ((fourReserved_passes hp _).trans ?_)
    simp only [hb]
    rfl
  all_goals
    obtain ⟨hr, hp⟩ := Bool.and_eq_true_iff.mp h
    exact runOp_yes hr (chk_passes hp _)

end Sys2Proof.Machine
end

section
/-! What every step keeps: the interlock of the legs, the grid mode, FAULT_OUT_N and the queue (01_architecture.md Table 1.4,
06_legs_pwm.md R158, 22_balls.md R468). -/

namespace Sys2Proof.Machine

open Sys2Proof Sys2Proof.Safety

/-- The invariant speaks of legs, device state, FAULT_OUT_N and queue, so that supplies and reset cause may change freely. -/
theorem inv_withPwr {s : State} (h : Inv s) (p : Pwr) : Inv { s with pwr := p } :=
  ⟨h.gates, h.mode, h.faultOut, h.queue⟩

/-- The end of a command establishes what the invariant says of the device, and keeps what it says of the queue. -/
theorem inv_finish {a : State} (h : queueWf a) (b : State) : Inv (finish a b) where
  gates := gatesApart_finish a b
  mode := mode_finish a b
  faultOut := faultOut_finish a b
  queue := by rw [queueWf, pending_finish]; exact h

/-- A reset leaves the device in BOOT; the gates that it holds were apart before, and the queue stays. -/
theorem inv_resetDevice {s : State} (hg : gatesApart s) (hq : queueWf s) (cause supply : Nat) :
    Inv (resetDevice cause supply s) where
  gates := gatesApart_resetDevice hg cause supply
  mode := fun _ => rfl
  faultOut := rfl
  queue := hq

theorem inv_of_ends {s t : State} (hq : queueWf s) (h : Ends s (.next t)) : Inv t := by
  obtain ⟨b, hb⟩ := h
  rw [Host.Outcome.next.inj hb]
  exact inv_finish hq b

theorem inv_of_resets {s t : State} (hg : gatesApart s) (hq : queueWf s) (h : Resets s (.next t)) : Inv t := by
  obtain ⟨cause, supply, z, hz, hpending, hgates⟩ := h
  have hreset : Inv (resetDevice cause supply z) :=
    inv_resetDevice (hgates hg) (by rw [queueWf, hpending]; exact hq) cause supply
  obtain hz | ⟨p, hz⟩ := hz
  · exact Host.Outcome.next.inj hz ▸ hreset
  · exact Host.Outcome.next.inj hz ▸ inv_withPwr hreset p

/-- Every command keeps the interlock and the queue, and establishes the rest. -/
theorem exec_keeps_inv {c : Instr} {s t : State} (hg : gatesApart s) (hq : queueWf s) (h : exec c s = .next t) : Inv t := by
  have hends := exec_ends c s
  rw [h] at hends
  exact hends.elim (inv_of_ends hq) (inv_of_resets hg hq)

theorem queueWf_cons {s : State} {c : Instr} {rest : List Instr} (hp : s.pending = c :: rest) (hq : queueWf s) :
    queueWf { s with pending := rest } := by
  rw [queueWf, hp, List.all_cons, Bool.and_eq_true] at hq
  exact hq.2

/-- Settles O5: on an empty queue the state stays, and a command keeps the invariant by the way it ends. -/
theorem stepKeepsInv : Obligations.StepKeepsInv := by
  intro s t hinv hstep
  cases hp : s.pending with
  | nil =>
    simp only [step, hp] at hstep
    exact Host.Outcome.next.inj hstep ▸ hinv
  | cons c rest =>
    simp only [step, hp] at hstep
    exact exec_keeps_inv (s := { s with pending := rest }) hinv.gates (queueWf_cons hp hinv.queue) hstep

/-- Settles O3: right after reset no leg is listed, no command waits, and the device is in BOOT. -/
theorem invAtReset : Obligations.InvAtReset where
  gates := fun _ he => nomatch he
  mode := fun _ => rfl
  faultOut := rfl
  queue := rfl

end Sys2Proof.Machine
end

section
/-! The leg opcodes (06_legs_pwm.md R141 to R166). -/

namespace Sys2Proof.Machine

open Sys2Proof Sys2Proof.Safety

/-- Settles O26: each request reaches its chapter and passes the checks of its row; a commit finds no leg whose staged pair
is bad, and an enabling no leg that is refused or whose map is torn. -/
theorem legOpcodesComplete : Obligations.LegOpcodesComplete := by
  refine ⟨fun r s0 h => ?setConfig, fun r s0 h => ?sync, fun r s0 h => ?stage, fun r s0 h => ?commit, fun r s0 h => ?setCmp,
    fun r s0 h => ?disable, fun r s0 h => ?enable, fun r s0 h => ?status⟩
  case commit =>
    simp only [Can.opLegCommit, Bool.and_eq_true, Option.isNone_iff_eq_none] at h
    obtain ⟨hr, ⟨hp, hbad⟩, hfrom⟩ := h
    refine runOp_yes hr ((chk_passes hp _).trans ?_)
    simp only [hbad]
    exact chk_passes hfrom _
  case enable =>
    simp only [Can.opLegEnable, Bool.and_eq_true, Option.isNone_iff_eq_none] at h
    obtain ⟨hr, ⟨hp, hrefused⟩, htorn⟩ := h
    refine runOp_yes hr ((chk_passes hp _).trans ?_)
    simp only [hrefused, htorn]
    rfl
  case status =>
    obtain ⟨hr, hp⟩ := Bool.and_eq_true_iff.mp h
    exact runOp_yes hr (oneByte_passes hp _)
  all_goals
    obtain ⟨hr, hp⟩ := Bool.and_eq_true_iff.mp h
    exact runOp_yes hr (chk_passes hp _)

end Sys2Proof.Machine
end

section
/-! The events of a leg's carrier, edges and dead time (06_legs_pwm.md R144 to R154). A proof names the row's own definition
before it cites a rule about events: to meet `exec` with `ev` directly is slow. -/

namespace Sys2Proof.Machine

open Sys2Proof Sys2Proof.Safety

/-- Settles O27: each event reaches the device and finds its leg's anchor, instant or dead time due; a commutation and the end
of its watch look themselves at what there is to measure. -/
theorem legCarrierComplete : Obligations.LegCarrierComplete := by
  refine ⟨fun t leg_ pre h => ?anchor, fun t leg_ pre h => ?boundary, fun t leg_ pre h => ?apex, fun t leg_ pre h => ?edge,
    fun t leg_ pre h => ?deadTime, fun t leg_ level pre hr => ?node, fun t leg_ pre hr => ?watch⟩
  case node =>
    show execNodeCommutation t leg_ level pre = _
    exact ev_live hr
  case watch =>
    show execCommutationWatchEnd t leg_ pre = _
    exact ev_live hr
  all_goals obtain ⟨hr, hc⟩ := live_of h
  case boundary =>
    show execLegPeriodBoundary t leg_ pre = _
    exact ev_effect hr (if_neg (of_decide_eq_true hc))
  case apex =>
    show execLegApexUpdate t leg_ pre = _
    exact ev_effect hr (if_neg (of_decide_eq_true hc))
  case edge =>
    show execLegOutputEdge t leg_ pre = _
    exact ev_effect hr (if_neg (of_decide_eq_true hc))
  case' anchor =>
    intro s x a hx
    show execLegAnchorApplied t leg_ pre = _
    have hfound : (leg (advance t pre) leg_).nextSync = some a := hx
  case' deadTime =>
    intro s x high f hx c
    show execDeadTimeExpiry t leg_ pre = _
    have hfound : (leg (advance t pre) leg_).assertAt = some (high, f) := hx
  all_goals
    simp only [hfound] at hc
    refine ev_effect hr ?_
    simp only [hfound]
    exact if_pos (of_decide_eq_true hc)

end Sys2Proof.Machine
end

section
/-! The events of the refresh guard, the interlock, the comparators and mitten (06_legs_pwm.md R155 to R164). A proof names the
row's own definition before it cites a rule about events: to meet `exec` with `ev` directly is slow. -/

namespace Sys2Proof.Machine

open Sys2Proof Sys2Proof.Safety

/-- An event that a device held in reset meets too ends with its effect. -/
theorem evAny_effect {t : Nat} {s u : State} {f : State → State} (hf : f (advance t s) = u) :
    evAny t s f = .next (finish s u) := by
  rw [evAny, hf]

/-- Settles O28: each event finds what it is about (a time since when or until when, the start of a period, a pulse) with its
condition met, so that its effect on its leg or output follows. -/
theorem legGuardComplete : Obligations.LegGuardComplete := by
  refine ⟨fun t leg_ pre h => ?guard, fun t leg_ pre h => ?lowEnd, fun t leg_ pre h => ?blankEnd,
    fun t leg_ cmp pre h => ?compare, fun t out pre h => ?pulseEnd, fun t leg_ pre h => ?holdEnd,
    fun t leg_ pre h => ?waitEnd, fun t leg_ pre h => ?window⟩
  case holdEnd =>
    show execMitDelayHoldEnd t leg_ pre = _
    dsimp only [Can.mitDelayHoldEnd] at h
    split at h
    case h_2 => cases h
    case h_1 hfound =>
      refine evAny_effect ?_
      simp only [hfound]
      exact if_pos (of_decide_eq_true h)
  all_goals obtain ⟨hr, hc⟩ := live_of h
  case window =>
    show execOvlWinElapsed t leg_ pre = _
    exact ev_effect hr (if_pos (of_decide_eq_true hc))
  case' blankEnd =>
    intro s x e hx
    show execInterlockBlankEnd t leg_ pre = _
    have hfound : (leg (advance t pre) leg_).blankTo = some e := hx
    simp only [hfound] at hc
  case' waitEnd =>
    intro s x pat e hx
    show execMittenAssertWaitEnd t leg_ pre = _
    have hfound : (leg (advance t pre) leg_).wait = some (pat, e) := hx
    simp only [hfound] at hc
  -- the other events find it themselves; where there is none, their condition fails
  case' guard => show execRefreshGuard t leg_ pre = _
  case' lowEnd => show execRefreshLowEnd t leg_ pre = _
  case' compare => show execLegCompareFire t leg_ cmp pre = _
  case' pulseEnd => show execTrigOutPulseEnd t out pre = _
  case' guard | lowEnd | compare | pulseEnd =>
    dsimp only at hc
    split at hc
    case h_2 => cases hc
    rename_i hfound
  all_goals
    refine ev_effect hr ?_
    simp only [hfound]
    exact if_pos (of_decide_eq_true hc)

end Sys2Proof.Machine
end

section
/-! The events of the fault inputs, their records and MITTEN_N (07_gauntlet.md R169 to R181). A proof names the row's own
definition before it cites a rule about events: to meet `exec` with `ev` directly is slow. -/

namespace Sys2Proof.Machine

open Sys2Proof Sys2Proof.Safety

section
variable {s : State}

/-- The instant that a recognition refers to: for a blanked input the end of its window or of its
qualification, whichever is the later (R171). -/
def recogniseRef (x : FInput) : Nat := if x.inWindow then max (x.outlived.getD x.blankTo) (x.since + 8) else x.since

/-- An enabled input that has stood for its qualification, outside its blanking, is recognised (R169, R171). -/
theorem recogniseIf_due {i : Nat}
    (h : ((finput s i).asserted && !(finput s i).recognised && s.gnt.enable.testBit i && due s ((finput s i).since + 8) &&
      (!(finput s i).inWindow || due s ((finput s i).outlived.getD (finput s i).blankTo))) = true) :
    recogniseIf i s = recognise i (recogniseRef (finput s i)) (finput s i).inWindow (closeDue s) :=
  if_pos (by simpa [and_assoc] using h)

/-- A record that is due is open no more, and is closed as it stands (R172). -/
theorem closeDue_due {n at_ : Nat} (h : s.gnt.openRec = some (n, at_)) (hd : due s at_ = true) :
    closeDue s = closeRecord n { s with gnt := { s.gnt with openRec := none } } := by
  simp only [closeDue, h, hd, if_true]

theorem closeRecord_found {n : Nat} {r : FRec} (h : s.gnt.ring.find? (fun r => r.recNo == n) = some r) :
    closeRecord n s = raise 0x1501 r.cls (le 8 n) (journal 1 r.bytes s) := by
  simp only [closeRecord, h]

/-- A record that the ring has lost meanwhile says nothing at its close. -/
theorem closeRecord_lost {n : Nat} (h : s.gnt.ring.find? (fun r => r.recNo == n) = none) : closeRecord n s = s := by
  simp only [closeRecord, h]

end

/-- Settles O30: each event finds its input, its record or MITTEN_N as its condition says; a release looks itself at what the
input has been, and a record that is due closes with or without its entry in the ring. -/
theorem gauntletEventsComplete : Obligations.GauntletEventsComplete := by
  refine ⟨fun t i pre h => ?assert_, fun t i pre => rfl, fun t i pre h => ?recognised, fun t i pre h => ?blanking,
    fun t pre h => ?close, fun t pre h => ?mittenLow, fun t pre h => ?mittenQualified, fun t pre => rfl⟩
  case assert_ =>
    show execFaultInputAssert t i pre = _
    exact evAny_effect (if_neg (of_decide_eq_true h))
  case recognised =>
    show execFaultInputRecognised t i pre = _
    obtain ⟨hr, hc⟩ := live_of h
    exact ev_effect hr (recogniseIf_due hc)
  case blanking =>
    show execBlankingWindowEnd t i pre = _
    obtain ⟨hr, hc⟩ := live_of h
    exact ev_effect hr (if_pos (of_decide_eq_true hc))
  case close =>
    intro s n at_ hopen s1
    show (∀ r, _ → execFaultRecordClose t pre = _) ∧ (_ → execFaultRecordClose t pre = _)
    obtain ⟨hr, hc⟩ := live_of h
    have hopen : (advance t pre).gnt.openRec = some (n, at_) := hopen
    simp only [hopen] at hc
    refine ⟨fun r hring => ev_effect hr ?_, fun hring => ev_effect hr ?_⟩
    · exact (closeDue_due hopen hc).trans (closeRecord_found hring)
    · exact (closeDue_due hopen hc).trans (closeRecord_lost hring)
  case mittenLow =>
    show execMittenNAssert t pre = _
    exact evAny_effect (if_neg (of_decide_eq_true h))
  case mittenQualified =>
    show execMittenNQualified t pre = _
    obtain ⟨hr, hc⟩ := live_of h
    dsimp only at hc
    split at hc
    case h_2 => cases hc
    case h_1 hlow =>
      refine ev_effect hr ?_
      simp only [hlow]
      exact if_neg (of_decide_eq_true hc)

end Sys2Proof.Machine
end

section
/-! The Gauntlet's opcodes (07_gauntlet.md R168 to R190). -/

namespace Sys2Proof.Machine

open Sys2Proof Sys2Proof.Safety

/-- Settles O29: each request reaches its chapter and passes the checks of its row; a table that is loaded has no bad entry,
and a confirmation carries the CRC of the staged table (R177). -/
theorem gauntletOpcodesComplete : Obligations.GauntletOpcodesComplete := by
  refine ⟨fun r s0 h => ?setInputs, fun r s0 h => ?setBlank, fun r s0 h => ?records, fun r s0 h => ?unpin,
    fun r s0 h => ?load, fun r s0 h => ?loadFactory, fun r s0 h => ?confirm, fun r s0 h => ?table, fun r s0 h => ?raise_,
    fun r s0 h => ?input⟩
  case load =>
    simp only [Can.opGntLoadTable, Bool.and_eq_true, Option.isNone_iff_eq_none] at h
    obtain ⟨⟨hr, hp⟩, hbad⟩ := h
    refine runOp_yes hr ((chk_passes hp _).trans ?_)
    simp only [hbad]
    rfl
  case confirm =>
    intro p s t ht
    have ht : (seen 0x1506 r s0).gnt.staging = some t := ht
    simp only [Can.opGntConfirm, ht, Bool.and_eq_true] at h
    obtain ⟨⟨hr, hp⟩, hcrc⟩ := h
    refine runOp_yes hr ((chk_passes hp _).trans ?_)
    simp only [ht]
    exact if_neg (of_decide_eq_true hcrc)
  all_goals obtain ⟨hr, hp⟩ := Bool.and_eq_true_iff.mp h
  case input => exact runOp_yes hr (oneByte_passes hp _)
  all_goals exact runOp_yes hr (chk_passes hp _)

end Sys2Proof.Machine
end

section
/-! The chopper opcodes and events (07_gauntlet.md R182 to R186). A proof names an event's own definition before it cites a
rule about events: to meet `exec` with `ev` directly is slow. -/

namespace Sys2Proof.Machine

open Sys2Proof Sys2Proof.Safety

/-- Settles O31: each request passes the checks of its row; a sample finds a word that waits, an edge its instant due, and an
energy update a written chopper on a whole microsecond of a running timebase (R185). -/
theorem choppersComplete : Obligations.ChoppersComplete := by
  refine ⟨fun r s0 h => ?set, fun r s0 h => ?release, fun r s0 h => ?enable, fun t k pre h => ?sample,
    fun t k pre h => ?edge, fun t k pre h => ?energy⟩
  case sample =>
    intro s c inst w rest hword
    show execChopperSample t k pre = _
    obtain ⟨hr, -⟩ := live_of h
    have hword : (chop (advance t pre) k).inq = (inst, w) :: rest := hword
    refine ev_effect hr ?_
    simp only [hword]
    rfl
  case edge =>
    intro s lvl at_ hedge s1
    show execChopperEdge t k pre = _
    obtain ⟨hr, hc⟩ := live_of h
    have hedge : (chop (advance t pre) k).edge = some (lvl, at_) := hedge
    simp only [hedge] at hc
    refine ev_effect hr ?_
    simp only [hedge]
    exact if_neg (of_decide_eq_true hc)
  case energy =>
    show execChopperEnergyUpdate t k pre = _
    obtain ⟨hr, hc⟩ := live_of h
    exact ev_effect hr (if_neg (of_decide_eq_true hc))
  all_goals
    obtain ⟨hr, hp⟩ := Bool.and_eq_true_iff.mp h
    exact runOp_yes hr (chk_passes hp _)

end Sys2Proof.Machine
end

section
/-! Supply warnings, resets, their release and the start of an image (19_supplies_reset.md R424 to R432, 20_security.md R439,
08_acquisition.md R211). A proof names an event's own definition before it cites a rule about events: to meet `exec` with
`ev` directly is slow. -/

namespace Sys2Proof.Machine

open Sys2Proof Sys2Proof.Safety

/-- An event with no tick of its own ends with its effect. -/
theorem ev0_effect {s u : State} {f : State → State} (hf : f s = u) : ev0 s f = .next (finish s u) := by
  rw [ev0, hf]

/-- Settles O11: the request passes the checks of its row, each event finds its condition, and a reset meets the device in
every state; the end of a warning looks itself at whether its supply was in warning. -/
theorem suppliesComplete : Obligations.SuppliesComplete := by
  refine ⟨fun r s0 h => ?setSag, fun t supply pre h => ?warningStart, fun t supply pre => ?warningEnd,
    fun supply s0 h => ?sagReset, fun s0 => ?porReset, fun s0 => ?powerOn, fun twinId oscSet pre h => ?release,
    fun pre h => ?slot, fun t pre h => ?idleEntry⟩
  case setSag =>
    obtain ⟨hr, hp⟩ := Bool.and_eq_true_iff.mp h
    exact runOp_yes hr (chk_passes hp _)
  case warningStart =>
    show execSupplyWarningStart t supply pre = _
    exact evAny_effect (if_neg (of_decide_eq_true h))
  case warningEnd =>
    show execSupplyWarningEnd t supply pre = _
    exact evAny_effect rfl
  case sagReset =>
    show execSagReset supply s0 = _
    exact if_neg (by omega)
  case porReset | powerOn => rfl
  case release =>
    show execResetRelease twinId oscSet pre = _
    exact ev0_effect (if_neg (of_decide_eq_true h))
  case slot =>
    show execBootSlotSelection pre = _
    exact ev0_effect (if_neg (of_decide_eq_true h))
  case idleEntry =>
    show execIdleEntryFromBoot t pre = _
    obtain ⟨hr, hc⟩ := live_of h
    exact ev_effect hr (if_neg (of_decide_eq_true hc))

end Sys2Proof.Machine
end

section
/-! The filter chains' opcodes and events (09_filters.md R218 to R232). A proof names an event's own definition before it cites
a rule about events: to meet `exec` with `ev` directly is slow. -/

namespace Sys2Proof.Machine

open Sys2Proof Sys2Proof.Safety

/-- Settles O33: each request reaches its chapter and passes the checks of its row, an apply on a staged header besides those
of the set it stages (R224); an input word and a delivery find the word that waits, and a change looks itself at whether it is
pending. -/
theorem filtComplete : Obligations.FiltComplete := by
  refine ⟨fun r s0 h => ?setChain, fun r s0 h => ?loadCoef, fun r s0 h => ?apply, fun t n pre hr => ?change,
    fun r s0 h => ?status, fun t n pre h => ?input, fun t n pre h => ?delivered⟩
  case apply =>
    dsimp only
    intro hdr hstaged
    simp only [Can.opFiltApply, hstaged, Bool.and_eq_true] at h
    obtain ⟨hr, hp, hset⟩ := h
    refine runOp_yes hr ((chk_passes hp _).trans ?_)
    simp only [hstaged]
    exact chk_passes hset _
  case change =>
    show execFilterChangeEffective t n pre = _
    exact ev_live hr
  case input =>
    intro s0 inst w rest hword
    show execFilterInputWord t n pre = _
    obtain ⟨hr, -⟩ := live_of h
    have hword : (fchain (advance t pre) n).inq = (inst, w) :: rest := hword
    refine ev_effect hr ?_
    simp only [hword]
    rfl
  case delivered =>
    intro s x kind inst w rest hfly
    show execFilterOutputDelivered t n pre = _
    obtain ⟨hr, -⟩ := live_of h
    have hfly : (fchain (advance t pre) n).fly = (kind, inst, w) :: rest := hfly
    refine ev_effect hr ?_
    simp only [hfly]
    rfl
  all_goals obtain ⟨hr, hp⟩ := Bool.and_eq_true_iff.mp h
  case status => exact runOp_yes hr (oneByte_passes hp _)
  all_goals exact runOp_yes hr (chk_passes hp _)

end Sys2Proof.Machine
end

section
/-! The lane opcodes (10_hanel_lanes.md R234 to R250). -/

namespace Sys2Proof.Machine

open Sys2Proof Sys2Proof.Safety

/-- Settles O36: each request reaches its chapter, passes the checks of its row and finds its quad not clock gated; a slip
answers a gated quad with zero fields itself. -/
theorem laneOpcodesComplete : Obligations.LaneOpcodesComplete := by
  refine ⟨fun r s0 h => ?setQuad, fun r s0 h => ?setConfig, fun r s0 h => ?train, fun r s0 h => ?slip,
    fun r s0 h => ?sleep, fun r s0 h => ?wake, fun r s0 h => ?prbs, fun r s0 h => ?status⟩
  case train =>
    obtain ⟨hr, hp⟩ := Bool.and_eq_true_iff.mp h
    exact runOp_yes hr (chk_passes hp _)
  case slip =>
    obtain ⟨hr, hp⟩ := Bool.and_eq_true_iff.mp h
    intro p s n bad pos e
    by_cases hg : gated s 0x2007 n = true
    · rw [if_pos hg]
      exact runOp_yes hr ((chk_passes hp _).trans (if_pos hg))
    · rw [if_neg hg]
      exact runOp_yes hr ((chk_passes hp _).trans (if_neg hg))
  case sleep =>
    simp only [Can.opLanePowerSleep, Bool.and_eq_true] at h
    obtain ⟨hr, ⟨⟨hcells, hp⟩, hrole⟩, hg⟩ := h
    refine runOp_yes hr ((chk_passes hcells _).trans ((chk_passes hp _).trans ((chk_passes hrole _).trans ?_)))
    exact writeOf_running (of_decide_eq_true hg) _
  case wake =>
    simp only [Can.opLanePowerWake, Bool.and_eq_true] at h
    obtain ⟨hr, hp, hg⟩ := h
    exact runOp_yes hr ((chk_passes hp _).trans (writeOf_running (of_decide_eq_true hg) _))
  case status =>
    simp only [Can.opLaneGetStatus, Bool.and_eq_true] at h
    obtain ⟨⟨hr, hp⟩, hg⟩ := h
    exact runOp_yes hr ((oneByte_passes hp _).trans (giveOf_running (of_decide_eq_true hg) _))
  case' setQuad => simp only [Can.opLaneSetQuad, Bool.and_eq_true] at h
  case' setConfig => simp only [Can.opLaneSetConfig, Bool.and_eq_true] at h
  case' prbs => simp only [Can.opLanePrbs, Bool.and_eq_true] at h
  all_goals
    obtain ⟨hr, hp, hg⟩ := h
    exact runOp_yes hr ((chk_passes hp _).trans (writeOf_running (of_decide_eq_true hg) _))

end Sys2Proof.Machine
end

section
/-! The training of a lane (10_hanel_lanes.md R236 to R246, 11_strands_cells.md R256). A proof names an event's own definition
before it cites a rule about events: to meet `exec` with `ev` directly is slow. -/

namespace Sys2Proof.Machine

open Sys2Proof Sys2Proof.Safety

/-- Settles O37: each event reaches the device and finds its lane, its training state or its deadline as its condition says;
a measured hop delay looks itself at the hop that it is of. -/
theorem laneTrainingComplete : Obligations.LaneTrainingComplete := by
  refine ⟨fun t n pre h => ?attempt, fun t n pre h => ?advance_, fun t n pre h => ?timeout, fun t n pre h => ?retry,
    fun t n block pre h => ?block_, fun t n bad pre h => ?align, fun t n delays pre hr => ?hopDelay,
    fun t n pre h => ?signal, fun t n pre h => ?exitBurst⟩
  case hopDelay =>
    show execHopDelayMeasured t n delays pre = _
    exact ev_live hr
  all_goals obtain ⟨hr, hc⟩ := live_of h
  case retry =>
    show execLaneRetryWaitEnd t n pre = _
    dsimp only at hc
    split at hc
    case h_2 => cases hc
    case h_1 hwait =>
      refine ev_effect hr ?_
      simp only [hwait]
      exact if_pos (of_decide_eq_true hc)
  case' attempt => show execLaneTrainAttemptStart t n pre = _
  case' advance_ => show execLaneTrainStateAdvance t n pre = _
  case' align => show execAlignSearchStep t n bad pre = _
  case' signal => show execRxSignalDetect t n pre = _
  case' timeout => show execLaneTrainTimeout t n pre = _
  case' block_ => show execTrainBlockReceived t n block pre = _
  case' exitBurst => show execExitBurstReceived t n pre = _
  case timeout | block_ | exitBurst => exact ev_effect hr (if_pos (of_decide_eq_true hc))
  all_goals exact ev_effect hr (if_neg (of_decide_eq_true hc))

end Sys2Proof.Machine
end

section
/-! The drops, bonds, power states and traffic of a lane (10_hanel_lanes.md R234 to R249, 11_strands_cells.md R254). A proof
names an event's own definition before it cites a rule about events: to meet `exec` with `ev` directly is slow. -/

namespace Sys2Proof.Machine

open Sys2Proof Sys2Proof.Safety

/-- A quad whose PLL was locked loses the lock, drops its four lanes and says so (R247). -/
theorem quadLost_locked {q : Nat} {s : State} (h : s.lane.qpllLock.testBit q = true) :
    quadLost q s = raise 0x2006 q [] (dropLanes (quadLanes q) 3
      { s with lane := { s.lane with qpllLock := s.lane.qpllLock - 2 ^ q } }) :=
  if_neg (not_not_intro h)

/-- Settles O38: each event reaches the device and finds its lane, bond or quad as its condition says; a received block looks
itself at what its lane hears. -/
theorem laneEventsComplete : Obligations.LaneEventsComplete := by
  refine ⟨fun t n cause pre h => ?drop, fun t n pre h => ?signalLoss, fun t quad pre h => ?pllLoss,
    fun t quad pre h => ?pllRelock, fun t pair pre h => ?rejoin, fun t pair pre h => ?marker, fun t n pre h => ?idleEntry,
    fun t n pre h => ?idleExit, fun t n block pre hr => ?block_, fun t n blocks pre h => ?transmit,
    fun t n pre h => ?wakeDone, fun t n pre h => ?prbsLoss⟩
  case block_ =>
    show execControlBlockReceived t n block pre = _
    exact ev_live hr
  case pllLoss =>
    show execQuadPllLoss t quad pre = _
    simp only [Can.quadPllLoss, Bool.and_eq_true, Bool.not_eq_true', decide_eq_true_eq] at h
    obtain ⟨⟨hr, hquad⟩, hlock⟩ := h
    exact ev_effect hr ((if_neg (by omega)).trans (quadLost_locked hlock))
  all_goals obtain ⟨hr, hc⟩ := live_of h
  case' drop => show execLaneDrop t n cause pre = _
  case' signalLoss => show execLaneSignalLoss t n pre = _
  case' pllRelock => show execQuadPllRelock t quad pre = _
  case' rejoin => show execBondLaneRejoin t pair pre = _
  case' marker => show execBondMarkerTx t pair pre = _
  case' idleEntry => show execElectricalIdleEntry t n pre = _
  case' idleExit => show execElectricalIdleExit t n pre = _
  case' transmit => show execLaneFrameTransmit t n blocks pre = _
  case' wakeDone => show execLaneWakeDone t n pre = _
  case' prbsLoss => show execPrbsLockLoss t n pre = _
  all_goals exact ev_effect hr (if_neg (of_decide_eq_true hc))

end Sys2Proof.Machine
end

section
/-! The strands and cells on the device's side (11_strands_cells.md R255 to R277). A proof names an event's own definition
before it cites a rule about events: to meet `exec` with `ev` directly is slow. -/

namespace Sys2Proof.Machine

open Sys2Proof Sys2Proof.Safety

/-- A request about one cell goes on with its partner id where the entry is a cell's (17_opcodes.md R386). -/
theorem cellId_passes {p : Bytes} {s : State} (h : passes [lenIs p 4, (decide (4095 < u16 p 0), .badParam, 0), rsv p 2 2,
    ((partner s (u16 p 0)).type != 1, .badParam, 0)] = true) (k : Nat → Ans) : cellId p s k = k (u16 p 0) := by
  unfold cellId
  exact chk_passes h _

/-- Settles O39: each request reaches its chapter and passes the checks of its row; a cycle boundary and an acknowledgement
that is due find their condition, and a frame or a NODE_SET looks itself at what its strand or cell has. -/
theorem strandsComplete : Obligations.StrandsComplete := by
  refine ⟨fun r s0 h => ?setConfig, fun r s0 h => ?clear, fun r s0 h => ?status, fun r s0 h => ?cell_,
    fun t pre h => ?cycle, fun t id pre hr => ?setTx, fun t id pre h => ?ackTimeout, fun t n frame pre hr => ?ack,
    fun t n frame pre hr => ?telemetry, fun t n frame pre hr => ?fault⟩
  case setConfig =>
    obtain ⟨hr, hp⟩ := Bool.and_eq_true_iff.mp h
    exact runOp_yes hr (chk_passes hp _)
  case clear | cell_ =>
    obtain ⟨hr, hp⟩ := Bool.and_eq_true_iff.mp h
    exact runOp_yes hr (cellId_passes hp _)
  case status =>
    obtain ⟨hr, hp⟩ := Bool.and_eq_true_iff.mp h
    exact runOp_yes hr (oneByte_passes hp _)
  case cycle =>
    show execTelemetryCycleBoundary t pre = _
    obtain ⟨hr, hc⟩ := live_of h
    exact ev_effect hr (if_neg (of_decide_eq_true hc))
  case ackTimeout =>
    intro s c f n e hpend
    show execNodeSetAckTimeout t id pre = _
    obtain ⟨hr, hdue⟩ := live_of h
    have hpend : (cell (advance t pre) id).setPend = some (f, n, e) := hpend
    simp only [hpend] at hdue
    refine ev_effect hr ?_
    simp only [hpend]
    exact if_neg (of_decide_eq_true hdue)
  case' setTx => show execNodeSetTx t id pre = _
  case' ack => show execNodeAckReceived t n frame pre = _
  case' telemetry => show execTelemetryReceived t n frame pre = _
  case' fault => show execFaultFrameReceived t n frame pre = _
  all_goals exact ev_live hr

end Sys2Proof.Machine
end

section
/-! The events of a cell node (11_strands_cells.md R254 to R275). They reach a node whether or not the device is held in
reset. A proof names an event's own definition before it cites a rule about events: to meet `exec` with `nodeEv` directly is
slow. -/

namespace Sys2Proof.Machine

open Sys2Proof Sys2Proof.Safety

/-- An event at a node that has been powered up ends with what the node makes of it, once its bridges and ports have caught
up with time and before its own slots go out. -/
theorem nodeEv_effect {t n : Nat} {pre : State} {f : Node → State → Node} {x y : Node}
    (hx : Tbl.find n (advance t pre).node = some x)
    (hf : f (((x.settleBridges (advance t pre).now).portLimits (advance t pre).now 0).portLimits (advance t pre).now 1)
      (advance t pre) = y) :
    nodeEv t n pre f = .next (finish pre
      (setNode n ((y.ownSlots (advance t pre).now 0).ownSlots (advance t pre).now 1) (advance t pre))) := by
  refine evAny_effect ?_
  simp only [hx, hf]

/-- Settles O40: each event finds its node, and an execution, an expiry or an echo its condition besides; a telemetry slot
finds the cycle that it is in, and a power-up makes the node anew. -/
theorem nodesComplete : Obligations.NodesComplete := by
  refine ⟨fun t n port cmd pre h => ?command, fun t n pre h => ?execute, fun t n port frame pre h => ?sync,
    fun t n pre h => ?syncTimeout, fun t n port frame pre h => ?set, fun t n pre h => ?slot, fun t n fault pre h => ?fault,
    fun t n pre h => ?watch, fun t n port block pre h => ?echo, fun t n port block pre h => ?forward, fun t n pre => ?power⟩
  case power =>
    show execNodePowerUp t n pre = _
    exact evAny_effect rfl
  case slot =>
    intro s x hx now cycle k hk
    show execNodeTelemetrySlot t n pre = _
    have hx : Tbl.find n (advance t pre).node = some x := hx
    have hk : (if x.configured = true then slotCycle (advance t pre) x
      else some ((x.time (advance t pre).now / 32000 : Nat) : Int)) = some k := hk
    simp only [Can.nodeTelemetrySlot, hx, hk] at h
    refine evAny_effect ?_
    simp only [hx, hk]
    exact if_neg (of_decide_eq_true h)
  case fault =>
    intro s x hx f
    show execNodeFaultDetect t n fault pre = _
    have hx : Tbl.find n (advance t pre).node = some x := hx
    refine evAny_effect ?_
    simp only [hx]
    rfl
  all_goals
    intro s x0 hx
    have hx : Tbl.find n (advance t pre).node = some x0 := hx
  case' command => show execNodeCommandReceived t n port cmd pre = _
  case' sync => show execNodeSyncReceived t n port frame pre = _
  case' syncTimeout => show execNodeSyncTimeout t n pre = _
  case' set => show execNodeSetReceived t n port frame pre = _
  case' forward => show execNodeBlockForward t n port block pre = _
  case' execute =>
    show execNodeEventExecute t n pre = _
    simp only [Can.nodeEventExecute, hx] at h
  case' watch =>
    show execNodeWatchExpiry t n pre = _
    simp only [Can.nodeWatchExpiry, hx] at h
  case' echo =>
    show execNodeEchoRequest t n port block pre = _
    simp only [Can.nodeEchoRequest, hx] at h
  case execute | watch | echo => exact nodeEv_effect hx (if_neg (of_decide_eq_true h))
  all_goals exact nodeEv_effect hx rfl

end Sys2Proof.Machine
end

section
/-! What a step runs and that it always answers (00_scope.md, 16_command_transport.md R366, 22_balls.md R468). -/

namespace Sys2Proof.Machine

open Sys2Proof Sys2Proof.Safety

/-- Settles O1: the front of the queue is what `step` matches on. -/
theorem stepRunsTheFront : Obligations.StepRunsTheFront := by
  refine ⟨fun c rest s hp => ?front, fun s hp => ?idle⟩
  all_goals simp only [step, hp]

/-- A command leaves the queue of waiting commands as it was, whether it ends as commands do or with a reset. -/
theorem exec_answers (c : Instr) (s : State) : ∃ t, exec c s = .next t ∧ t.pending = s.pending := by
  obtain ⟨b, hb⟩ | ⟨cause, supply, z, hz, hpending, -⟩ := exec_ends c s
  · exact ⟨_, hb, pending_finish s b⟩
  · obtain hz | ⟨p, hz⟩ := hz
    · exact ⟨_, hz, hpending⟩
    · exact ⟨_, hz, hpending⟩

/-- Settles O4: every command answers, and a step is a command on the queue's rest or, on an empty queue, nothing. -/
theorem everyCommandAnswers : Obligations.EveryCommandAnswers := by
  refine ⟨exec_answers, fun s => ?_⟩
  cases hp : s.pending with
  | nil => exact ⟨s, stepRunsTheFront.2 s hp, hp⟩
  | cons c rest =>
    obtain ⟨t, ht, hpending⟩ := exec_answers c { s with pending := rest }
    exact ⟨t, (stepRunsTheFront.1 c rest s hp).trans ht, hpending⟩

/-- Where FAULT_OUT_N stands right, it is deasserted exactly in ARMED and RUN. -/
theorem faultOut_iff {t : State} (h : faultOutRight t) :
    t.gnt.faultOut = false ↔ t.sys.state = .armed ∨ t.sys.state = .run := by
  rw [h]
  cases t.sys.state <;> decide

/-- After every command FAULT_OUT_N stands right, whatever state it found: the end of a command sets it, and a reset asserts it
in BOOT. -/
theorem exec_faultOut {c : Instr} {s t : State} (h : exec c s = .next t) : faultOutRight t := by
  have hreset (cause supply : Nat) (z : State) : faultOutRight (resetDevice cause supply z) := rfl
  obtain ⟨b, hb⟩ | ⟨cause, supply, z, hz, -, -⟩ := exec_ends c s
  · exact Host.Outcome.next.inj (h.symm.trans hb) ▸ faultOut_finish s b
  · obtain hz | ⟨p, hz⟩ := hz
    · exact Host.Outcome.next.inj (h.symm.trans hz) ▸ hreset cause supply z
    · exact Host.Outcome.next.inj (h.symm.trans hz) ▸ hreset cause supply z

/-- Settles O6: FAULT_OUT_N stands right after every command. -/
theorem faultOutFollowsTheState : Obligations.FaultOutFollowsTheState :=
  ⟨rfl, fun _ _ _ h => faultOut_iff (exec_faultOut h)⟩

end Sys2Proof.Machine
end

section
/-! Which opcodes a 2.x version serves (16_command_transport.md R374, 17_opcodes.md R389). -/

namespace Sys2Proof.Machine

open Sys2Proof Sys2Proof.Safety

/-- A packet in its turn, of an opcode that is not served to its originator, is refused (17_opcodes.md R387). -/
theorem runReq_unserved {op : Op} {r : Req} {s : State} (ht : Can.inTurn op r s = true) (ho : outside op = false)
    (hs : served (orig s r.org) op = false) (part body : Bytes → State → Ans) :
    runReq op r s part body = answered op.code r .badOpcode 0 [] (seen op.code r s) := by
  simp only [Can.inTurn, ho, Bool.false_or, Bool.and_eq_true, Bool.not_eq_true', bne_iff_ne, ne_eq] at ht
  obtain ⟨⟨hr, ht⟩, ⟨ha, hd⟩, hx⟩ := ht
  exact runReq_refuses hr ht ho ha hd hx (.inl ⟨hs, rfl⟩) part body

/-- Every opcode is served at 3.x. -/
theorem served_of_3 {o : Orig} (h : o.ver / 16 = 3) (op : Op) : served o op = true := by
  simp [served, h]

/-- What the rows of the request table say of 2.x is what R389 lists: the three families and the nine opcodes. -/
theorem served_2 {i : Instr} {op : Op} {r : Req} (h : Can.requestOf i = some (op, r)) {o : Orig} (hv : o.ver / 16 = 2) :
    served o op = !Can.notIn2 op.code := by
  cases i
  all_goals cases h
  all_goals simp [served, hv, Can.notIn2]

/-- No opcode that a 2.x version does not serve is HELLO or RESYNC. -/
theorem outside_of_notIn2 {op : Op} (h : Can.notIn2 op.code = true) : outside op = false := by
  by_contra ho
  simp only [outside, Bool.not_eq_false, Bool.or_eq_true, beq_iff_eq] at ho
  obtain ho | ho := ho <;> rw [ho] at h <;> exact absurd h (by decide)

/-- Settles O52: R389's list is what the rows of the table say, and an opcode that is not served is refused in its turn. -/
theorem unservedOpcodeIsRefused : Obligations.UnservedOpcodeIsRefused := by
  intro i op r s h
  refine ⟨fun ht hv hn => ?_, fun hv hn => by rw [served_2 h hv, hn]; rfl, fun hv => served_of_3 hv op⟩
  have hs : served (orig s r.org) op = false := by rw [served_2 h hv, hn]; rfl
  have ho : outside op = false := outside_of_notIn2 hn
  have hi : i ≠ .opSecImageLoad r := by
    rintro rfl
    cases requestOf_imageLoad h
    exact absurd hn (by decide)
  obtain ⟨row, part, body, hexec, hcode, -, hserved⟩ := requestOf_runsAs h hi
  have hrow : Can.inTurn row r s = true := (inTurn_congr hcode).trans ht
  refine hexec s _ ?_ ((pwr_of_kept (kept_answered ..)).trans (seen_pwr ..))
  rw [← hcode]
  exact runReq_unserved hrow (by simpa only [outside, hcode] using ho) ((hserved _).trans hs) part body

end Sys2Proof.Machine
end

section
/-! The counters (21_test_diagnostics.md R453, R456, R457). -/

namespace Sys2Proof.Machine

open Sys2Proof Sys2Proof.Safety

section
variable {op obj off n : Nat} {s : State}

theorem count_gated (h : gated s op obj = true) : count op obj off n s = s := if_pos h

/-- The table of the counters after a count: the counter stands at what it has come to, at most 0xFFFF_FFFF. -/
theorem cnt_count (h : gated s op obj = false) :
    (count op obj off n s).cnt = s.cnt.put (cKey op obj off) (min 0xFFFFFFFF (c32 s op obj off + n)) := by
  simp only [count, h, Bool.false_eq_true, if_false]
  split <;> rfl

/-- A counter that stays below its maximum, or stood there already, is not listed. -/
theorem test_count_of_not_reached (h : gated s op obj = false)
    (hr : ¬ (c32 s op obj off < 0xFFFFFFFF ∧ 0xFFFFFFFF ≤ c32 s op obj off + n)) :
    (count op obj off n s).test = s.test := by
  have hno : ¬ (c32 s op obj off < 0xFFFFFFFF ∧ min 0xFFFFFFFF (c32 s op obj off + n) = 0xFFFFFFFF) := by omega
  simp only [count, h, hno]
  rfl

/-- A counter that comes to its maximum is listed, where the list has a place (R456). -/
theorem test_count_of_reached (h : gated s op obj = false) (hl : c32 s op obj off < 0xFFFFFFFF)
    (hn : 0xFFFFFFFF ≤ c32 s op obj off + n) :
    (count op obj off n s).test = { s.test with
      sat := if 256 ≤ s.test.sat.length then s.test.sat else s.test.sat ++ [cKey op obj off]
      listOvf := s.test.listOvf || decide (256 ≤ s.test.sat.length), satNew := s.test.satNew ++ [cKey op obj off] } := by
  have hyes : c32 s op obj off < 0xFFFFFFFF ∧ min 0xFFFFFFFF (c32 s op obj off + n) = 0xFFFFFFFF := by omega
  simp only [count, h, hyes]
  simp

end

/-- Settles O56: the counter's value and its place in the list, by whether the count brings it to its maximum. -/
theorem countersSaturate : Obligations.CountersSaturate := by
  refine fun op obj off n s => ⟨count_gated, fun h => ⟨?value, fun k hk => ?others, fun hmax => ?stopped, fun hl hn hroom =>
    ?listed, fun hl hn hfull => ?overflow⟩⟩
  case value => simp only [c32, cnt_count h, Tbl.getD_put_self]
  case others => rw [cnt_count h, Tbl.getD_put_other hk]
  case stopped => rw [test_count_of_not_reached h (by omega)]
  case listed => rw [test_count_of_reached h hl hn]; exact if_neg (by omega)
  case overflow =>
    rw [test_count_of_reached h hl hn]
    exact ⟨if_pos hfull, by simp [hfull]⟩

end Sys2Proof.Machine
end

section
/-! The sequence check of a packet that the QSPI host pushes (16_command_transport.md R366, R371, R377). -/

namespace Sys2Proof.Machine

open Sys2Proof Sys2Proof.Safety

/-- The flight of a packet of the QSPI host. -/
def pushedFlight (b : Bytes) (s : State) : Flight :=
  { org := 0, seq := u32 b 4, opcode := u16 b 2, tag := u16 b 8, bytes := b.length,
    ackReq := (u8 b 1).testBit 0, abortOnErr := (u8 b 1).testBit 3, since := s.now }

/-- The state after a packet of the QSPI host has entered flight. -/
def withPushed (b : Bytes) (s : State) : State :=
  let s1 := setOrig 0 { orig s 0 with path := none } s
  { s1 with pkt := { s1.pkt with inFlight := s.pkt.inFlight ++ [pushedFlight b s] } }

section
variable {b : Bytes} {s : State}

theorem withPushed_inFlight : (withPushed b s).pkt.inFlight = s.pkt.inFlight ++ [pushedFlight b s] := rfl

theorem withPushed_expected : (orig (withPushed b s) 0).expected = (orig s 0).expected := by
  have h : orig (withPushed b s) 0 = { orig s 0 with path := none } := orig_setOrig_self 0 _ s
  rw [h]

/-- What a sound packet has passed: checks 1 to 5, and it is neither a reply nor an event. -/
theorem sound_checks (h : Can.sound b = true) :
    ¬ (b.length < 16 ∨ crc16 (b.take 14) ≠ u16 b 14) ∧ ¬ (u16 b 10 > 4080 ∨ b.length ≠ 20 + u16 b 10) ∧
      ¬ crc32c (b.take (b.length - 4)) ≠ u32 b (b.length - 4) ∧ ¬ (u8 b 0 / 16 ≠ 2 ∧ u8 b 0 / 16 ≠ 3) ∧
      bits (u8 b 1) 7 5 = 0 ∧ bits (u16 b 12) 15 12 = 0 ∧
      (u8 b 1).testBit 1 = false ∧ (u8 b 1).testBit 4 = false := by
  simp only [Can.sound, Bool.and_eq_true, Bool.or_eq_true, Bool.not_eq_true', decide_eq_true_eq, beq_iff_eq] at h
  obtain ⟨⟨⟨⟨⟨⟨⟨⟨⟨hlen, hhdr⟩, hmax⟩, hsize⟩, hchk⟩, hver⟩, hflags⟩, htarget⟩, hreply⟩, hown⟩ := h
  exact ⟨not_or.mpr ⟨by omega, not_not_intro hhdr⟩, by omega, not_not_intro hchk, by omega, hflags, htarget, hreply, hown⟩

variable (hb : Can.sound b = true)
include hb

/-- HELLO and RESYNC pass check 6 always and move no reference (R371). -/
theorem arrive_exempt (he : u16 b 2 = 1 ∨ u16 b 2 = 2) : arrive 0 none b s = withPushed b s := by
  have he : (u16 b 2 == 1 || u16 b 2 == 2) = true := by simpa using he
  obtain ⟨hhdr, hsize, hchk, hver, hflags, htarget, hreply, hown⟩ := sound_checks hb
  simp only [arrive, hhdr, hsize, hchk, hver, hflags, htarget, hreply, hown, ne_eq, not_true_eq_false, false_or,
    false_and, he, if_true, if_false, Bool.false_eq_true]
  rfl

section
variable (h1 : u16 b 2 ≠ 1) (h2 : u16 b 2 ≠ 2)
include h1 h2

/-- In order, or without a reference, a request enters flight and EXPECTED follows its SEQ (R371). -/
theorem arrive_in_order (he : (orig s 0).expected = none ∨ ∃ e, (orig s 0).expected = some e ∧ sdiff (u32 b 4) e = 0) :
    arrive 0 none b s =
      withPushed b (setOrig 0 { orig s 0 with expected := some ((u32 b 4 + 1) % 2 ^ 32), gapSaid := false } s) := by
  have hno : (u16 b 2 == 1 || u16 b 2 == 2) = false := by simpa using ⟨h1, h2⟩
  obtain ⟨hhdr, hsize, hchk, hver, hflags, htarget, hreply, hown⟩ := sound_checks hb
  simp only [arrive, hhdr, hsize, hchk, hver, hflags, htarget, hreply, hown, ne_eq, not_true_eq_false, false_or,
    false_and, hno, if_false, Bool.false_eq_true]
  obtain he | ⟨e, he, hd⟩ := he
  · simp only [he]
    rfl
  · simp only [he, hd, if_true]
    rfl

/-- A gap or a duplicate is counted and answered, and does not enter flight (R371). -/
theorem inbound_arrive_out_of_order {e : Nat} (he : (orig s 0).expected = some e) (hd : sdiff (u32 b 4) e ≠ 0) :
    inbound (arrive 0 none b s) = inbound s := by
  have hno : (u16 b 2 == 1 || u16 b 2 == 2) = false := by simpa using ⟨h1, h2⟩
  obtain ⟨hhdr, hsize, hchk, hver, hflags, htarget, hreply, hown⟩ := sound_checks hb
  simp only [arrive, hhdr, hsize, hchk, hver, hflags, htarget, hreply, hown, ne_eq, not_true_eq_false, false_or,
    false_and, hno, he, hd, if_false, Bool.false_eq_true]
  split
  case isTrue _gap =>
    split
    case isTrue _said => exact inbound_hostSeq ..
    case isFalse =>
      have hsaid : inbound (setOrig 0 { orig (hostSeq 0 0x4C s) 0 with gapSaid := true } (hostSeq 0 0x4C s)) =
          inbound (hostSeq 0 0x4C s) := inbound_setOrig rfl
      rw [inbound_refuseArrival, hsaid, inbound_hostSeq]
  case isFalse _duplicate =>
    rw [inbound_foldl _ _ _ fun a k => inbound_replay 0 k a, inbound_refuseArrival, inbound_hostSeq]

end

end

/-- Settles O53: a sound packet for which there is room comes to check 6, which lets it enter flight or not. -/
theorem sequenceCheck : Obligations.SequenceCheck := by
  intro t b pre s o seq flight hr hready hlen hroom hb
  have hroomy : ¬ (¬ s.win.ready = true ∨ 512 ≤ s.pkt.inFlight.length ∨ rxFree s < b.length) := by
    simp only [hready, not_true_eq_false, false_or]
    omega
  refine ⟨arrive 0 none b s, ?push, fun he => ?exempt, fun h1 h2 he => ?inOrder, fun h1 h2 e he hd => ?outOfOrder⟩
  case push =>
    show execQspiPushPacket t b pre = _
    exact ev_effect hr (if_neg hroomy)
  case exempt => rw [arrive_exempt hb he]; exact ⟨rfl, withPushed_expected⟩
  case inOrder =>
    rw [arrive_in_order hb h1 h2 he]
    refine ⟨rfl, withPushed_expected.trans ?_⟩
    rw [orig_setOrig_self]
  case outOfOrder => exact inbound_arrive_out_of_order hb h1 h2 he hd

end Sys2Proof.Machine
end

section
/-! HELLO, RESYNC, REPLAY and the registers of the host window (16_command_transport.md R368 to R383, 19_supplies_reset.md
R429). A proof names an event's own definition before it cites a rule about events: to meet `exec` with `ev` directly is
slow. -/

namespace Sys2Proof.Machine

open Sys2Proof Sys2Proof.Safety

/-- HELLO is executed on the state in which its packet is in flight: it ends abort and chain itself (R374). -/
theorem runOp_hello {op : Op} {r : Req} {s s1 : State} {st : Status} {d : Nat} {data : Bytes} {body : Bytes → State → Ans}
    (h : reaches op r s = true) (hop : op.code = 1) (hc : op.chained = false)
    (hb : body r.payload (entered op.code r s) = .yes s1 st d data) :
    runOp op r s body = .next (finish s (answered op.code r st d data s1)) := by
  have ho : outside op = true := by simp [outside, hop]
  have h2 : op.code ≠ 2 := by omega
  rw [runOp, runReq_outside h ho hc, hb, conclude_yes h2]

section
variable {s : State}

theorem txAvail_iff : txAvail s = true ↔ (orig s 0).outq ≠ [] := by
  simp [txAvail]

/-- Without waiting replies nothing is admitted. -/
theorem admitWaiting_none {fuel id : Nat} (h : (orig s id).waitq = []) : admitWaiting fuel id s = s := by
  cases fuel with
  | zero => rfl
  | succ n => simp only [admitWaiting, h]

/-- FLUSH_TX empties the pull queue; a reply that then enters it is cause TX_AVAIL (R379). -/
theorem flushTx_eq : flushTx s =
    let s2 := admitWaiting 512 0 (setOrig 0 { orig s 0 with outq := [] } s)
    if (orig s2 0).outq = [] then s2 else { s2 with win := { s2.win with intCause := s2.win.intCause ||| 1 } } := by
  have hempty : ¬ txAvail (setOrig 0 { orig s 0 with outq := [] } s) = true := by
    rw [txAvail_iff, orig_setOrig_self]
    exact not_not_intro rfl
  simp only [flushTx, refill, hempty, Bool.false_eq_true, not_false_eq_true, true_and, txAvail_iff, ite_not]

theorem flushTx_no_reply (h : (orig s 0).waitq = []) : flushTx s = setOrig 0 { orig s 0 with outq := [] } s := by
  have hstay : admitWaiting 512 0 (setOrig 0 { orig s 0 with outq := [] } s) = setOrig 0 { orig s 0 with outq := [] } s :=
    admitWaiting_none (by rw [orig_setOrig_self]; exact h)
  rw [flushTx_eq, hstay]
  exact if_pos (by rw [orig_setOrig_self])

theorem kick_eq : kick s =
    if (orig s 0).outq = [] then s else { s with win := { s.win with intCause := s.win.intCause ||| 1 } } := by
  simp only [kick, txAvail_iff, ite_not]

end

/-- Settles O7: each request reaches its chapter and passes the checks of its row; a register access acts on its own register. -/
theorem recoveryAndWindowComplete : Obligations.RecoveryAndWindowComplete := by
  refine ⟨fun r s0 h => ?hello, fun r s0 h => ?resync, fun r s0 h => ?replay, fun t addr data pre hr => ?write,
    fun t ones hw pre hr => ?cause, fun t ones starting pre hr => ?sag, fun t pre hr => ?abort, fun t pre hr => ?flush,
    fun t pre hr => ?kick⟩
  case hello =>
    obtain ⟨hr, hp⟩ := Bool.and_eq_true_iff.mp h
    exact runOp_hello hr rfl rfl (chk_passes hp _)
  case resync =>
    obtain ⟨hr, hp⟩ := Bool.and_eq_true_iff.mp h
    show execOpSysResync r s0 = _
    rw [execOpSysResync, runReq_outside hr rfl rfl, fourReserved_passes hp]
    rfl
  case replay =>
    obtain ⟨hr, hp⟩ := Bool.and_eq_true_iff.mp h
    exact runOp_later hr (chk_passes hp _)
  case write =>
    show execQspiWriteWindow t addr data pre = _
    exact ev_live hr
  case cause =>
    show execHwIntCauseW1c t ones hw pre = _
    exact ev_live hr
  case sag =>
    show execHwSagWarnSeenClear t ones starting pre = _
    exact ev_live hr
  case abort =>
    show execClearAbort t pre = _
    exact ev_live hr
  case flush =>
    show (_ → execFlushTx t pre = _) ∧ execFlushTx t pre = _
    exact ⟨fun hwait => ev_effect hr (flushTx_no_reply hwait), ev_effect hr flushTx_eq⟩
  case kick =>
    show execKick t pre = _
    exact ev_effect hr kick_eq

end Sys2Proof.Machine
end

section
/-! The transactions of the QSPI port and the chain timer (16_command_transport.md R369, R377, R381 to R383). A proof names an
event's own definition before it cites a rule about events: to meet `exec` with `ev` directly is slow. -/

namespace Sys2Proof.Machine

open Sys2Proof Sys2Proof.Safety

/-- Settles O8: each transaction reaches the device; the chain timer finds the open chain that its condition names. -/
theorem qspiPortComplete : Obligations.QspiPortComplete := by
  refine ⟨fun read pre hr => ?window, fun read pre hr => ?status, fun t bytes pre hr => ?push, fun t clocked pre hr => ?pull,
    fun t pre hr => ?bad, fun t org pre h => ?chain⟩
  case window =>
    show execHwTickLoRead read pre = _
    exact ev_live hr
  case status =>
    show execQspiReadStatus read pre = _
    exact ev_live hr
  case push =>
    show execQspiPushPacket t bytes pre = _
    exact ev_live hr
  case pull =>
    show execQspiPullPacket t clocked pre = _
    exact ev_live hr
  case bad =>
    show execQspiBadTransaction t pre = _
    exact ev_live hr
  case chain =>
    intro s o c hchain
    show execChainContinuationTimeout t org pre = _
    obtain ⟨hr, hc⟩ := live_of h
    have hchain : (orig (advance t pre) org).chain = some c := hchain
    simp only [hchain] at hc
    refine ev_effect hr ?_
    simp only [hchain]
    exact if_pos (of_decide_eq_true hc)

end Sys2Proof.Machine
end

section
/-! The network time opcodes (13_plant_network_time.md R308 to R322). -/

namespace Sys2Proof.Machine

open Sys2Proof Sys2Proof.Safety

/-- A domain that is LOCKED, less than STEP_TH away from network time, is switched to (R314). -/
theorem trySwitch_near {d : Nat} {s : State} (hlocked : (domain s d).state = 3)
    (hnear : ¬ ((domain s d).cfg.stepTh : Rat) ≤ |domT (domain s d) s.now - ntAt s s.now|) :
    trySwitch d s = .ok (domSwitch d s) := by
  simp only [trySwitch, hlocked, hnear, ne_eq, not_true_eq_false, if_false]

/-- Settles O14: each request reaches its chapter and passes the checks of its row, a switch besides those of R314; a step of time
finds the request that waits, at a period boundary of its leg. -/
theorem timeOpcodesComplete : Obligations.TimeOpcodesComplete := by
  refine ⟨fun r s0 h => ?setDomain, fun r s0 h => ?getDomain, fun r s0 h => ?get, fun r s0 h => ?setActive,
    fun r s0 h => ?step, fun t pre h => ?stepped, fun r s0 h => ?setPps⟩
  case setActive =>
    simp only [Can.opTimeSetActive, Bool.and_eq_true, passes_cons] at h
    obtain ⟨hr, hlen, hrsv, hdom, hlocked, hnear, hnil⟩ := h
    have hp : passes [lenIs r.payload 4, rsv r.payload 1 3, outOf (u8 r.payload 0) 0 1 0] = true := by
      simp only [passes_cons, hlen, hrsv, hdom, hnil, and_self]
    refine runOp_yes hr ((oneByte_passes hp _).trans ?_)
    simp only [trySwitch_near (by simpa using hlocked) (of_decide_eq_false hnear)]
    rfl
  case stepped =>
    intro s d l hpend old x s1 s1' s2 nt
    show execTimeStepExecuted t pre = _
    obtain ⟨hr, hc⟩ := live_of h
    have hpend : (advance t pre).time.stepPend = some (d, l) := hpend
    simp only [hpend] at hc
    refine ev_effect hr ?_
    simp only [hpend]
    exact if_neg (of_decide_eq_true hc)
  all_goals obtain ⟨hr, hp⟩ := Bool.and_eq_true_iff.mp h
  case getDomain => exact runOp_yes hr (oneByte_passes hp _)
  all_goals exact runOp_yes hr (chk_passes hp _)

end Sys2Proof.Machine
end

section
/-! The events of PPS, PTP and the slew (13_plant_network_time.md R309 to R316). A proof names an event's own definition before
it cites a rule about events: to meet `exec` with `ev` directly is slow. -/

namespace Sys2Proof.Machine

open Sys2Proof Sys2Proof.Safety

/-- Settles O15: each event reaches the device and finds its condition. -/
theorem timeEventsComplete : Obligations.TimeEventsComplete := by
  refine ⟨fun t pre h => ?second, fun t pre h => ?pulseEnd, fun t pre h => ?edge, fun t dom pre h => ?timeout,
    fun t dom kind pre h => ?transmit, fun t pre h => ?slewDone, fun t port_ head msg pre h => ?message⟩
  all_goals obtain ⟨hr, hc⟩ := live_of h
  case' second => show execPpsOutSecond t pre = _
  case' pulseEnd => show execPpsOutPulseEnd t pre = _
  case' edge => show execPpsInEdge t pre = _
  case' slewDone => show execTimeSlewDone t pre = _
  case' timeout => show execPtpAnnounceTimeout t dom pre = _
  case' transmit => show execPtpMasterMessageTx t dom kind pre = _
  case' message => show execPtpMessageReceived t port_ head msg pre = _
  case timeout | transmit | message => exact ev_effect hr (if_neg (of_decide_eq_true hc))
  all_goals exact ev_effect hr (if_pos (of_decide_eq_true hc))

end Sys2Proof.Machine
end

section
/-! The clock opcodes, the clock gates and the clock outputs (18_timing.md R406 to R421). -/

namespace Sys2Proof.Machine

open Sys2Proof Sys2Proof.Safety

-- one proof at a time, until the kernel has caught up: proofs that wait for it side by side each hold a thread and its stack
set_option Elab.async false

/-- Settles O16: each request reaches its chapter and passes the checks of its row; a gating that takes effect finds its mask, and
an edge its output. -/
theorem clockOpcodesComplete : Obligations.ClockOpcodesComplete := by
  refine ⟨fun r s0 h => ?select, fun r s0 h => ?setPll, fun r s0 h => ?setRefout, fun r s0 h => ?gate,
    fun t pre h => ?gated_, fun r s0 h => ?status, fun t out pre h => ?edge⟩
  case setRefout =>
    simp only [Can.opClkSetRefout, Bool.and_eq_true] at h
    obtain ⟨hr, hp, hg⟩ := h
    exact runOp_yes hr ((chk_passes hp _).trans (writeOf_running (of_decide_eq_true hg) _))
  case gated_ =>
    intro s m hpend
    show execClockGateEffective t pre = _
    obtain ⟨hr, -⟩ := live_of h
    have hpend : (advance t pre).clk.gatePend = some m := hpend
    refine ev_effect hr ?_
    simp only [hpend]
    rfl
  case edge =>
    intro s x hx
    show execRefoutEdge t out pre = _
    obtain ⟨hr, hc⟩ := live_of h
    have hx : Tbl.find out (advance t pre).clk.refout = some x := hx
    simp only [hx] at hc
    refine ev_effect hr ?_
    simp only [hx]
    exact if_neg (of_decide_eq_true hc)
  all_goals
    obtain ⟨hr, hp⟩ := Bool.and_eq_true_iff.mp h
    exact runOp_yes hr (chk_passes hp _)

end Sys2Proof.Machine
end

section
/-! The events of the timebase (18_timing.md R403 to R415). A proof names an event's own definition before it cites a rule about
events: to meet `exec` with `ev` directly is slow. -/

namespace Sys2Proof.Machine

open Sys2Proof Sys2Proof.Safety

/-! ### The tick of an event leaves the supplies and the reset as they are -/

theorem pwr_foldl {α : Type} (l : List α) (g : State → α → State) (s : State) (h : ∀ a x, (g a x).pwr = a.pwr) :
    (l.foldl g s).pwr = s.pwr :=
  List.foldlRecOn (motive := fun a => a.pwr = s.pwr) l g rfl fun a ha x _ => (h a x).trans ha

theorem pwr_chainAbort (n : Nat) (s : State) : (chainAbort n s).pwr = s.pwr := by
  unfold chainAbort
  split
  case h_1 => rfl
  case h_2 x _ =>
    split
    · exact (pwr_of_kept (kept_raise ..)).trans rfl
    · rfl

theorem pwr_chainDisturb (n : Nat) (s : State) : (chainDisturb n s).pwr = s.pwr := by
  unfold chainDisturb
  dsimp only
  split
  · exact pwr_chainAbort n s
  · exact pwr_chainAbort n s

theorem pwr_takeConv (n : Nat) (c : ConvCfg) (s : State) : (takeConv n c s).pwr = s.pwr := by
  unfold takeConv
  extract_lets x old governed restart src y s1 s2
  have h2 : s2.pwr = s.pwr := by simp only [s2, s1, apply_ite State.pwr, setConv_rest, ite_self]
  split
  · rfl
  · split
    · exact (pwr_foldl _ _ _ fun a k => pwr_chainDisturb k a).trans h2
    · split
      · exact (pwr_foldl _ _ _ fun a k => pwr_chainAbort k a).trans h2
      · exact h2

theorem pwr_advance (t : Nat) (s : State) : (advance t s).pwr = s.pwr := by
  have htick : (tickTo t s).pwr = s.pwr := by
    unfold tickTo
    split <;> rfl
  refine (pwr_foldl _ _ _ fun a e => ?_).trans htick
  split
  · split
    · exact pwr_takeConv ..
    · rfl
  · rfl

/-- An event that says itself that it does not reach a device held in reset ends with its effect. -/
theorem ev_effect_unless {t : Nat} {pre u : State} {c : State → Prop} [DecidablePred c] {f : State → State}
    (hc : ¬ ((advance t pre).pwr.inReset = true ∨ c (advance t pre))) (hf : f (advance t pre) = u) :
    ev t pre (fun s => if s.pwr.inReset = true ∨ c s then s else f s) = .next (finish pre u) := by
  have hr : pre.pwr.inReset = false := by
    rw [← pwr_advance t pre]
    simpa using fun h => hc (.inl h)
  exact ev_effect hr ((if_neg hc).trans hf)

/-- Settles O17: each event reaches the device and finds its condition. -/
theorem timebaseEventsComplete : Obligations.TimebaseEventsComplete := by
  refine ⟨fun pre h => ?settled, fun t src pre h => ?ready, fun t src cause pre h => ?loss, fun pre h => ?lock,
    fun t pre h => ?trip, fun t pre h => ?holdValid, fun t pre h => ?recovered, fun t pre h => ?tripOver,
    fun t pre h => ?revert, fun t pre h => ?fault⟩
  case settled =>
    show execXoSettleDone pre = _
    exact ev0_effect (if_neg (of_decide_eq_true h))
  case lock =>
    show execTbLockDeclared pre = _
    exact ev0_effect (if_neg (of_decide_eq_true h))
  case ready =>
    show execSourceReady t src pre = _
    exact ev_effect_unless (of_decide_eq_true h) rfl
  case loss =>
    show execSourceLoss t src cause pre = _
    exact ev_effect_unless (of_decide_eq_true h) rfl
  all_goals obtain ⟨hr, hc⟩ := live_of h
  case tripOver =>
    show execPhaseTripRecovery t pre = _
    dsimp only at hc
    split at hc
    case h_2 => cases hc
    case h_1 at_ htrip =>
      split at hc
      case h_2 => cases hc
      case h_1 since hready =>
        refine ev_effect hr ?_
        simp only [htrip, hready]
        exact if_pos (of_decide_eq_true hc)
  case revert =>
    intro s ahead long x hx
    show execWellspringRevert t pre = _
    refine ev_effect hr ?_
    dsimp only
    split
    case h_1 y hy =>
      cases hy.symm.trans hx
      rfl
    case h_2 hnone => cases hnone.symm.trans hx
  case' trip => show execPhaseTrip t pre = _
  case' holdValid => show execHoldValidSet t pre = _
  case' recovered => show execRecoveringLocked t pre = _
  case' fault => show execLoopFaultStop t pre = _
  all_goals exact ev_effect hr (if_pos (of_decide_eq_true hc))

end Sys2Proof.Machine
end

section
/-! The opcodes of images, identity and slots (20_security.md R440 to R447). -/

namespace Sys2Proof.Machine

open Sys2Proof Sys2Proof.Safety

/-! ### A request whose reply, or whose own packets, are chained (16_command_transport.md R369) -/

section
variable {op : Op} {r : Req} {s : State}

/-- A request that is answered with a chain of packets. -/
theorem runOp_chain (h : reaches op r s = true) {s1 : State} {data : Bytes} {body : Bytes → State → Ans}
    (hb : body r.payload (seen op.code r s) = .chain s1 data) (ho : outside op = false := by rfl)
    (hc : op.chained = false := by rfl) :
    runOp op r s body = .next (finish s (answeredChain op.code r data s1)) := by
  rw [runOp_reaches h ho hc, hb, conclude_chain (code_of_not_outside ho).2]

/-- A packet enters flight once. -/
theorem entered_entered (code : Nat) (r : Req) (s : State) : entered code r (entered code r s) = entered code r s := by
  by_cases h : (s.pkt.inFlight.any (Flight.is r.org r.seq code) || !room r.org (20 + r.payload.length) s) = true
  · have hstay : entered code r s = s := if_pos h
    rw [hstay, hstay]
  · rw [entered, if_pos]
    simp [entered, h, Flight.is]

theorem runReq_entered (h : s.pwr.inReset = false) (part body : Bytes → State → Ans) :
    runReq op r (entered op.code r s) part body = runReq op r s part body := by
  simp only [runReq, entered_pwr, h, entered_entered, Bool.false_eq_true, if_false]

theorem inReset_of_reaches (h : reaches op r s = true) : s.pwr.inReset = false := by
  simp only [reaches, Bool.and_eq_true, Bool.not_eq_true'] at h
  exact h.1.1.1.1.1.1

end

/-! ### The load of an image and the reboot -/

section
variable {r : Req} {s : State}

theorem entered_sec (code : Nat) (r : Req) (s : State) : (entered code r s).sec = s.sec := by
  unfold entered
  split <;> rfl

theorem loadWaits_entered (code : Nat) (r : Req) (s : State) : loadWaits r (entered code r s) = loadWaits r s := by
  simp only [loadWaits, entered_sec, entered_orig]

theorem turn_of_reaches {op : Op} (h : reaches op r s = true) : turn op.code r (entered op.code r s) = true := by
  simp only [reaches, Bool.and_eq_true] at h
  exact h.1.1.1.1.1.2

/-- The last packet of a load, where its load does not wait, is answered with what the checks of R440 give. -/
theorem exec_opSecImageLoad (h : reaches { code := 0x0103, states := stBIARTS, chained := true } r s = true)
    (hw : loadWaits r s = false) :
    exec (.opSecImageLoad r) s =
      .next (finish s (conclude (owedTo r 0x0103) (loadEnd (whole r s) (seen 0x0103 r s)) (seen 0x0103 r s))) := by
  have hr := inReset_of_reaches h
  have ht := turn_of_reaches h
  dsimp only at ht
  have hload : loadPacket r (entered 0x0103 r s) =
      conclude (owedTo r 0x0103) (loadEnd (whole r s) (seen 0x0103 r s)) (seen 0x0103 r s) := by
    rw [loadPacket, runReq_entered (op := { code := 0x0103, states := stBIARTS, chained := true }) hr, runReq_reaches h rfl]
    rfl
  simp only [exec, execOpSecImageLoad, hr, ht, loadWaits_entered, hw, not_true_eq_false, Bool.false_eq_true, if_false, hload]

/-- A reboot that is executed resets the device once its reply has been queued (R443). -/
theorem exec_opSecReboot (h : reaches { code := 0x0106, states := stBIS } r s = true)
    (hp : passes [lenIs r.payload 4, rsv r.payload 0 4] = true) :
    let s1 := answered 0x0106 r .accepted 0 [] { seen 0x0106 r s with pwr := { (seen 0x0106 r s).pwr with inReset := true } }
    exec (.opSecReboot r) s = .next (resetDevice 4 0 (finish s { s1 with pwr := s.pwr })) := by
  intro s1
  have hrun : runReq { code := 0x0106, states := stBIS } r s (fun _ s => .done s)
      (fun p s => fourReserved p fun _ => .yes { s with pwr := { s.pwr with inReset := true } } .accepted 0 []) = s1 := by
    rw [runReq_reaches h rfl]
    simp only [fourReserved_passes hp, Bool.false_eq_true, if_false]
    exact conclude_yes (by decide) ..
  have hs1 : s1.pwr.inReset = true := by
    rw [pwr_of_kept (kept_answered ..)]
  simp only [exec, execOpSecReboot, hrun, hs1, inReset_of_reaches h, Bool.false_eq_true, not_false_eq_true, and_self, if_true]

end

/-- Checks that all pass leave a request to the checks after them. -/
theorem chk_append_passes {l : List (Bool × Status × Nat)} (h : passes l = true) (l' : List (Bool × Status × Nat))
    (k : Unit → Ans) : chk (l ++ l') k = chk l' k := by
  have hn : l.find? (fun c => c.1) = none := by simpa [passes] using h
  simp only [chk, List.find?_append, hn, Option.none_or]

/-- The first check of a list that fails refuses. -/
theorem chk_cons_fails {c : Bool × Status × Nat} (h : c.1 = true) (l : List (Bool × Status × Nat)) (k : Unit → Ans) :
    chk (c :: l) k = .no c.2.1 c.2.2 := by
  simp only [chk, List.find?_cons, h]

theorem chk_cons_passes {c : Bool × Status × Nat} (h : c.1 = false) (l : List (Bool × Status × Nat)) (k : Unit → Ans) :
    chk (c :: l) k = chk l k := by
  simp only [chk, List.find?_cons, h]

/-- Settles O12: each request reaches its chapter and passes the checks of its row; the end of a load besides its CRC, and an
owner's key the checks of R445 in their order. -/
theorem securityOpcodesComplete : Obligations.SecurityOpcodesComplete := by
  refine ⟨fun r s0 h => ?getId, fun r s0 h => ?quote, fun r s0 h => ?load, fun r s0 h => ?verify, fun r s0 h => ?tryOnce,
    fun r s0 h => ?permanent, fun r s0 h => ?reboot, fun r s0 h => ?fuse⟩
  case load =>
    simp only [Can.opSecImageLoad, Bool.and_eq_true, Bool.not_eq_true'] at h
    obtain ⟨⟨hr, hw⟩, hp⟩ := h
    rw [exec_opSecImageLoad hr hw, loadEnd, chk_passes hp, conclude_ite]
    rfl
  case permanent =>
    simp only [Can.opSecSlotSelectPermanent, Bool.and_eq_true] at h
    obtain ⟨⟨hr, hp⟩, hslot⟩ := h
    intro p s k rb s1
    by_cases hrb : rb ≤ s.mram.rollback
    · rw [if_pos hrb]
      exact runOp_yes hr ((chk_passes hp _).trans ((chk_passes hslot _).trans (if_pos hrb)))
    · rw [if_neg hrb]
      exact runOp_yes hr ((chk_passes hp _).trans ((chk_passes hslot _).trans (if_neg hrb)))
  all_goals obtain ⟨hr, hp⟩ := Bool.and_eq_true_iff.mp h
  case reboot => exact exec_opSecReboot hr hp
  case fuse =>
    intro p s pub hash signed s1
    have body : _ = chk [(!signed || !(ownerImage pub s 0 || ownerImage pub s 1), .auth, 0),
        (s.mram.ownerHash.isSome || otherPartial s.mram hash, .locked, 0)] fun _ => .done s1 := chk_append_passes hp _ _
    cases hauth : (!signed || !(ownerImage pub s 0 || ownerImage pub s 1))
    case true =>
      rw [if_neg (by rintro ⟨hsigned, himage⟩; simp [hsigned, himage] at hauth)]
      exact runOp_no hr (body.trans (chk_cons_fails hauth _ _))
    case false =>
      rw [if_pos (by simpa only [Bool.or_eq_false_iff, Bool.not_eq_false'] using hauth)]
      cases hlocked : (s.mram.ownerHash.isSome || otherPartial s.mram hash)
      case true => exact runOp_no hr (body.trans ((chk_cons_passes hauth _ _).trans (chk_cons_fails hlocked _ _)))
      case false => exact runOp_yes hr (body.trans ((chk_cons_passes hauth _ _).trans (chk_cons_passes hlocked _ _)))
  case getId | quote => exact runOp_chain hr (chk_passes hp _)
  case verify => exact runOp_later hr (chk_passes hp _)
  all_goals exact runOp_yes hr (chk_passes hp _)

end Sys2Proof.Machine
end

section
/-! Debug access, saved configuration and journal (20_security.md R437 to R452). A proof names an event's own definition before it
cites a rule about events: to meet `exec` with `ev` directly is slow. -/

namespace Sys2Proof.Machine

open Sys2Proof Sys2Proof.Safety

/-- Settles O13: each request reaches its chapter and passes the checks of its row; a load of the configuration finds a sound
record, and each event what waits for it. -/
theorem debugAndStoreComplete : Obligations.DebugAndStoreComplete := by
  refine ⟨fun r s0 h => ?challenge, fun r s0 h => ?lock, fun r s0 h => ?unlock, fun r s0 h => ?save, fun r s0 h => ?load,
    fun r s0 h => ?journal, fun t pre h => ?verified, fun t pre h => ?journalled, fun t pre h => ?fused, fun t pre h => ?saved,
    fun t values pre h => ?extest⟩
  case save =>
    simp only [Can.opSecCfgSave, Bool.and_eq_true] at h
    obtain ⟨⟨hr, hp⟩, hbusy⟩ := h
    exact runOp_later hr ((fourReserved_passes hp _).trans (chk_passes hbusy _))
  case load =>
    intro s c hc
    have hc : (seen 0x010B r s0).mram.cfg.find? (fun c => c.ok) = some c := hc
    simp only [Can.opSecCfgLoad, hc, Bool.and_eq_true, beq_iff_eq, Bool.not_eq_true'] at h
    obtain ⟨⟨hr, hp⟩, hver, hgated⟩ := h
    refine runOp_yes hr ((fourReserved_passes hp _).trans ?_)
    simp only [hc]
    exact if_neg (not_or.mpr ⟨not_not.mpr hver, by simp [hgated]⟩)
  case unlock =>
    obtain ⟨hr, hp⟩ := Bool.and_eq_true_iff.mp h
    intro p s x
    by_cases hok : ¬ debugResponseOk p s = true
    · rw [if_pos hok]
      exact runOp_yes hr ((chk_passes hp _).trans (if_pos hok))
    · rw [if_neg hok]
      by_cases hoff : s.mram.ownerDebugOff = true ∧ s.mram.ownerHash ≠ some (sm3 (bytesAt 64 p 4))
      · rw [if_pos hoff]
        exact runOp_yes hr ((chk_passes hp _).trans ((if_neg hok).trans (if_pos hoff)))
      · rw [if_neg hoff]
        exact runOp_yes hr ((chk_passes hp _).trans ((if_neg hok).trans (if_neg hoff)))
  case journal =>
    obtain ⟨hr, hp⟩ := Bool.and_eq_true_iff.mp h
    exact runOp_chain hr (chk_passes hp _)
  case challenge | lock =>
    obtain ⟨hr, hp⟩ := Bool.and_eq_true_iff.mp h
    exact runOp_yes hr (chk_passes hp _)
  case extest =>
    obtain ⟨hr, hc⟩ := live_of h
    show execExtest t values pre = _
    exact ev_effect hr (if_pos (of_decide_eq_true hc))
  all_goals obtain ⟨hr, -⟩ := live_of h
  case' verified =>
    intro s k why hfound img vr st s1 s2 s3
    show execSlotVerificationDone t pre = _
    have hfound : (advance t pre).sec.verifying = some (k, why) := hfound
  case' journalled =>
    intro s kind body rest hfound m
    show execJournalEntryWrite t pre = _
    have hfound : (advance t pre).sec.journalQ = (kind, body) :: rest := hfound
  case' fused =>
    intro s hash off hfound
    show execFuseBlowDone t pre = _
    have hfound : (advance t pre).sec.fusing = some (hash, off) := hfound
  case' saved =>
    intro s c w hfound
    show execCfgSaveDone t pre = _
    have hfound : (advance t pre).sec.saving = some (c, w) := hfound
  all_goals
    refine ev_effect hr ?_
    simp only [hfound]
    rfl

end Sys2Proof.Machine
end

section
/-! What a request that only reads may change: the control word of a locked timebase (17_opcodes.md R384, 18_timing.md R411,
R421). -/

namespace Sys2Proof.Machine

open Sys2Proof Sys2Proof.Safety

/-- A device in IDLE whose timebase is locked, with a control word that is not the one that a reading gives. -/
def lockedIdle : State :=
  { State.reset with
    sys := { State.reset.sys with state := .idle }
    clk := { State.reset.clk with tb := .locked, word := if sgn 32 (Config.freeNat 0 % 2 ^ 32) = 0 then 1 else 0 }
    pwr := { State.reset.pwr with inReset := false } }

/-- OP_CLK_GET_STATUS of the QSPI host. -/
def statusRequest : Req :=
  { org := 0, seq := 1, tag := 1, ackReq := true, abortOnErr := false, last := true, payload := [0, 0, 0, 0] }

/-- Answering a request lets no reaction wait. -/
theorem answered_occ (c : Nat) (r : Req) (st : Status) (d : Nat) (data : Bytes) (s : State) :
    (answered c r st d data s).occ = s.occ := by
  have enqueued (id : Nat) (q : Option Nat) (k : OutPkt) (a : State) : (queueReply id q k a).occ = a.occ := by
    unfold queueReply enqueue endFlight
    dsimp only
    (repeat' split) <;> rfl
  have noted (o : Owed) (a : State) : (noteFailure o st a).occ = a.occ := by
    unfold noteFailure
    split <;> rfl
  unfold answered answer enqueueReply
  dsimp only
  split
  · exact noted _ _
  · split
    · exact (enqueued _ _ _ _).trans (noted _ _)
    · exact noted _ _

/-- A device without a twin, with no reaction waiting and no Wellspring source ready, is quiet. -/
theorem quiet_of_untwinned {s : State} (hocc : s.occ = []) (hsources : s.clk.ready = []) (htwin : s.twin.enable = false)
    (hready : s.twin.ready = false) : quiet s = true := by
  have hnot : readyNow s = false := by simp [readyNow, timeAligned, htwin]
  simp [quiet, hocc, hsources, hnot, hready, Tbl.keys]

theorem lockedIdle_inv : Safety.Inv lockedIdle := by
  refine ⟨?gates, ?mode, rfl, rfl⟩
  case gates => intro e he; cases he
  case mode => intro _; rfl

theorem lockedIdle_quiet : quiet lockedIdle = true := quiet_of_untwinned rfl rfl rfl rfl

theorem statusRequest_executes : Can.opClkGetStatus statusRequest lockedIdle = true := rfl

/-- Reading the status of a locked timebase brings its control word with it. -/
theorem readWords_word {s : State} (h : s.clk.tb = .locked) :
    (readWords s).clk.word = sgn 32 (Config.freeNat s.draws % 2 ^ 32) := by
  simp [readWords, h]

/-- A reading of the words lets nothing react to it. -/
theorem readWords_rest (s : State) :
    (readWords s).occ = s.occ ∧ (readWords s).clk.ready = s.clk.ready ∧ (readWords s).twin = s.twin := by
  unfold readWords
  split <;> exact ⟨rfl, rfl, rfl⟩

theorem device_clk (s : State) : (device s).clk = s.clk := rfl

theorem device_twin (s : State) : (device s).twin = s.twin := rfl

theorem settle_clk (s : State) : (settle s).clk = s.clk := rfl

/-- A quiet command leaves the clocks as they are to its end. -/
theorem finish_quiet_clk {a b : State} (h : quiet b = true) : (finish a b).clk = b.clk := by
  rw [← device_clk, device_finish_quiet h, device_clk, settle_clk]

/-- An answer to a device without a twin, with nothing to react to, leaves the clocks as they are to the end of the command. -/
theorem finish_answered_clk (code : Nat) (r : Req) (data : Bytes) (a : State) {s : State} (hocc : s.occ = [])
    (hsources : s.clk.ready = []) (htwin : s.twin.enable = false) (hready : s.twin.ready = false) :
    (finish a (answered code r .ok 0 data s)).clk = s.clk := by
  have hdev : device (answered code r .ok 0 data s) = device s := by simp [answered]
  have hclk : (answered code r .ok 0 data s).clk = s.clk := by rw [← device_clk, hdev, device_clk]
  have htw : (answered code r .ok 0 data s).twin = s.twin := by rw [← device_twin, hdev, device_twin]
  have hquiet : quiet (answered code r .ok 0 data s) = true :=
    quiet_of_untwinned ((answered_occ ..).trans hocc) (hclk ▸ hsources) (htw ▸ htwin) (htw ▸ hready)
  exact (finish_quiet_clk hquiet).trans hclk

/-- The control word after OP_CLK_GET_STATUS of a LOCKED timebase. -/
theorem status_word {r : Req} {s0 : State} (h : Can.opClkGetStatus r s0 = true) (hocc : (seen 0x0305 r s0).occ = [])
    (hlocked : (seen 0x0305 r s0).clk.tb = .locked) (hsources : (seen 0x0305 r s0).clk.ready = [])
    (htwin : (seen 0x0305 r s0).twin.enable = false) (hready : (seen 0x0305 r s0).twin.ready = false) :
    ∃ t, exec (.opClkGetStatus r) s0 = .next t ∧ t.clk.word = sgn 32 (Config.freeNat (seen 0x0305 r s0).draws % 2 ^ 32) := by
  obtain ⟨-, -, -, -, -, hstatus, -⟩ := clockOpcodesComplete
  obtain ⟨hocc', hsources', htwin'⟩ := readWords_rest (seen 0x0305 r s0)
  refine ⟨_, hstatus r s0 h, ?_⟩
  rw [finish_answered_clk 0x0305 r]
  · exact readWords_word hlocked
  · exact hocc'.trans hocc
  · exact hsources'.trans hsources
  · exact (congrArg Twin.enable htwin').trans htwin
  · exact (congrArg Twin.ready htwin').trans hready

/-- Refutes O57: OP_CLK_GET_STATUS of a LOCKED timebase reads the control word, which then stands at the value that the loop has
moved it to. -/
theorem not_readsLeaveTheDevice : ¬ Obligations.ReadsLeaveTheDevice := by
  intro h
  obtain ⟨t, hexec, hkept⟩ := h (.opClkGetStatus statusRequest) lockedIdle rfl lockedIdle_inv lockedIdle_quiet
  have hword : t.clk = lockedIdle.clk := by rw [← device_clk, hkept, device_clk]
  obtain ⟨u, hu, hread⟩ := status_word statusRequest_executes rfl rfl rfl rfl rfl
  rw [hexec, Host.Outcome.next.injEq] at hu
  subst hu
  rw [hword] at hread
  have hfresh : (seen 0x0305 statusRequest lockedIdle).draws = 0 := rfl
  rw [hfresh] at hread
  have hother : (if sgn 32 (Config.freeNat 0 % 2 ^ 32) = 0 then 1 else 0) = sgn 32 (Config.freeNat 0 % 2 ^ 32) := hread
  split at hother <;> omega

end Sys2Proof.Machine
end

section
/-! Pond's opcodes and events (15_pond.md). -/

namespace Sys2Proof.Machine

open Sys2Proof Sys2Proof.Safety

/-- Settles O34: each request passes the checks of its row. -/
theorem pondOpcodesComplete : Obligations.PondOpcodesComplete := by
  refine ⟨fun r s0 h => ?capture, fun r s0 h => ?arm, fun r s0 h => ?disarm, fun r s0 h => ?trig, fun r s0 h => ?trigger,
    fun r s0 h => ?read, fun r s0 h => ?free, fun r s0 h => ?list, fun r s0 h => ?status⟩
  case arm =>
    intro s c hcfg s1
    have hcfg : (seen 0x1802 r s0).pond.cfg = some c := hcfg
    show execOpPondArm r s0 = _
    obtain ⟨hrp, hc⟩ := Bool.and_eq_true_iff.mp h
    obtain ⟨hr, hp⟩ := Bool.and_eq_true_iff.mp hrp
    simp only [hcfg] at hc
    refine runOp_yes hr ?_
    refine (fourReserved_passes hp _).trans ?_
    split
    case h_1 hnone => cases hcfg.symm.trans hnone
    case h_2 c' hsome =>
      cases hcfg.symm.trans hsome
      exact if_neg (of_decide_eq_true hc)
  case read =>
    intro p s x hx
    have hx : heldRec (seen 0x1806 r s0) (u64 r.payload 0) = some x := hx
    show execOpPondRead r s0 = _
    obtain ⟨hrp, hc⟩ := Bool.and_eq_true_iff.mp h
    obtain ⟨hr, hp⟩ := Bool.and_eq_true_iff.mp hrp
    simp only [hx] at hc
    refine runOp_yes hr ?_
    refine (chk_passes hp _).trans ?_
    simp only [hx]
    exact if_neg (of_decide_eq_true hc)
  all_goals
    obtain ⟨hr, hp⟩ := Bool.and_eq_true_iff.mp h
    exact runOp_yes hr (chk_passes hp _)

/-- Settles O35: each event finds the record, the frame or the instant that it is about. -/
theorem pondEventsComplete : Obligations.PondEventsComplete := by
  refine ⟨fun t pre h => ?frame, fun t source pre hr => ?input, fun t pre hr => ?asserted, fun t i pre h => ?edge,
    fun t pre h => ?release, fun t pre h => ?close, fun t pre h => ?rearm, fun t n pre h => ?acked, fun t n pre h => ?hold⟩
  case input =>
    show execPondTriggerInput t source pre = _
    exact ev_live hr
  case asserted =>
    show execXtrigAssert t pre = _
    exact ev_live hr
  all_goals obtain ⟨hr, hc⟩ := live_of h
  case frame =>
    intro s0 c hcfg
    have hcfg : (advance t pre).pond.cfg = some c := hcfg
    show execPondCaptureFrame t pre = _
    simp only [hcfg] at hc
    refine ev_effect hr ?_
    split
    case h_1 hnone => cases hcfg.symm.trans hnone
    case h_2 c' hsome =>
      cases hcfg.symm.trans hsome
      exact if_neg (of_decide_eq_true hc)
  case close =>
    intro s r hcur s1
    have hcur : (advance t pre).pond.cur = some r := hcur
    show execPondRecordClose t pre = _
    simp only [hcur] at hc
    refine ev_effect hr ?_
    simp only [hcur]
    exact if_pos (of_decide_eq_true hc)
  case edge =>
    show execTrigInEdge t i pre = _
    exact ev_effect hr (if_pos (of_decide_eq_true hc))
  case release =>
    show execXtrigDriveEnd t pre = _
    exact ev_effect hr (if_pos (of_decide_eq_true hc))
  case rearm =>
    show execPondRearmEnd t pre = _
    exact ev_effect hr (if_pos (of_decide_eq_true hc))
  case' acked => show execPondStreamAcked t n pre = _
  case' hold => show execPondReadHoldEnd t n pre = _
  all_goals
    dsimp only at hc
    split at hc
    case h_2 => cases hc
    case h_1 x hx =>
      refine ev_effect hr ?_
      simp only [hx]
      exact if_pos (of_decide_eq_true hc)

end Sys2Proof.Machine
end

section
/-! The partner table, sessions and group commands (12_partners_sessions.md). -/

namespace Sys2Proof.Machine

open Sys2Proof Sys2Proof.Safety

/-- Settles O41: each request passes the checks of its row. -/
theorem partnerOpcodesComplete : Obligations.PartnerOpcodesComplete := by
  refine ⟨fun r s0 h => ?set, fun r s0 h => ?remove, fun r s0 h => ?get, fun r s0 h => ?list, fun r s0 h => ?open_,
    fun r s0 h => ?close, fun r s0 h => ?status⟩
  case remove =>
    obtain ⟨hrest, hnode⟩ := Bool.and_eq_true_iff.mp h
    obtain ⟨hrest, hid⟩ := Bool.and_eq_true_iff.mp hrest
    obtain ⟨hr, hheld⟩ := Bool.and_eq_true_iff.mp hrest
    exact runOp_yes hr ((chk_passes hheld _).trans ((chk_passes hid _).trans (chk_passes hnode _)))
  all_goals
    obtain ⟨hr, hp⟩ := Bool.and_eq_true_iff.mp h
    exact runOp_yes hr (chk_passes hp _)

/-- Settles O42: each event finds its session, its partner or the work that waits. -/
theorem sessionEventsComplete : Obligations.SessionEventsComplete := by
  refine ⟨fun t path seg pre hr => ?segment, fun t ctx pre h => ?retx, fun t ctx pre h => ?ack, fun t ctx pre h => ?alive,
    fun t ctx pre h => ?probe, fun t ctx pre h => ?open_, fun t ctx pre h => ?close, fun t k pre h => ?auto,
    fun t k pre h => ?live, fun t txn pre h => ?slot⟩
  case segment =>
    show execSessionSegmentReceived t path seg pre = _
    exact ev_live hr
  all_goals obtain ⟨hr, hc⟩ := live_of h
  case retx =>
    intro s x u rest hunacked
    have hunacked : (sess (advance t pre) ctx).unacked = u :: rest := hunacked
    show execSessionRetxTimer t ctx pre = _
    dsimp only at hc
    split at hc
    case h_2 => cases hc
    case h_1 =>
      refine ev_effect hr ?_
      dsimp only
      split
      case h_1 hnone => cases hunacked.symm.trans hnone
      case h_2 hsome =>
        cases hunacked.symm.trans hsome
        exact if_neg (of_decide_eq_true hc)
  case ack =>
    show execSessionAckDue t ctx pre = _
    dsimp only at hc
    split at hc
    case h_2 => cases hc
    case h_1 e he =>
      refine ev_effect hr ?_
      simp only [he]
      exact if_pos (of_decide_eq_true hc)
  case auto =>
    intro s q c hfree
    have hfree : freeContext (advance t pre) = some c := hfree
    show execAutoSessionRetry t k pre = _
    dsimp only at hc
    split at hc
    case h_2 => cases hc
    case h_1 e he =>
      simp only [hfree] at hc
      refine ev_effect hr ?_
      simp only [he, hfree]
      exact if_pos (of_decide_eq_true hc)
  case slot =>
    intro s w rest hwaiting
    have hwaiting : (advance t pre).part.waiting = w :: rest := hwaiting
    show execTxnSlotFreed t txn pre = _
    simp only [hwaiting] at hc
    refine ev_effect hr ?_
    split
    case h_1 hnone => cases hwaiting.symm.trans hnone
    case h_2 v rest' hsome =>
      cases hwaiting.symm.trans hsome
      exact if_neg (of_decide_eq_true hc)
  case alive =>
    show execSessionKeepalive t ctx pre = _
    exact ev_effect hr (if_pos (of_decide_eq_true hc))
  case probe =>
    show execSessionProbe t ctx pre = _
    exact ev_effect hr (if_pos (of_decide_eq_true hc))
  case' open_ => show execSessionOpenRetx t ctx pre = _
  case' close => show execSessionCloseRetx t ctx pre = _
  case' live => show execPartnerLivenessTimeout t k pre = _
  all_goals exact ev_effect hr (if_neg (of_decide_eq_true hc))

section
variable {op : Op} {r : Req} {s : State}

/-- A chained request that reaches its chapter is answered with what the chapter gives of its whole payload (R369). -/
theorem chained_yes (h : reaches op r s = true) {s1 : State} {st : Status} {d : Nat} {data : Bytes}
    {part body : Bytes → State → Ans} (hb : body (whole r s) (seen op.code r s) = .yes s1 st d data)
    (ho : outside op = false := by rfl) (hc : op.chained = true := by rfl) :
    .next (finish s (runReq op r s part body)) = (.next (finish s (answered op.code r st d data s1)) : Out) := by
  rw [runReq_reaches h ho, if_pos hc, hb, conclude_yes (code_of_not_outside ho).2]

/-- A chained request that reaches its chapter and whose reply is deferred (R369). -/
theorem chained_later (h : reaches op r s = true) {s1 : State} {part body : Bytes → State → Ans}
    (hb : body (whole r s) (seen op.code r s) = .later s1) (ho : outside op = false := by rfl)
    (hc : op.chained = true := by rfl) :
    .next (finish s (runReq op r s part body)) = (.next (finish s (deferred op.code r s1)) : Out) := by
  rw [runReq_reaches h ho, if_pos hc, hb, conclude_later (code_of_not_outside ho).2]

end

theorem passes_append {l l' : List (Bool × Status × Nat)} : passes (l ++ l') = true ↔ passes l = true ∧ passes l' = true := by
  simp [passes]

/-- Settles O43: each request passes the checks of its row, and each event finds its transaction. -/
theorem groupCommandsComplete : Obligations.GroupCommandsComplete := by
  refine ⟨fun r s0 h => ?group, fun r s0 h => ?prepare, fun r s0 h => ?commit, fun r s0 h => ?cancel,
    fun t org opcode tag payload pre h => ?reply, fun t txn pre h => ?deadline, fun t txn pre h => ?abandon,
    fun t txn pre h => ?due, fun t txn pre h => ?execute, fun t txn pre hr => ?expiry⟩
  case group =>
    obtain ⟨hr, hp⟩ := Bool.and_eq_true_iff.mp h
    show execOpPartGroup r s0 = _
    exact chained_later hr (chk_passes hp _)
  case prepare =>
    obtain ⟨hr, hp⟩ := Bool.and_eq_true_iff.mp h
    obtain ⟨hp, htry⟩ := Bool.and_eq_true_iff.mp hp
    show execOpPartPrepare r s0 = _
    exact chained_yes hr ((chk_passes hp _).trans (chk_passes htry _))
  case commit =>
    obtain ⟨hrp, hc⟩ := Bool.and_eq_true_iff.mp h
    obtain ⟨hr, hp⟩ := Bool.and_eq_true_iff.mp hrp
    show execOpPartCommit r s0 = _
    obtain ⟨hchecks, htime⟩ := passes_append.mp (show passes ([_, _, _, _, _] ++ [_]) = true from hp)
    refine runOp_later hr ?_
    refine (chk_passes hchecks _).trans ?_
    have hlate :
        decide ((ntField r.payload 4 : Rat) ≤ ntAt (dropExpired (seen 0x2208 r s0)) (dropExpired (seen 0x2208 r s0)).now) =
          false := by simpa [passes] using htime
    split at hc
    case h_2 => cases hc
    case h_1 x hheld =>
      have hfree : ¬ x.commit.isSome = true := by simpa using hc
      simp only [hheld, if_neg hfree, hlate]
      rfl
  case cancel =>
    obtain ⟨hr, hp⟩ := Bool.and_eq_true_iff.mp h
    show execOpPartCancel r s0 = _
    refine runOp_yes hr ?_
    refine (chk_passes hp _).trans ?_
    dsimp only
    cases findHeld (seen 0x2209 r s0) r.org (u16 r.payload 0) with
    | none => rfl
    | some x => cases hcommit : x.commit <;> simp only [hcommit, Ans.done]
  case expiry =>
    show execPreparedTxnExpiry t txn pre = _
    exact ev_live hr
  all_goals obtain ⟨hr, hc⟩ := live_of h
  case reply =>
    intro s x hsent
    show execReplyPacketReceived t org opcode tag payload pre = _
    simp only [s] at hsent
    refine ev_effect hr ?_
    simp only [hsent]
    rfl
  case execute =>
    intro s nt ready x hheld due w hcommit a
    show execGroupMemberExecute t txn pre = _
    obtain ⟨hbound, -⟩ := Bool.and_eq_true_iff.mp hc
    refine ev_effect hr ?_
    refine (if_neg (of_decide_eq_true hbound)).trans ?_
    split
    case h_1 hnone => cases hnone.symm.trans hheld
    case h_2 y hy =>
      cases hy.symm.trans hheld
      simp only [hcommit]
      rfl
  all_goals
    intro s g hgroup
    have hgroup : findGroup (advance t pre) txn = some g := hgroup
    simp only [hgroup] at hc
  case deadline =>
    show execGroupPrepareDeadline t txn pre = _
    refine ev_effect hr ?_
    simp only [hgroup]
    exact if_neg (of_decide_eq_true hc)
  case abandon =>
    show execGroupCommitAbandon t txn pre = _
    split at hc
    case h_2 => cases hc
    case h_1 e he =>
      refine ev_effect hr ?_
      simp only [hgroup, he]
      exact if_neg (of_decide_eq_true hc)
  case due =>
    show execGroupReplyDue t txn pre = _
    split at hc
    case h_2 => cases hc
    case h_1 e he =>
      refine ev_effect hr ?_
      simp only [hgroup, he]
      exact if_pos (of_decide_eq_true hc)

end Sys2Proof.Machine
end

section
/-! The Ethernet ports, GOOSE and sampled values (13_plant_network_time.md). -/

namespace Sys2Proof.Machine

open Sys2Proof Sys2Proof.Safety

/-- Settles O44: each request passes the checks of its row, and each event finds its port, its pair or its stamp. -/
theorem portsComplete : Obligations.PortsComplete := by
  refine ⟨fun r s0 h => ?set, fun r s0 h => ?send, fun r s0 h => ?stamps, fun r s0 h => ?get, fun t n up pre h => ?link,
    fun t pair pre h => ?supervision, fun t pair pre h => ?forget, fun t n pre h => ?stamp, fun t n frame pre h => ?frame⟩
  case set =>
    obtain ⟨hrp, hgate⟩ := Bool.and_eq_true_iff.mp h
    obtain ⟨hp, hgate⟩ := Bool.and_eq_true_iff.mp hgate
    show execOpNetSetPort r s0 = _
    refine runOp_yes hrp ?_
    refine (chk_passes hp _).trans ?_
    exact writeOf_running (of_decide_eq_true hgate) _
  case send =>
    obtain ⟨hr, hp⟩ := Bool.and_eq_true_iff.mp h
    obtain ⟨hp, hgate⟩ := Bool.and_eq_true_iff.mp hp
    show execOpNetSend r s0 = _
    refine chained_yes hr ?_
    refine (chk_passes hp _).trans ?_
    exact writeOf_running (of_decide_eq_true hgate) _
  case stamps =>
    obtain ⟨hr, hp⟩ := Bool.and_eq_true_iff.mp h
    intro p s n x out data
    show execOpNetTsqRead r s0 = _
    by_cases hgate : s.clk.gateMask.testBit (4 + n) = true
    · rw [if_pos hgate]
      refine runOp_yes hr ?_
      exact (chk_passes hp _).trans (if_pos hgate)
    · rw [if_neg hgate]
      refine runOp_yes hr ?_
      exact (chk_passes hp _).trans (if_neg hgate)
  case get =>
    obtain ⟨hrp, hgate⟩ := Bool.and_eq_true_iff.mp h
    obtain ⟨hr, hp⟩ := Bool.and_eq_true_iff.mp hrp
    show execOpNetGetPort r s0 = _
    refine runOp_yes hr ?_
    exact (oneByte_passes hp _).trans (giveOf_running (of_decide_eq_true hgate) _)
  all_goals obtain ⟨hr, hc⟩ := live_of h
  case stamp =>
    intro s p id rest hstamping d
    have hstamping : (port (advance t pre) n).stamping = id :: rest := hstamping
    show execTxTimestamp t n pre = _
    refine ev_effect hr ?_
    dsimp only
    split
    case h_1 hnone => cases hstamping.symm.trans hnone
    case h_2 hsome =>
      cases hstamping.symm.trans hsome
      rfl
  case supervision =>
    show execPrpSupervisionTx t pair pre = _
    exact ev_effect hr (if_pos (of_decide_eq_true hc))
  case' link => show execEthernetLinkChange t n up pre = _
  case' forget => show execPrpNodeForget t pair pre = _
  case' frame => show execEthernetFrameReceived t n frame pre = _
  all_goals exact ev_effect hr (if_neg (of_decide_eq_true hc))

/-- Settles O45: each request passes the checks of its row, and each event finds its publication, its subscription, its stream or
its port. -/
theorem publicationsComplete : Obligations.PublicationsComplete := by
  refine ⟨fun r s0 h => ?pub, fun r s0 h => ?value, fun r s0 h => ?sub, fun r s0 h => ?sv, fun t pub pre h => ?repeated,
    fun t sub pre h => ?lost, fun t stream pre h => ?sample, fun t n frame pre h => ?frame⟩
  case pub | value | sub | sv =>
    obtain ⟨hr, hp⟩ := Bool.and_eq_true_iff.mp h
    exact runOp_yes hr (chk_passes hp _)
  all_goals obtain ⟨hr, hc⟩ := live_of h
  case repeated =>
    intro s g hfound i x
    have hfound : Tbl.find pub (advance t pre).net.pub = some g := hfound
    show execGooseRepeatTx t pub pre = _
    simp only [hfound] at hc
    refine ev_effect hr ?_
    simp only [hfound]
    exact if_neg (of_decide_eq_true hc)
  case lost =>
    intro s g hfound
    have hfound : Tbl.find sub (advance t pre).net.sub = some g := hfound
    show execGooseSubLost t sub pre = _
    simp only [hfound] at hc
    refine ev_effect hr ?_
    simp only [hfound]
    exact if_pos (of_decide_eq_true hc)
  case sample =>
    intro s v hfound x hnext
    have hfound : Tbl.find stream (advance t pre).net.sv = some v := hfound
    have hnext : (if v.enable = true ∧ tbRuns (advance t pre) = true then v.nextNs else none) = some x := hnext
    show execSvSamplePublish t stream pre = _
    simp only [hfound, hnext] at hc
    refine ev_effect hr ?_
    simp only [hfound, hnext]
    exact if_neg (of_decide_eq_true hc)
  case frame =>
    show execGooseFrameReceived t n frame pre = _
    exact ev_effect hr (if_neg (of_decide_eq_true hc))

end Sys2Proof.Machine
end

section
/-! Twin operation: the cap and what its link brings (14_twin.md). -/

namespace Sys2Proof.Machine

open Sys2Proof Sys2Proof.Safety

/-- Settles O46: each request passes the checks of its row, and each event finds the pulse or the lease that it is about. -/
theorem twinOpcodesComplete : Obligations.TwinOpcodesComplete := by
  refine ⟨fun r s0 h => ?config, fun r s0 h => ?release, fun r s0 h => ?status, fun t pre h => ?pulse, fun t pre h => ?watch,
    fun t width pre h => ?heard, fun t pre h => ?lease, fun t pre h => ?take, fun t pre h => ?initial, fun t pre h => ?wait⟩
  case config =>
    obtain ⟨hr, hp⟩ := Bool.and_eq_true_iff.mp h
    show execOpTwinSetConfig r s0 = _
    refine runOp_yes hr ?_
    dsimp only at hp ⊢
    rw [chk_passes hp]
    rfl
  case release =>
    obtain ⟨hr, hp⟩ := Bool.and_eq_true_iff.mp h
    show execOpTwinRelease r s0 = _
    refine runOp_yes hr ?_
    rw [chk_passes hp]
  case status =>
    obtain ⟨hr, hp⟩ := Bool.and_eq_true_iff.mp h
    exact runOp_yes hr (fourReserved_passes hp _)
  all_goals obtain ⟨hr, hc⟩ := live_of h
  case pulse =>
    show execCapHeartbeatPulse t pre = _
    exact ev_effect hr (if_pos (of_decide_eq_true hc))
  case watch =>
    show execHeartbeatStepWatch t pre = _
    exact ev_effect hr (if_pos (of_decide_eq_true hc))
  case heard =>
    show execCapInPulse t width pre = _
    exact ev_effect hr (if_neg (of_decide_eq_true hc))
  case initial =>
    show execInitialCapTake t pre = _
    exact ev_effect hr (if_pos (of_decide_eq_true hc))
  case' lease => show execLeaseExpiry t pre = _
  case' take => show execCapTake t pre = _
  case' wait => show execReleaseTakeWaitEnd t pre = _
  all_goals
    dsimp only at hc
    split at hc
    case h_2 => cases hc
    case h_1 x hx =>
      refine ev_effect hr ?_
      simp only [hx]
      exact if_pos (of_decide_eq_true hc)

/-- Settles O47: a message of the twin's link is taken by what it is, and each event of the device's own finds its update, its
report or its plan. -/
theorem twinLinkComplete : Obligations.TwinLinkComplete := by
  refine ⟨fun t m pre hr => ?mirror, fun t pre h => ?compare, fun t f pre hr => ?relayed, fun t opcode p pre hr => ?forwarded,
    fun t pre h => ?report, fun t b pre hr => ?health, fun t id pre h => ?plan⟩
  case mirror =>
    show execMirrorUpdateReceived t m pre = _
    exact ev_live hr
  case relayed =>
    show execRelayedCommandReceived t f pre = _
    exact ev_live hr
  case forwarded =>
    show execForwardedStateOpcode t opcode p pre = _
    exact ev_live hr
  case health =>
    show execHealthReportReceived t b pre = _
    exact ev_live hr
  all_goals obtain ⟨hr, hc⟩ := live_of h
  case compare =>
    intro s m hmirror
    have hmirror : (advance t pre).twin.mirror = some m := hmirror
    show execShadowCompare t pre = _
    simp only [hmirror] at hc
    refine ev_effect hr ?_
    simp only [hmirror]
    exact if_pos (of_decide_eq_true hc)
  case report =>
    show execHealthReportTx t pre = _
    exact ev_effect hr (if_neg (of_decide_eq_true hc))
  case plan =>
    intro s a harm c late gone s1 from_ fc
    have harm : armOf (advance t pre) id = some a := harm
    show execPlanRefreshDue t id pre = _
    simp only [harm] at hc
    refine ev_effect hr ?_
    simp only [harm]
    exact if_neg (of_decide_eq_true hc)

end Sys2Proof.Machine
end

section
/-! Slack, counters, self-test, ball read-back, test permits and injections (21_test_diagnostics.md). -/

namespace Sys2Proof.Machine

open Sys2Proof Sys2Proof.Safety

/-- Settles O48: each request passes the checks of its row, and each event finds its check or its ball. -/
theorem diagnosticsComplete : Obligations.DiagnosticsComplete := by
  refine ⟨fun r s0 h => ?slack, fun r s0 h => ?counters, fun r s0 h => ?clear, fun r s0 h => ?selftest,
    fun t check pass pre h => ?check, fun t ball level pre h => ?ball⟩
  case slack | counters | clear | selftest =>
    obtain ⟨hr, hp⟩ := Bool.and_eq_true_iff.mp h
    exact runOp_yes hr (chk_passes hp _)
  all_goals obtain ⟨hr, hc⟩ := live_of h
  case check =>
    show execSelftestCheckRun t check pass pre = _
    exact ev_effect hr (if_neg (of_decide_eq_true hc))
  case ball =>
    intro s d hdriven s1 l
    have hdriven : (if (advance t pre).sys.state = .boot then none else drivenLevel (advance t pre) ball) = some d := hdriven
    show execBallReadback t ball level pre = _
    refine ev_effect hr ?_
    simp only [hdriven]
    rfl

/-- Settles O49: each request passes the checks of its row, a grant is admitted or not by its key, and each event finds its
permit or its slot. -/
theorem testsComplete : Obligations.TestsComplete := by
  refine ⟨fun r s0 h => ?challenge, fun r s0 h => ?grant, fun r s0 h => ?revoke, fun t pre h => ?expiry, fun r s0 h => ?inject,
    fun r s0 h => ?stop, fun r s0 h => ?status, fun t slot pre h => ?ended, fun t slot pre hr => ?released⟩
  case challenge | revoke | inject | stop | status =>
    obtain ⟨hr, hp⟩ := Bool.and_eq_true_iff.mp h
    exact runOp_yes hr (chk_passes hp _)
  case grant =>
    obtain ⟨hr, hp⟩ := Bool.and_eq_true_iff.mp h
    intro p s s1
    show execOpTestPermitGrant r s0 = _
    by_cases hok : grantOk p s = true
    · rw [if_pos hok]
      exact runOp_yes hr ((chk_passes hp _).trans (if_pos hok))
    · rw [if_neg hok]
      exact runOp_yes hr ((chk_passes hp _).trans (if_neg hok))
  case released =>
    show execInjectedItemRelease t slot pre = _
    exact ev_live hr
  all_goals obtain ⟨hr, hc⟩ := live_of h
  case expiry =>
    show execTestPermitExpiry t pre = _
    exact ev_effect hr (if_pos (of_decide_eq_true hc))
  case ended =>
    show execTestInjectionEnd t slot pre = _
    dsimp only at hc
    split at hc
    case h_2 => cases hc
    case h_1 i hfound =>
      refine ev_effect hr ?_
      simp only [hfound]
      exact if_pos (of_decide_eq_true hc)

end Sys2Proof.Machine
end
